-- ==== Sys2Proof/Word.lean ====
section
/-! DEFINITION. The plainest arithmetic of the AZ-4160 model: the byte, saturating counts and rounding up. -/

namespace Sys2Proof

/-- One byte on an agent port or on a panel chain. -/
abbrev Byte := BitVec 8

/-- Adds to a counter that stays at its maximum (R32, R100, R115, R168). -/
def satAdd (top count more : Nat) : Nat := min (count + more) top

/-- Division rounded up (R11, R142). -/
def ceilDiv (n d : Nat) : Nat := (n + (d - 1)) / d

end Sys2Proof
end

