-- ==== Sys2Proof/Syntax.lean ====
section
/-! DEFINITION. The commands and events of the AZ-4160: one constructor of `Instr` for each row of
spec/opcode_table.json, with the operands the rules give it. -/

namespace Sys2Proof

/-! ### Names shared by commands, frames and state -/

/-- The three agent ports. -/
inductive Port where
  | a | b | c
deriving DecidableEq, Repr

/-- The roles a port's mask may hold (R189). -/
inductive Role where
  | sched | cater | facil
deriving DecidableEq, Repr

/-- A role mask, any subset of the three roles (R189). Strap pin 0 gives SCHED, 1 CATER, 2 FACIL. -/
structure RoleMask where
  sched : Bool
  cater : Bool
  facil : Bool
deriving DecidableEq, Repr

/-- A set of agent ports, as a routing entry holds it (11.3). -/
structure PortSet where
  a : Bool
  b : Bool
  c : Bool
deriving DecidableEq, Repr

/-- A handle: an index into a record pool and a generation. The letter B, O or W is given by its use. -/
structure Handle where
  index : Nat
  gen : BitVec 8
deriving DecidableEq, Repr

/-- The options of a room (1.1). -/
structure RoomOptions where
  checkinRequired : Bool
  sensorCheckin : Bool
  autoEnd : Bool
  walkupAllowed : Bool
deriving DecidableEq, Repr

/-- The panel unit id choice of CONFIG_ROOM (R3). -/
inductive UnitChoice where
  | bind (unitId : BitVec 32)
  | remove
  | absent
deriving DecidableEq, Repr

/-- The kitchen a catering request names (8.3). -/
inductive KitchenChoice where
  | any
  | kitchen (k : Nat)
deriving DecidableEq, Repr

/-- The four fields of a catering request (8.3, R141). -/
structure CaterRequest where
  kitchen : KitchenChoice
  cls : Nat
  covers : Nat
  offset : Int
deriving DecidableEq, Repr

/-- The routing modes (R180, R181, R182). -/
inductive RouteMode where
  | fixed | least | owner
deriving DecidableEq, Repr

/-! ### The fields of the commands that carry several -/

/-- The fields of CONFIG_ROOM (R3). -/
structure ConfigRoomArgs where
  room : Nat
  building : Nat
  seats : Nat
  setup : Nat
  clear : Nat
  options : RoomOptions
  grace : Option Nat
  threshold : Option Nat
  unitChoice : UnitChoice
deriving DecidableEq, Repr

/-- The fields of HOLD (R42). -/
structure HoldArgs where
  room : Nat
  plane : Nat
  start : Nat
  stop : Nat
  attendees : Nat
  organizer : BitVec 32
  label : BitVec 16
  holdMinutes : Nat
  cater : Option CaterRequest
  waitIfBusy : Bool
deriving DecidableEq, Repr

/-- The fields of MODIFY beside the handle and the expected revision (R48). -/
structure ModifyArgs where
  label : Option (BitVec 16)
  organizer : Option (BitVec 32)
  attendees : Option Nat
deriving DecidableEq, Repr

/-- The fields of MOVE beside the handle and the expected revision (R49): `times` is the new pair of
start and end minutes. -/
structure MoveArgs where
  room : Option Nat
  plane : Option Nat
  times : Option (Nat × Nat)
  dropCatering : Bool
deriving DecidableEq, Repr

/-- The fields of BLOCK (R53). -/
structure BlockArgs where
  room : Nat
  plane : Nat
  start : Nat
  stop : Nat
  organizer : BitVec 32
  label : BitVec 16
deriving DecidableEq, Repr

/-- The fields of WAIT_ADD (R64); `expiry` is a plane and a minute of day. -/
structure WaitAddArgs where
  rooms : List Nat
  plane : Nat
  start : Nat
  stop : Nat
  flex : Nat
  attendees : Nat
  organizer : BitVec 32
  label : BitVec 16
  expiry : Option (Nat × Nat)
  cater : Option CaterRequest
deriving DecidableEq, Repr

/-- The fields of CATER_CHANGE beside the handle and the expected revision (R159). -/
structure CaterChangeArgs where
  covers : Option Nat
  cls : Option Nat
  offset : Option Int
  kitchen : Option KitchenChoice
deriving DecidableEq, Repr

/-- What READ_KITCHEN_SETUP asks for (R138). -/
inductive SetupSelector where
  | kitchen (k : Nat)
  | classes
deriving DecidableEq, Repr

/-- What READ_USAGE asks for (R175). -/
inductive UsageSelector where
  | rooms (first : Nat)
  | kitchen (k : Nat)
deriving DecidableEq, Repr

/-- What QUERY_ORDER names (R167). -/
inductive OrderSelector where
  | order (h : Handle)
  | booking (h : Handle)
deriving DecidableEq, Repr

/-- The fields of CONFIG_ROUTE (R178); `mode` is none where the value names none of the three modes. -/
structure ConfigRouteArgs where
  kind : Nat
  enabled : Bool
  mode : Option RouteMode
  ports : PortSet
  priority : Nat
deriving DecidableEq, Repr

/-- Why a well-formed frame is answered RANGE before any command's own checks (R193). -/
inductive BadCommand where
  | unknownIdentifier (ident : Byte)
  | badPayloadLength (ident : Byte)
deriving DecidableEq, Repr

/-- A command as a well-formed command frame names it (12.6): its identifier and its fields. -/
inductive Command where
  | readRoom (room : Nat)
  | configSite (count : Nat)
  | configRoom (args : ConfigRoomArgs)
  | openRoom (room : Nat)
  | closeRoom (room : Nat)
  | closeRoomForce (room : Nat)
  | openDevice
  | reconfigure
  | setMinuteSync (enable : Bool)
  | setTime (day minute seconds : Nat)
  | adjustTimeForward (amount : Nat)
  | adjustTimeBackward (amount : Nat)
  | hold (args : HoldArgs)
  | confirm (h : Handle) (expected : Nat)
  | modify (h : Handle) (expected : Nat) (args : ModifyArgs)
  | move (h : Handle) (expected : Nat) (args : MoveArgs)
  | cancel (h : Handle) (expected : Nat)
  | block (args : BlockArgs)
  | unblock (h : Handle) (expected : Nat)
  | queryBooking (h : Handle)
  | queryRoomDay (room plane start : Nat)
  | listChanges (since : Nat)
  | listNext
  | waitAdd (args : WaitAddArgs)
  | waitRemove (h : Handle)
  | queryWaitlist (start : Nat)
  | checkIn (h : Handle) (expected : Nat)
  | extend (h : Handle) (expected : Nat)
  | readLinkCounters (chain : Nat)
  | chainReset (chain : Nat)
  | readPanels (chain start : Nat)
  | configKitchen (kitchen : Nat) (isOpen : Bool) (overbook : Nat)
  | setCapacity (kitchen first : Nat) (values : List Nat)
  | defineClass (cls weight lead minCovers : Nat)
  | setTransit (building t0 t1 t2 t3 : Nat)
  | readKitchenSetup (sel : SetupSelector)
  | kitchenLoad (kitchen first count : Nat)
  | caterOrder (h : Handle) (expected : Nat) (request : CaterRequest)
  | caterChange (h : Handle) (expected : Nat) (args : CaterChangeArgs)
  | caterCancel (h : Handle) (expected : Nat)
  | caterDelivered (h : Handle) (expected : Nat)
  | queryOrder (sel : OrderSelector)
  | snapshot
  | setAutoSnapshot (value : Bool)
  | readUsage (sel : UsageSelector)
  | configRoute (args : ConfigRouteArgs)
  | readRoutes (first : Nat)
  | status
  | narrowRoles (letter mask : Nat)
  | bad (why : BadCommand)
deriving DecidableEq, Repr

/-! ### Frames -/

/-- A command frame as the port receives it (R194): length, tag, identifier, payload and check, and the
command that its identifier and payload spell (the numeric identifiers are not listed in the manual). -/
structure CommandFrame where
  length : Byte
  tag : Byte
  ident : Byte
  payload : List Byte
  check : BitVec 16
  cmd : Command
deriving DecidableEq, Repr

/-- The kinds of panel frame (6.2). -/
inductive FrameKind where
  | enumerate | rollcall | display | enumReply | rollReply
deriving DecidableEq, Repr

/-- What a sensor raw value says (6.2). -/
inductive SensorRaw where
  | occupied | vacant | none
deriving DecidableEq, Repr

/-- What a key code says (6.2). -/
inductive KeyCode where
  | none | checkIn | endNow | extend | bookNow | delivered
deriving DecidableEq, Repr

/-- The three fault bits of a panel (6.2). -/
structure PanelFaults where
  lamp : Bool
  display : Bool
  sensor : Bool
deriving DecidableEq, Repr

/-- An upstream frame as it arrives (6.2, R98): its bytes, and what its header byte and the coded bytes of a
ROLL_REPLY say (the numeric codes are not listed in the manual). `cut` is a frame cut short by a start marker. -/
structure UpFrame where
  cut : Bool
  header : Byte
  kind : Option FrameKind
  rerr : Bool
  address : Byte
  length : Byte
  payload : List Byte
  check : BitVec 16
  sensor : SensorRaw
  key : KeyCode
  faults : PanelFaults
deriving DecidableEq, Repr

/-- A clock that has stalled at a port: whether the last check byte of the read in progress has been clocked out
(R192, R195). -/
structure Stall where
  port : Port
  lastByteOut : Bool
deriving DecidableEq, Repr

/-! ### The rows of the table -/

/-- One constructor for each row of spec/opcode_table.json. An agent command carries the port it is sent on
and its frame tag before its own fields; a deadline row names the pool index or the room whose deadline it
takes; a chain row names the chain, and the milliseconds passed on the chain's timer where they matter. -/
inductive Instr where
  | resetAsserted
  | coldReset (strapsA strapsB strapsC : RoleMask)
  | secondTick
  | minuteAdvance
  | dayRollover
  | minuteSync
  | holdEnd (index : Nat)
  | arrival (index : Nat)
  | graceEnd (index : Nat)
  | unverifiedEnd (index : Nat)
  | endDeadline (index : Nat)
  | waitExpiry (index : Nat)
  | autoEnd (room : Nat)
  | displayDeadline (room : Nat)
  | cutoffDeadline (index : Nat)
  | dispatchDeadline (index : Nat)
  | lateDeadline (index : Nat)
  | readRoom (p : Port) (tag : Byte) (room : Nat)
  | configSite (p : Port) (tag : Byte) (count : Nat)
  | configRoom (p : Port) (tag : Byte) (args : ConfigRoomArgs)
  | openRoom (p : Port) (tag : Byte) (room : Nat)
  | closeRoom (p : Port) (tag : Byte) (room : Nat)
  | closeRoomForce (p : Port) (tag : Byte) (room : Nat)
  | openDevice (p : Port) (tag : Byte)
  | reconfigure (p : Port) (tag : Byte)
  | setMinuteSync (p : Port) (tag : Byte) (enable : Bool)
  | setTime (p : Port) (tag : Byte) (day minute seconds : Nat)
  | adjustTimeForward (p : Port) (tag : Byte) (amount : Nat)
  | adjustTimeBackward (p : Port) (tag : Byte) (amount : Nat)
  | hold (p : Port) (tag : Byte) (args : HoldArgs)
  | confirm (p : Port) (tag : Byte) (h : Handle) (expected : Nat)
  | modify (p : Port) (tag : Byte) (h : Handle) (expected : Nat) (args : ModifyArgs)
  | move (p : Port) (tag : Byte) (h : Handle) (expected : Nat) (args : MoveArgs)
  | cancel (p : Port) (tag : Byte) (h : Handle) (expected : Nat)
  | block (p : Port) (tag : Byte) (args : BlockArgs)
  | unblock (p : Port) (tag : Byte) (h : Handle) (expected : Nat)
  | queryBooking (p : Port) (tag : Byte) (h : Handle)
  | queryRoomDay (p : Port) (tag : Byte) (room plane start : Nat)
  | listChanges (p : Port) (tag : Byte) (since : Nat)
  | listNext (p : Port) (tag : Byte)
  | waitAdd (p : Port) (tag : Byte) (args : WaitAddArgs)
  | waitRemove (p : Port) (tag : Byte) (h : Handle)
  | queryWaitlist (p : Port) (tag : Byte) (start : Nat)
  | checkIn (p : Port) (tag : Byte) (h : Handle) (expected : Nat)
  | extend (p : Port) (tag : Byte) (h : Handle) (expected : Nat)
  | readLinkCounters (p : Port) (tag : Byte) (chain : Nat)
  | chainReset (p : Port) (tag : Byte) (chain elapsed : Nat)
  | readPanels (p : Port) (tag : Byte) (chain start : Nat)
  | configKitchen (p : Port) (tag : Byte) (kitchen : Nat) (isOpen : Bool) (overbook : Nat)
  | setCapacity (p : Port) (tag : Byte) (kitchen first : Nat) (values : List Nat)
  | defineClass (p : Port) (tag : Byte) (cls weight lead minCovers : Nat)
  | setTransit (p : Port) (tag : Byte) (building t0 t1 t2 t3 : Nat)
  | readKitchenSetup (p : Port) (tag : Byte) (sel : SetupSelector)
  | kitchenLoad (p : Port) (tag : Byte) (kitchen first count : Nat)
  | caterOrder (p : Port) (tag : Byte) (h : Handle) (expected : Nat) (request : CaterRequest)
  | caterChange (p : Port) (tag : Byte) (h : Handle) (expected : Nat) (args : CaterChangeArgs)
  | caterCancel (p : Port) (tag : Byte) (h : Handle) (expected : Nat)
  | caterDelivered (p : Port) (tag : Byte) (h : Handle) (expected : Nat)
  | queryOrder (p : Port) (tag : Byte) (sel : OrderSelector)
  | snapshot (p : Port) (tag : Byte)
  | setAutoSnapshot (p : Port) (tag : Byte) (value : Bool)
  | readUsage (p : Port) (tag : Byte) (sel : UsageSelector)
  | configRoute (p : Port) (tag : Byte) (args : ConfigRouteArgs)
  | readRoutes (p : Port) (tag : Byte) (first : Nat)
  | status (p : Port) (tag : Byte)
  | narrowRoles (p : Port) (tag : Byte) (letter mask : Nat)
  | unknownCommand (p : Port) (tag : Byte) (why : BadCommand)
  | commandSyncByte (p : Port)
  | voidTransaction (p : Port) (first : Byte)
  | commandFrameLengthFault (p : Port) (length : Byte)
  | commandFrameCompletes (p : Port) (frame : CommandFrame)
  | selRaisedEarly (p : Port)
  | stalledClock (p : Stall)
  | readByte (p : Port)
  | readCompletesWhole (p : Port)
  | readCutShort (p : Port)
  | upstreamFrame (chain elapsed : Nat) (frame : UpFrame)
  | quietTimer (chain : Nat)
  | enumerationStart (chain : Nat)
  | roundStart (chain : Nat)
  | roundTimeout (chain : Nat)
  | displayFrameSent (chain elapsed : Nat)
  | errorWindowEnd (chain : Nat)
deriving DecidableEq, Repr

end Sys2Proof
end

