-- ==== Sys2Proof/Decode.lean ====
section
/-! DEFINITION. Decoding a table word. No row of spec/opcode_table.json gives bits: each is a command named by fields
("The command identifier and the payload of each command are given by the command's own rule as named fields", R194,
and no numeric identifier is listed) or an event of the part. So no word spells a command. -/

namespace Sys2Proof

/-- The command that a word spells by the table's bits: none, since no row gives bits (log entry 8). -/
def decodeTableWord (_nbits _w : Nat) : Option Instr := none

end Sys2Proof
end

