-- ==== Sys2Proof/Config.lean ====
section
/-! DEFINITION. What the AZ-4160 fixes for good (sizes and maxima, each with its rule) and the values its manual
leaves open, as constants without a body: no proof can see what they are. -/

namespace Sys2Proof.Config

/-- Meeting rooms, 0..159 (1.1). -/
def roomCount : Nat := 160
/-- Booking pool entries (R20). -/
def bookCap : Nat := 2048
/-- Order pool entries (R154). -/
def orderCap : Nat := 512
/-- Waitlist positions (R62). -/
def waitCap : Nat := 64
/-- Tombstones the ring keeps (R35). -/
def ringCap : Nat := 256
/-- Notices a port's queue holds (R183). -/
def queueCap : Nat := 24
/-- Greatest book revision (R33). -/
def revMax : Nat := 4294967295
/-- Chains (6). -/
def chainCount : Nat := 4
/-- Positions of a chain (6). -/
def positionCount : Nat := 40
/-- Kitchens (R134). -/
def kitchenCount : Nat := 4
/-- Global windows of the horizon (R14, 8.2). -/
def windowCount : Nat := 768
/-- Minutes of a day. -/
def dayMinutes : Nat := 1440
/-- Last horizon minute (R141). -/
def lastMinute : Int := 11519
/-- Quiet timer of an enumeration, in ms (R102). -/
def quietMs : Nat := 10
/-- Length of an error window, in ms (R115). -/
def windowMs : Nat := 60000

/-- FREE VALUE. Which of several deadlines that have fallen due, or which of a check-in and a deadline, is taken
first where the manual says that either may be (R13, R69, R76, R94, R161): read at the running number of the
choice and at the thing the choice is about. Log entry 3. -/
opaque dueOrder : Nat → Nat → Nat

/-- FREE VALUE. The order in a listing batch of items that share the exhausted revision (R33, R59): read at the
running number of the choice and the item's place among the candidates. Log entry 4. -/
opaque tieKey : Nat → Nat → Nat

/-- FREE VALUE. What a finish adds to the occupied slots when its arrival slot lies after its end slot, where R169's
difference is negative and the manual states no result: a function of end and arrival slot. Log entry 5. -/
opaque occupiedOpen : Nat → Nat → Nat

/-- FREE VALUE. The window discard count that a clearing notice of CHAIN_RESET carries: no window end decided it, and the
manual states none (R115, R118). A function of the count as the command finds it. Log entry 6. -/
opaque clearingCount : Nat → Nat

end Sys2Proof.Config
end

