-- ==== Sys2Proof/Machine/State.lean ====
section
/-! DEFINITION. The state of the AZ-4160 as plain data, block by block (00_scope, block overview), the records it
keeps, the frames it has ready, and its state after cold reset. -/

namespace Sys2Proof.Machine

/-- No command or event stops this block: the manual answers every command with a result code and lets every
event have its effect or none, so there is no fault, and the type of faults is empty (safe). -/
inductive Fault where
deriving DecidableEq, Repr

/-- Why a command has no meaning in this model. -/
inductive Refusal where
  /-- Raised by an arm of `exec` for a row that is not modelled yet (safe). No arm raises it now. -/
  | notModelled (mnemonic : String)
deriving DecidableEq, Repr

/-- A table by number: a list of numbers and values in strictly rising order, holding no default value.
Machine/Table.lean gives its operations. -/
abbrev Table (α : Type) := List (Nat × α)

/-- An entry of a record pool: its generation, and its record while it is live (R20, R21, R62, R154). -/
structure PoolEntry (α : Type) where
  gen : BitVec 8
  item : Option α
deriving DecidableEq, Repr

/-- A record pool: 2048 bookings and blocks, 512 orders or 64 waitlist entries. An unlisted entry is free with
generation 0. -/
abbrev Pool (α : Type) := Table (PoolEntry α)

/-- One value for each agent port. -/
structure PerPort (α : Type) where
  a : α
  b : α
  c : α
deriving DecidableEq, Repr

/-! ### Result codes, actors, causes -/

/-- The result codes (00_scope, Responses). -/
inductive Code where
  | ok | role | notOpen | range | noSuch | stale | conflict | full | state | tooLate | capacity
  | caterLocked | kitchenFull | tooSoon | noTime | revExhausted
deriving DecidableEq, Repr

/-- The owner of a booking or block (2.1). -/
inductive Owner where
  | port (p : Port)
  | panel
deriving DecidableEq, Repr

/-- The actor of a change (R30). -/
inductive Actor where
  | port (p : Port)
  | panel
  | clock
deriving DecidableEq, Repr

/-- Finishing states, as tombstones hold them (2.5). -/
inductive FinState where
  | expired | cancelled | released | ended | removed | withdrawn | delivered | forfeit
deriving DecidableEq, Repr

/-- The causes and reasons that notices name (R55, R67, R69, R86, R156, R162). -/
inductive Cause where
  | confirm | modify | move | cancel | unblock | checkIn | extend | endNow | autoEnd | caterOrder | caterCancel
  | closeRoomForce | sensor | cutoff | dropCatering | key | removed | expired
  | finish (f : FinState)
deriving DecidableEq, Repr

/-! ### The reservation book -/

/-- Kinds of book record (2.1). -/
inductive RecKind where
  | booking | block
deriving DecidableEq, Repr

/-- Live states of a record (R25). -/
inductive RecState where
  | held | confirmed | arrived | blocked
deriving DecidableEq, Repr

/-- Deadline kinds of a record (R26). -/
inductive DeadlineKind where
  | holdEnd | graceEnd | arrival | unverifiedEnd | endAt
deriving DecidableEq, Repr

/-- A record's deadline (R26). `due` marks a deadline that has fallen due at a minute advance and on which its
owner has not yet acted (R13). -/
structure Deadline where
  kind : DeadlineKind
  minute : Int
  due : Bool
deriving DecidableEq, Repr

/-- The flags of a booking (2.1). -/
structure RecFlags where
  unverified : Bool
  caterLost : Bool
  walkup : Bool
  promoted : Bool
deriving DecidableEq, Repr

/-- A booking or block record (2.1). The handle is the pool entry's; the padded bounds are computed from start,
stop, setup and clear (R22). -/
structure Rec where
  kind : RecKind
  room : Nat
  plane : Nat
  start : Nat
  stop : Nat
  setup : Nat
  clear : Nat
  state : RecState
  owner : Owner
  organizer : BitVec 32
  label : BitVec 16
  attendees : Option Nat
  deadline : Deadline
  arrival : Option Nat
  rev : Nat
  order : Option Handle
  flags : RecFlags
  extensions : Nat
deriving DecidableEq, Repr

/-- The finishing facts (R30). -/
structure Facts where
  handle : Handle
  kind : RecKind
  room : Nat
  plane : Nat
  start : Nat
  stop : Nat
  padStart : Nat
  padEnd : Nat
  owner : Owner
  organizer : BitVec 32
  label : BitVec 16
  attendees : Option Nat
  arrival : Option Nat
  flags : RecFlags
  extensions : Nat
  order : Option Handle
  fin : FinState
  rev : Nat
  actor : Actor
deriving DecidableEq, Repr

/-- What a tombstone was (2.5). -/
inductive TombKind where
  | booking | block | order
deriving DecidableEq, Repr

/-- A tombstone (2.5). -/
structure Tombstone where
  handle : Handle
  kind : TombKind
  fin : FinState
  rev : Nat
deriving DecidableEq, Repr

/-- An open listing of a port (R34, R58). -/
structure Listing where
  ceiling : Nat
  cursor : Nat
  gapToReport : Bool
deriving DecidableEq, Repr

/-- A room's vacancy timer (R92). -/
structure Vacancy where
  subject : Option Handle
  minutes : Nat
deriving DecidableEq, Repr

/-- The Reservation Book. The day lists (R22, R23) are the view `State.dayList` of the pool. -/
structure Book where
  pool : Pool Rec
  rev : Nat
  ring : List Tombstone
  wrapped : Bool
  clearMark : Option Nat
  listings : PerPort (Option Listing)
  vacancy : Table Vacancy
deriving DecidableEq, Repr

/-! ### The waitlist -/

/-- A waitlist entry (4.1). `due` marks an expiry that has fallen due and is not yet taken (R13). -/
structure WaitEntry where
  rooms : List Nat
  plane : Nat
  earliest : Nat
  length : Nat
  flex : Nat
  attendees : Nat
  organizer : BitVec 32
  label : BitVec 16
  cater : Option CaterRequest
  expiry : Int
  due : Bool
  requester : Port
  tag : Byte
deriving DecidableEq, Repr

/-- The fate of a freed entry (R62). -/
inductive Fate where
  | promoted (booking : Handle)
  | expired
  | removed
deriving DecidableEq, Repr

/-- A position's fate record (R62): the generation of the entry freed, and its fate. -/
structure FateRecord where
  gen : BitVec 8
  fate : Fate
deriving DecidableEq, Repr

/-- The Waitlist: positions, the live positions in arrival order, and the fate records (R62). -/
structure Waitlist where
  pool : Pool WaitEntry
  order : List Nat
  fates : Table (Option FateRecord)
deriving DecidableEq, Repr

/-! ### Site tables and clock -/

/-- A room record (1.1). -/
structure Room where
  configured : Bool
  isOpen : Bool
  building : Nat
  seats : Nat
  setup : Nat
  clear : Nat
  grace : Nat
  options : RoomOptions
  threshold : Nat
  unitId : Option (BitVec 32)
  displayRev : BitVec 8
deriving DecidableEq, Repr

/-- Device modes (R8). -/
inductive Mode where
  | configuring | serving
deriving DecidableEq, Repr

/-- The Site Tables. -/
structure Site where
  rooms : Table Room
  buildings : Nat
  mode : Mode
deriving DecidableEq, Repr

/-- The Campus Clock (1.5). `minute` is 1440 from the advance to midnight until the rollover is raised, and
`oldDay` marks that the planes still carry the numbering of the ending day (R14). -/
structure Clock where
  day : Nat
  minute : Nat
  seconds : Nat
  set : Bool
  syncEnabled : Bool
  oldDay : Bool
deriving DecidableEq, Repr

/-! ### The Panel Link Controller -/

/-- Chain activities (R101). -/
inductive Activity where
  | enumerating | rollcall | displaySend | wait
deriving DecidableEq, Repr

/-- Presence of a position (R112). -/
inductive Presence where
  | absent | seeking | linked | lost
deriving DecidableEq, Repr

/-- A sensor value that has been formed (7). -/
inductive Occupancy where
  | occupied | vacant
deriving DecidableEq, Repr

/-- A position record (6.4, 7). -/
structure Position where
  unitId : Option (BitVec 32)
  presence : Presence
  good : Nat
  miss : Nat
  answered : Bool
  faults : PanelFaults
  lastSeq : Option (BitVec 4)
  debounced : Option Occupancy
  pendingSensor : Option Occupancy
  shown : BitVec 8
  due : Bool
deriving DecidableEq, Repr

/-- A room's panel location (6.4). -/
structure Location where
  chain : Nat
  pos : Nat
deriving DecidableEq, Repr

/-- Display states (R121), with UNASSIGNED for an unbound position (R126). -/
inductive DisplayState where
  | closed | blocked | busy | checkinDue | soon | free | unassigned
deriving DecidableEq, Repr

/-- The current item of a display (R122). -/
structure CurrentItem where
  label : BitVec 16
  organizer : BitVec 32
  endMinute : Nat
deriving DecidableEq, Repr

/-- The next item of a display (R122). -/
structure NextItem where
  day : Nat
  startMinute : Nat
  label : BitVec 16
deriving DecidableEq, Repr

/-- The catering badge (R122). -/
inductive Badge where
  | none | due | delivered
deriving DecidableEq, Repr

/-- Display content (R122). -/
structure Content where
  state : DisplayState
  current : Option CurrentItem
  next : Option NextItem
  badge : Badge
deriving DecidableEq, Repr

/-- A display deadline (R124), with the mark of R13. -/
structure DisplayDeadline where
  minute : Int
  due : Bool
deriving DecidableEq, Repr

/-- What the link controller holds for a room's display (7). -/
structure Display where
  content : Content
  deadline : Option DisplayDeadline
deriving DecidableEq, Repr

/-- Downstream frames (6.2), as the part sends them, by their named fields; Machine/PanelFrames.lean gives the bytes of
each (R126). -/
inductive DownFrame where
  | enumerate (nextAddress : Nat)
  | rollcall (round : BitVec 8)
  | display (address : Nat) (revision : BitVec 8) (content : Content)
deriving DecidableEq, Repr

/-- A chain record (6.4) with its positions. Times are milliseconds on the chain's timer: `time` is the timer's
reading at the chain's last event, `quietAt` and `roundTimeoutAt` are when those timers run out. `roundNow` is
the number of the round in progress (R108), `noted` holds the unit ids an enumeration has noted (R103), and
`sent` is the downstream frames of the last step of the chain that sent any, oldest first. -/
structure Chain where
  activity : Activity
  round : BitVec 8
  roundNow : BitVec 8
  nextRoundStart : Option Nat
  enumPending : Bool
  count : Nat
  gap : Bool
  highest : Nat
  lastAnswered : Nat
  windowStart : Nat
  windowDiscards : Nat
  degraded : Bool
  fault : Bool
  streak : Nat
  valid : Nat
  discards : Nat
  time : Nat
  quietAt : Option Nat
  roundTimeoutAt : Option Nat
  noted : Table (Option (BitVec 32))
  positions : Table Position
  sent : List DownFrame
deriving DecidableEq, Repr

/-- The Panel Link Controller. -/
structure Link where
  chains : Table Chain
  locations : Table (Option Location)
  displays : Table Display
deriving DecidableEq, Repr

/-! ### The Kitchen Planner -/

/-- A kitchen record (R134). -/
structure Kitchen where
  isOpen : Bool
  overbook : Nat
deriving DecidableEq, Repr

/-- A defined menu class (R136). -/
structure MenuClass where
  weight : Nat
  lead : Nat
  minCovers : Nat
deriving DecidableEq, Repr

/-- A load table entry (8.2). -/
structure LoadEntry where
  load : Nat
  isOver : Bool
deriving DecidableEq, Repr

/-- Order states (R155). -/
inductive OrderState where
  | accepted | preparing | dispatched | delivered | forfeit
deriving DecidableEq, Repr

/-- Order deadline kinds (R155). -/
inductive OrderDeadlineKind where
  | cutoff | dispatch | late
deriving DecidableEq, Repr

/-- An order's deadline (R155), with the mark of R13. -/
structure OrderDeadline where
  kind : OrderDeadlineKind
  minute : Int
  due : Bool
deriving DecidableEq, Repr

/-- An order record (R154). `last` is the last prep window. -/
structure Order where
  placing : Port
  booking : Option Handle
  kitchen : Nat
  cls : Nat
  covers : Nat
  offset : Int
  load : Nat
  lead : Nat
  last : Int
  cutoff : Int
  dispatch : Int
  delivery : Int
  state : OrderState
  deadline : Option OrderDeadline
  rev : Nat
  clamped : Bool
  lateSent : Bool
deriving DecidableEq, Repr

/-- The Kitchen Planner. Profiles are keyed kitchen × 96 + window of day, transit building × 4 + kitchen, the load
table kitchen × 768 + global window. -/
structure Planner where
  kitchens : Table Kitchen
  profile : Table Nat
  classes : Table (Option MenuClass)
  transit : Table Nat
  load : Table LoadEntry
  orders : Pool Order
deriving DecidableEq, Repr

/-! ### The Usage Monitor -/

/-- Live or banked counters of a room (10.1). -/
structure RoomUsage where
  booked : Nat
  occupied : Nat
  noShows : Nat
  earlyEnds : Nat
  walkups : Nat
  extensions : Nat
  unverified : Nat
deriving DecidableEq, Repr

/-- Live or banked counters of a kitchen (10.1). -/
structure KitchenUsage where
  ordersDelivered : Nat
  coversDelivered : Nat
  ordersForfeited : Nat
  coversForfeited : Nat
deriving DecidableEq, Repr

/-- A room's chronic state (10.1). -/
structure ChronicState where
  dayNoShows : Nat
  streak : Nat
  chronic : Bool
deriving DecidableEq, Repr

/-- Snapshot kinds (10.1). -/
inductive SnapshotKind where
  | none | auto | manual
deriving DecidableEq, Repr

/-- The snapshot bank (10.1). -/
structure Bank where
  rooms : Table RoomUsage
  kitchens : Table KitchenUsage
  seq : BitVec 16
  kind : SnapshotKind
  day : Nat
  minute : Nat
deriving DecidableEq, Repr

/-- The Usage Monitor. -/
structure Monitor where
  rooms : Table RoomUsage
  kitchens : Table KitchenUsage
  chronic : Table ChronicState
  bank : Bank
  autoSnapshot : Bool
deriving DecidableEq, Repr

/-! ### Notices -/

/-- The twenty notice kinds (11.1). -/
inductive NoticeKind where
  | holdExpired | bookingChanged | noShow | earlyEnd | walkup | extended | promoted | waitExpired | caterLost
  | cutoff | dispatchDue | deliveryLate | caterForfeit | kitchenOver | panelState | panelMoved | chainDegraded
  | chainFault | roomChronic | dayRolled
deriving DecidableEq, Repr

/-- The subject of a notice (11.2). -/
inductive Subject where
  | booking (h : Handle)
  | wait (h : Handle)
  | order (h : Handle)
  | kitchen (k : Nat)
  | panel (chain pos : Nat)
  | chain (c : Nat)
  | room (r : Nat)
  | snapshot (seq : BitVec 16)
deriving DecidableEq, Repr

/-- The condition state of a condition notice (11.2). -/
inductive Condition where
  | flag (isSet : Bool)
  | presence (p : Presence)
deriving DecidableEq, Repr

/-- A byte of a notice's detail (11.2). -/
inductive DetailByte where
  | unused
  | actor (a : Actor)
  | cause (c : Cause)
  | result (c : Code)
  | snapshot (k : SnapshotKind)
deriving DecidableEq, Repr

/-- An item of a notice's data (11.2). -/
inductive Datum where
  | facts (room plane start stop : Nat) (fin : FinState) (owner : Owner) (flags : RecFlags)
  | booking (h : Option Handle)
  | order (h : Handle)
  | wait (h : Handle)
  | minute (m : Int)
  | count (n : Nat)
  | kitchen (k : Nat)
  | building (b : Nat)
  | window (g : Option Int)
  | location (l : Option Location)
  | unitId (u : Option (BitVec 32))
  | room (r : Option Nat)
  | time (day minute : Nat)
deriving DecidableEq, Repr

/-- A notice record (11.2). -/
structure Notice where
  kind : NoticeKind
  subject : Subject
  priority : Nat
  rev : Nat
  day : Nat
  minute : Nat
  cond : Option Condition
  transitions : Nat
  hi : DetailByte
  lo : DetailByte
  tag : Option Byte
  data : List Datum
deriving DecidableEq, Repr

/-- A routing table entry (11.3). -/
structure Route where
  enabled : Bool
  mode : RouteMode
  ports : PortSet
  priority : Nat
deriving DecidableEq, Repr

/-! ### Responses and ports -/

/-- The collection a FULL response names (R194). -/
inductive Collection where
  | bookingPool | orderPool | waitlist
deriving DecidableEq, Repr

/-- The summary of a booking or block that QUERY_ROOM_DAY and the listing return (R57). -/
structure Summary where
  handle : Handle
  kind : RecKind
  state : RecState
  startMinute : Int
  endMinute : Int
  padStart : Nat
  padEnd : Nat
  owner : Owner
  label : BitVec 16
  flags : RecFlags
  order : Option Handle
  rev : Nat
deriving DecidableEq, Repr

/-- A booking or block as QUERY_BOOKING returns it whole (R56). -/
structure RecReading where
  handle : Handle
  kind : RecKind
  state : RecState
  room : Nat
  plane : Nat
  startMinute : Int
  endMinute : Int
  setup : Nat
  clear : Nat
  padStart : Nat
  padEnd : Nat
  owner : Owner
  organizer : BitVec 32
  label : BitVec 16
  attendees : Option Nat
  deadlineKind : DeadlineKind
  deadlineMinute : Int
  arrival : Option Nat
  order : Option Handle
  flags : RecFlags
  extensions : Nat
  rev : Nat
deriving DecidableEq, Repr

/-- An order as QUERY_ORDER returns it whole, with its service plane (R154, R167). -/
structure OrderReading where
  handle : Handle
  placing : Port
  booking : Option Handle
  kitchen : Nat
  cls : Nat
  covers : Nat
  offset : Int
  load : Nat
  lead : Nat
  last : Int
  cutoff : Int
  dispatch : Int
  delivery : Int
  state : OrderState
  deadline : Option (OrderDeadlineKind × Int)
  rev : Nat
  clamped : Bool
  lateSent : Bool
  servicePlane : Int
deriving DecidableEq, Repr

/-- A waitlist entry as QUERY_WAITLIST returns it, with its position in arrival order (4.1, R68). -/
structure WaitReading where
  position : Nat
  handle : Handle
  rooms : List Nat
  plane : Nat
  earliest : Nat
  length : Nat
  flex : Nat
  attendees : Nat
  organizer : BitVec 32
  label : BitVec 16
  cater : Option CaterRequest
  expiry : Int
  requester : Port
  tag : Byte
deriving DecidableEq, Repr

/-- A live record, a live order or a tombstone in a listing batch (R59). -/
inductive ListItem where
  | record (room plane : Nat) (r : Summary)
  | order (h : Handle) (booking : Option Handle) (state : OrderState) (rev : Nat)
  | tomb (t : Tombstone)
deriving DecidableEq, Repr

/-- A window as KITCHEN_LOAD returns it (R151). -/
structure WindowReading where
  load : Nat
  capacity : Nat
  limit : Nat
  isOver : Bool
deriving DecidableEq, Repr

/-- A room as READ_USAGE returns it (R175). -/
structure UsageReading where
  room : Nat
  usage : RoomUsage
  chronic : ChronicState
deriving DecidableEq, Repr

/-- A position as READ_PANELS returns it (R120). -/
structure PanelReading where
  pos : Nat
  unitId : Option (BitVec 32)
  presence : Presence
  good : Nat
  miss : Nat
  faults : PanelFaults
  debounced : Option Occupancy
  shown : BitVec 8
  room : Option Nat
deriving DecidableEq, Repr

/-- What STATUS returns (R196). -/
structure StatusReading where
  mode : Mode
  day : Nat
  minute : Nat
  seconds : Nat
  clockSet : Bool
  syncEnabled : Bool
  rev : Nat
  exhausted : Bool
  buildings : Nat
  roles : RoleMask
  depths : PerPort Nat
  bookings : Nat
  waiting : Nat
  orders : Nat
deriving DecidableEq, Repr

/-- What a response carries beside its code and flags: the values its rule names. A start, end, arrival or deadline minute is a
horizon minute, plane × 1440 + minute of day: DESIGN CHOICE (log entry 34), the manual does not say whether R11's
returned minutes are of the day or of the horizon. -/
inductive Payload where
  | none
  | number (n : Nat)
  | minute (m : Int)
  | time (day minute : Nat)
  | booking (h : Handle)
  | optBooking (h : Option Handle)
  | orderHandle (h : Handle)
  | full (c : Collection)
  | noSuch (t : Option Tombstone)
  | waitGone (f : Option Fate)
  | stale (rev : Nat)
  | kitchenFull (k : Nat) (g : Int)
  | revision (rev : Nat)
  | badIdentifier (ident : Byte)
  | room (r : Room) (l : Option Location) (chronic : Bool)
  | held (h : Handle) (rev : Nat) (start stop deadline : Int) (holdMinutes : Nat)
      (order : Option (Handle × Nat)) (covers : Option Nat)
  | waitlisted (h : Handle) (start stop : Int) (code : Code) (conflict : Option Handle)
  | confirmed (rev : Nat) (kind : DeadlineKind) (minute : Int)
  | moved (rev room plane : Nat) (start stop : Int) (padStart padEnd : Nat) (kind : DeadlineKind)
      (minute : Int) (covers : Option Nat)
  | blocked (h : Handle) (rev : Nat) (start stop : Int)
  | record (r : RecReading)
  | dayPage (items : List Summary) (count rev : Nat)
  | batch (ceiling : Option Nat) (items : List ListItem) (gap : Bool) (complete : Bool)
  | waitAdded (h : Handle) (start stop : Int) (flex : Nat) (expiry : Int) (position : Option Nat)
      (promotedTo : Option (Handle × Nat × Bool))
  | waitPage (items : List WaitReading) (count : Nat)
  | window (opening closing : Int)
  | arrived (rev : Nat) (arrival endAt : Int)
  | extended (rev : Nat) (endAt : Int) (extensions : Nat)
  | linkCounters (valid discards : Nat) (activity : Activity) (count : Nat) (gap degraded fault : Bool)
      (streak windowDiscards : Nat)
  | panels (items : List PanelReading) (count : Nat) (activity : Activity) (gap : Bool)
  | values (vs : List Nat)
  | kitchenSetup (k : Kitchen) (transit : List Nat)
  | classes (cs : List (Option MenuClass))
  | load (ws : List WindowReading) (k : Kitchen) (currentWindow overCount : Nat)
  | ordered (h : Handle) (rev bookingRev kitchen covers : Nat) (cutoff dispatch delivery : Int)
  | changed (rev kitchen covers : Nat) (cutoff dispatch delivery : Int)
  | cancelled (rev : Nat) (bookingRev : Option Nat)
  | order (o : Option OrderReading) (currentWindow : Nat)
  | sequence (seq : BitVec 16)
  | usageRooms (items : List UsageReading) (seq : BitVec 16) (kind : SnapshotKind) (day minute : Nat) (auto : Bool)
  | usageKitchen (u : KitchenUsage) (seq : BitVec 16) (kind : SnapshotKind) (day minute : Nat) (auto : Bool)
  | route (r : Route)
  | routes (rs : List (Nat × Route))
  | status (s : StatusReading)
  | mask (m : RoleMask)
deriving DecidableEq, Repr

/-- A command's answer as its owning block gives it: code, CLAMPED, OVERRUN where LIST_CHANGES reports it, and
what it carries. -/
structure Reply where
  code : Code
  clamped : Bool := false
  overrun : Bool := false
  payload : Payload := .none
deriving DecidableEq, Repr

/-- A response frame in a port's slot: the frame's tag and the answer (R193). -/
structure Response where
  tag : Byte
  reply : Reply
deriving DecidableEq, Repr

/-- The pending flags of a port (12.3). -/
structure PortFlags where
  collision : Bool
  incomplete : Bool
  timeout : Bool
  overrun : Bool
deriving DecidableEq, Repr

/-- Port states other than RECEIVING (12.3). -/
inductive BaseState where
  | idle | executing | answerReady
deriving DecidableEq, Repr

/-- The frame a read transaction has chosen (R195). -/
inductive ReadFrame where
  | response (r : Response)
  | notice (n : Notice)
  | empty
deriving DecidableEq, Repr

/-- A read transaction in progress (R186, R195): the frame, the flags it carries, the flags set again since, and
whether its notice has been replaced or removed since. -/
structure Reading where
  frame : ReadFrame
  carried : PortFlags
  again : PortFlags
  superseded : Bool
deriving DecidableEq, Repr

/-- A command that is with its owning block (R191): its frame's tag, the role mask as it stood when the command was
taken, which a later NARROW_ROLES does not touch (R190), and, for a STATUS, the values it returns, which are those of
that moment too (R196). -/
structure Taken where
  tag : Byte
  cmd : Command
  mask : RoleMask
  seen : Option StatusReading
deriving DecidableEq, Repr

/-- An agent port (12.2, 12.3, 11.4). The port state is RECEIVING where `receiving` is set, and `base` is then the
remembered state; otherwise `base` is the port state. `inHand` is the command that is with its owning block while
the port is EXECUTING. -/
structure AgentPort where
  receiving : Bool
  base : BaseState
  roles : RoleMask
  slot : Option Response
  inHand : Option Taken
  flags : PortFlags
  queue : List Notice
  reading : Option Reading
deriving DecidableEq, Repr

/-! ### The whole part -/

/-- The state of the AZ-4160. `pending` is the queue of commands and events waiting for the part, first in first
out; `choices` is the model's own count of the free choices taken (log entry 3); `resetLow` is the level of the
RESET line (R197). -/
structure State where
  pending : List Instr
  choices : Nat
  resetLow : Bool
  clock : Clock
  site : Site
  book : Book
  wait : Waitlist
  link : Link
  plan : Planner
  monitor : Monitor
  routes : Table Route
  ports : PerPort AgentPort
deriving DecidableEq, Repr

/-! ### Cold-reset values -/

/-- No option (R1). -/
def RoomOptions.cold : RoomOptions := ⟨false, false, false, false⟩
/-- A room record after cold reset (R1). -/
def Room.cold : Room :=
  { configured := false, isOpen := false, building := 0, seats := 0, setup := 0, clear := 0, grace := 10,
    options := RoomOptions.cold, threshold := 3, unitId := none, displayRev := 0 }
/-- The vacancy timer after cold reset (R92). -/
def Vacancy.cold : Vacancy := ⟨none, 0⟩
/-- The content of a CLOSED room (R122, R133). -/
def Content.closed : Content := ⟨.closed, none, none, .none⟩
/-- What the link controller holds for a room's display after cold reset (7). -/
def Display.cold : Display := ⟨Content.closed, none⟩
/-- No fault bit. -/
def PanelFaults.clear : PanelFaults := ⟨false, false, false⟩
/-- A position record after cold reset (6.4, 7). -/
def Position.cold : Position :=
  { unitId := none, presence := .absent, good := 0, miss := 0, answered := false, faults := PanelFaults.clear,
    lastSeq := none, debounced := none, pendingSensor := none, shown := 0, due := false }
/-- A chain at the release of cold reset (6.4, R102, R119): its first enumeration has begun. -/
def Chain.cold : Chain :=
  { activity := .enumerating, round := 0, roundNow := 0, nextRoundStart := none, enumPending := false, count := 0,
    gap := false, highest := 0, lastAnswered := 0, windowStart := 0, windowDiscards := 0, degraded := false,
    fault := false, streak := 0, valid := 0, discards := 0, time := 0, quietAt := some Config.quietMs,
    roundTimeoutAt := none, noted := [], positions := [], sent := [.enumerate 1] }
/-- A kitchen after cold reset (R134). -/
def Kitchen.cold : Kitchen := ⟨false, 0⟩
/-- A load table entry after cold reset (8.2). -/
def LoadEntry.cold : LoadEntry := ⟨0, false⟩
/-- Room counters at zero (R168). -/
def RoomUsage.zero : RoomUsage := ⟨0, 0, 0, 0, 0, 0, 0⟩
/-- Kitchen counters at zero (R168). -/
def KitchenUsage.zero : KitchenUsage := ⟨0, 0, 0, 0⟩
/-- A room's chronic state after cold reset (R168). -/
def ChronicState.cold : ChronicState := ⟨0, 0, false⟩
/-- A routing entry after cold reset (11.3). -/
def Route.cold : Route := ⟨false, .fixed, ⟨false, false, false⟩, 0⟩
/-- No port flag. -/
def PortFlags.clear : PortFlags := ⟨false, false, false, false⟩
/-- A port at the release of cold reset with the mask its straps give (R189, R197). -/
def AgentPort.cold (straps : RoleMask) : AgentPort :=
  { receiving := false, base := .idle, roles := straps, slot := none, inHand := none, flags := PortFlags.clear,
    queue := [], reading := none }
/-- The book after cold reset (R39, R58, R92). -/
def Book.cold : Book :=
  { pool := [], rev := 0, ring := [], wrapped := false, clearMark := none, listings := ⟨none, none, none⟩,
    vacancy := [] }
/-- The monitor after cold reset (R168). -/
def Monitor.cold : Monitor :=
  { rooms := [], kitchens := [], chronic := [], bank := ⟨[], [], 0, .none, 0, 0⟩, autoSnapshot := true }

/-- Every block at its cold-reset values, with the role masks the straps give at the release (R197). -/
def State.cold (strapsA strapsB strapsC : RoleMask) : State :=
  { pending := [], choices := 0, resetLow := false,
    clock := { day := 0, minute := 0, seconds := 0, set := false, syncEnabled := false, oldDay := false },
    site := { rooms := [], buildings := 0, mode := .configuring },
    book := Book.cold,
    wait := { pool := [], order := [], fates := [] },
    link := { chains := [], locations := [], displays := [] },
    plan := { kitchens := [], profile := [], classes := [], transit := [], load := [], orders := [] },
    monitor := Monitor.cold, routes := [],
    ports := ⟨AgentPort.cold strapsA, AgentPort.cold strapsB, AgentPort.cold strapsC⟩ }

/-- The machine right after reset. The strap levels are the board's, so the manual gives the role masks no value:
DESIGN CHOICE (log entry 2, unsafe), the masks of the manual's worked case of chapter 3: A holds SCHED, B holds
SCHED and CATER, C holds SCHED and FACIL. -/
def State.reset : State :=
  State.cold ⟨true, false, false⟩ ⟨true, true, false⟩ ⟨true, false, true⟩

end Sys2Proof.Machine
end

