-- ==== Sys2Proof/Machine/Table.lean ====
section
/-! DEFINITION. Tables by number and record pools: the operations every block of the part uses on its collections. -/

namespace Sys2Proof.Machine

variable {α : Type}

/-! ### Tables -/

/-- The value a table lists for a number. -/
def Table.look? : Table α → Nat → Option α
  | [], _ => none
  | (j, v) :: t, i => if j = i then some v else Table.look? t i

/-- Lists a value for a number, in its place in rising order. -/
def Table.put : Table α → Nat → α → Table α
  | [], i, v => [(i, v)]
  | (j, w) :: t, i, v =>
    if j = i then (i, v) :: t
    else if i < j then (i, v) :: (j, w) :: t
    else (j, w) :: Table.put t i v

/-- Lists no value for a number. -/
def Table.unlist : Table α → Nat → Table α
  | [], _ => []
  | (j, w) :: t, i => if j = i then Table.unlist t i else (j, w) :: Table.unlist t i

/-- The value of a number in a table whose unlisted numbers hold `d`. -/
def Table.read (d : α) (t : Table α) (i : Nat) : α := (Table.look? t i).getD d

/-- Sets the value of a number in a table whose unlisted numbers hold `d`: the default is not listed. -/
def Table.write [DecidableEq α] (d : α) (t : Table α) (i : Nat) (v : α) : Table α :=
  if v = d then Table.unlist t i else Table.put t i v

/-- The numbers of a table rise strictly and each lies above `lo`, where given. -/
def Table.rising : Option Nat → Table α → Bool
  | _, [] => true
  | lo, (j, _) :: t => (match lo with | none => true | some l => decide (l < j)) && Table.rising (some j) t

/-- The one canonical form of a table: strictly rising numbers, no default value listed. -/
def Table.wf [DecidableEq α] (d : α) (t : Table α) : Bool :=
  Table.rising none t && t.all (fun e => decide (e.2 ≠ d))

/-- Every listed value replaced by `f` of it; a value that becomes the default is no longer listed. -/
def Table.revise [DecidableEq α] (d : α) (f : α → α) (t : Table α) : Table α :=
  t.filterMap (fun e => if f e.2 = d then none else some (e.1, f e.2))

/-- The table that holds `f i` for each number below `n`, in canonical form. -/
def Table.build [DecidableEq α] (d : α) (n : Nat) (f : Nat → α) : Table α :=
  (List.range n).filterMap (fun i => if f i = d then none else some (i, f i))

/-! ### Record pools -/

/-- An entry that was never used: free, generation 0. -/
def PoolEntry.fresh : PoolEntry α := ⟨0, none⟩

/-- A pool's entry. -/
def Pool.entry (p : Pool α) (i : Nat) : PoolEntry α := Table.read PoolEntry.fresh p i

/-- The live record of an entry, if it is live. -/
def Pool.item? (p : Pool α) (i : Nat) : Option α := (Pool.entry p i).item

/-- The handle an entry's present generation gives (R20, R62, R154). -/
def Pool.handle (p : Pool α) (i : Nat) : Handle := ⟨i, (Pool.entry p i).gen⟩

/-- Stores a record in an entry under its present generation, making it live. -/
def Pool.store [DecidableEq α] (p : Pool α) (i : Nat) (r : α) : Pool α :=
  Table.write PoolEntry.fresh p i ⟨(Pool.entry p i).gen, some r⟩

/-- Frees an entry: its generation advances by one, wrapping from 255 to 0 (R21, R62, R154). -/
def Pool.free [DecidableEq α] (p : Pool α) (i : Nat) : Pool α :=
  Table.write PoolEntry.fresh p i ⟨(Pool.entry p i).gen + 1, none⟩

/-- The lowest-numbered free entry from `i` on, among the next `n`. -/
def Pool.freeFrom (p : Pool α) : Nat → Nat → Option Nat
  | 0, _ => none
  | n + 1, i => if (Pool.item? p i).isNone then some i else Pool.freeFrom p n (i + 1)

/-- The lowest-numbered free entry of a pool of `cap` entries (R20). -/
def Pool.lowestFree (p : Pool α) (cap : Nat) : Option Nat := Pool.freeFrom p cap 0

/-- The live records with their indices, in ascending index. -/
def Pool.live (p : Pool α) : List (Nat × α) := p.filterMap (fun e => e.2.item.map (fun r => (e.1, r)))

/-- The number of live entries, as STATUS reports it. -/
def Pool.occupancy (p : Pool α) : Nat := (Pool.live p).length

/-- The live record a handle names: its entry is live and of its generation (R21). -/
def Pool.named? (p : Pool α) (h : Handle) : Option α :=
  if (Pool.entry p h.index).gen = h.gen then Pool.item? p h.index else none

/-- Every live record replaced by `f` of it, generations kept. -/
def Pool.mapLive (p : Pool α) (f : α → α) : Pool α := p.map (fun e => (e.1, ⟨e.2.gen, e.2.item.map f⟩))

/-- Every entry of a pool of `cap` entries freed, each generation advanced, live or free (R10, R39, R74, R154). -/
def Pool.renewAll [DecidableEq α] (p : Pool α) (cap : Nat) : Pool α :=
  Table.build PoolEntry.fresh cap (fun i => ⟨(Pool.entry p i).gen + 1, none⟩)

/-! ### The three ports -/

/-- The value of one port. -/
def PerPort.at (v : PerPort α) : Port → α
  | .a => v.a
  | .b => v.b
  | .c => v.c

/-- Sets the value of one port. -/
def PerPort.set (v : PerPort α) (p : Port) (x : α) : PerPort α :=
  match p with
  | .a => { v with a := x }
  | .b => { v with b := x }
  | .c => { v with c := x }

/-- The three ports in the order A, B, C. -/
def allPorts : List Port := [.a, .b, .c]

/-- Whether a port set holds a port. -/
def portSetHolds (e : PortSet) : Port → Bool
  | .a => e.a
  | .b => e.b
  | .c => e.c

/-- The ports of a set, in the order A, B, C (R180). -/
def portSetList (e : PortSet) : List Port := allPorts.filter (portSetHolds e)

end Sys2Proof.Machine
end

