-- ==== Sys2Proof/Machine/Ops.lean ====
section
/-! DEFINITION. The named operations over the part's registers, records and collections that every block shares:
reading the clock, the accessors of each table, the book revision, the day lists, the conflict rule and the ring. -/

namespace Sys2Proof.Machine

/-! ### The clock -/

/-- Now, as a horizon minute in the numbering the planes carry (1.5, R14). -/
def State.nowMinute (s : State) : Nat := if s.clock.oldDay then Config.dayMinutes else s.clock.minute

/-- Now, as a horizon minute to compare deadlines with. -/
def State.now (s : State) : Int := (s.nowMinute : Int)

/-- The current slot (00_scope, 1.5); 288 during the advance to midnight (R14). -/
def State.currentSlot (s : State) : Nat := s.nowMinute / 5

/-- The current kitchen window (00_scope, 1.5); 96 during the advance to midnight (R14). -/
def State.currentWindow (s : State) : Nat := s.nowMinute / 15

/-- The horizon minute at which slot `slot` of a plane begins (1.4). -/
def slotMinute (plane slot : Nat) : Int := (plane : Int) * 1440 + 5 * (slot : Int)

/-! ### Ports and site tables -/

/-- One port's record. -/
def State.port (s : State) (p : Port) : AgentPort := s.ports.at p

/-- Replaces one port's record. -/
def State.setPort (s : State) (p : Port) (a : AgentPort) : State := { s with ports := s.ports.set p a }

/-- Whether a port's mask holds a role (R189). -/
def roleIn (m : RoleMask) : Role → Bool
  | .sched => m.sched
  | .cater => m.cater
  | .facil => m.facil

/-- Whether a port's mask holds a role (R189). -/
def State.holds (s : State) (p : Port) (r : Role) : Bool := roleIn (s.port p).roles r

/-- The mask a port's present command is judged against: the one it was taken under (R189, R190). -/
def AgentPort.actingMask (a : AgentPort) : RoleMask := (a.inHand.map Taken.mask).getD a.roles

/-- The command a port has with its owning block has a role (R189, R190). -/
def State.mayIssue (s : State) (p : Port) (r : Role) : Bool := roleIn (s.port p).actingMask r

/-- The command a port has with its owning block has any one role (R189). -/
def State.mayIssueAny (s : State) (p : Port) : Bool :=
  s.mayIssue p .sched || s.mayIssue p .cater || s.mayIssue p .facil

/-- A room's record (1.1). -/
def State.room (s : State) (r : Nat) : Room := Table.read Room.cold s.site.rooms r

/-- Replaces a room's record. -/
def State.setRoom (s : State) (r : Nat) (v : Room) : State :=
  { s with site := { s.site with rooms := Table.write Room.cold s.site.rooms r v } }

/-- The room numbers in ascending order. -/
def roomNumbers : List Nat := List.range Config.roomCount

/-- Whether the device is SERVING. -/
def State.serving (s : State) : Bool := s.site.mode = .serving

/-! ### The book: revision and records -/

/-- The counter stands at its maximum (R33). -/
def State.exhausted (s : State) : Bool := s.book.rev = Config.revMax

/-- Advances the book revision by one; it stays at its maximum (R32, R33). -/
def State.advanceRev (s : State) : State :=
  { s with book := { s.book with rev := satAdd Config.revMax s.book.rev 1 } }

/-- Replaces the booking pool. -/
def State.setPool (s : State) (p : Pool Rec) : State := { s with book := { s.book with pool := p } }

/-- The live record of a booking pool entry. -/
def State.rec? (s : State) (i : Nat) : Option Rec := Pool.item? s.book.pool i

/-- The handle of a booking pool entry. -/
def State.recHandle (s : State) (i : Nat) : Handle := Pool.handle s.book.pool i

/-- The live records of the book with their indices. -/
def State.liveRecs (s : State) : List (Nat × Rec) := Pool.live s.book.pool

/-- One change to a record, or its creation: the counter advances and the new value is stamped in (R32). -/
def State.changeRec (s : State) (i : Nat) (r : Rec) : State :=
  s.advanceRev.setPool (Pool.store s.book.pool i { r with rev := s.advanceRev.book.rev })

/-- Padded start (R22): the start less the setup slots, or 0. -/
def Rec.padStart (r : Rec) : Nat := r.start - r.setup

/-- Padded end (R22): the end plus the clear slots, or 288. -/
def Rec.padEnd (r : Rec) : Nat := min (r.stop + r.clear) 288

/-- A record's start minute, a horizon minute (R26). -/
def Rec.startMinute (r : Rec) : Int := slotMinute r.plane r.start

/-- A record's end minute (R26). -/
def Rec.endMinute (r : Rec) : Int := slotMinute r.plane r.stop

/-- A record covers a slot of its plane (R85, R121). -/
def Rec.covers (r : Rec) (slot : Nat) : Bool := decide (r.start ≤ slot) && decide (slot < r.stop)

/-! ### Day lists and the conflict rule -/

/-- Puts a record into a list in order of padded start. -/
def insertByPad (e : Nat × Rec) : List (Nat × Rec) → List (Nat × Rec)
  | [] => [e]
  | f :: l => if e.2.padStart < f.2.padStart then e :: f :: l else f :: insertByPad e l

/-- Records in order of padded start. -/
def sortByPad : List (Nat × Rec) → List (Nat × Rec)
  | [] => []
  | e :: l => insertByPad e (sortByPad l)

/-- The day list of a room and plane (R22, R23): its live records in order of padded start. -/
def State.dayList (s : State) (room plane : Nat) : List (Nat × Rec) :=
  sortByPad (s.liveRecs.filter (fun e => e.2.room = room && e.2.plane = plane))

/-- The live records of a room, plane by plane and in day list order (R4, R7). -/
def State.roomRecs (s : State) (room : Nat) : List (Nat × Rec) :=
  (List.range 8).flatMap (s.dayList room)

/-- Two half-open runs of slots overlap (R24). -/
def overlap (lo hi lo' hi' : Nat) : Bool := decide (lo < hi') && decide (lo' < hi)

/-- The first conflicting record of a candidate's padded interval, the candidate's own entry left out (R24). -/
def State.firstConflict (s : State) (room plane lo hi : Nat) (own : Option Nat) : Option Nat :=
  ((s.dayList room plane).find? (fun e => !(own == some e.1) && overlap lo hi e.2.padStart e.2.padEnd)).map
    Prod.fst

/-! ### The tombstone ring -/

/-- Writes one tombstone at the tail of the ring (R35). -/
def State.writeTombstone (s : State) (t : Tombstone) : State :=
  if s.book.ring.length < Config.ringCap then
    { s with book := { s.book with ring := s.book.ring ++ [t] } }
  else { s with book := { s.book with ring := s.book.ring.tail ++ [t], wrapped := true } }

/-- The present generation of the entry a handle names; `isOrder` gives the handle's letter (R21, R154). -/
def State.presentGen (s : State) (isOrder : Bool) (i : Nat) : BitVec 8 :=
  if isOrder then (Pool.entry s.plan.orders i).gen else (Pool.entry s.book.pool i).gen

/-- The newest tombstone of a handle that names no live record; `isOrder` gives its letter. A handle with the present
generation of its entry, which is then free, finds none (R36). -/
def State.findTombstone (s : State) (isOrder : Bool) (h : Handle) : Option Tombstone :=
  if s.presentGen isOrder h.index = h.gen then none
  else s.book.ring.reverse.find? (fun t => t.handle = h && (t.kind == .order) == isOrder)

/-! ### Orders -/

/-- Replaces the order pool. -/
def State.setOrders (s : State) (p : Pool Order) : State := { s with plan := { s.plan with orders := p } }

/-- The live order of an order pool entry. -/
def State.order? (s : State) (i : Nat) : Option Order := Pool.item? s.plan.orders i

/-- One change to an order, or its creation (R32, R154). -/
def State.changeOrder (s : State) (i : Nat) (o : Order) : State :=
  s.advanceRev.setOrders (Pool.store s.plan.orders i { o with rev := s.advanceRev.book.rev })

/-- Frees an order with its tombstone: one revision advance, stamped into the tombstone (R156, R166). -/
def State.freeOrder (s : State) (i : Nat) (fin : FinState) : State :=
  let s1 := s.advanceRev
  let s2 := s1.writeTombstone ⟨Pool.handle s.plan.orders i, .order, fin, s1.book.rev⟩
  s2.setOrders (Pool.free s.plan.orders i)

/-! ### Link controller, planner and monitor tables -/

/-- A chain's record. -/
def State.chain (s : State) (c : Nat) : Chain := Table.read Chain.cold s.link.chains c

/-- Replaces a chain's record. -/
def State.setChain (s : State) (c : Nat) (v : Chain) : State :=
  { s with link := { s.link with chains := Table.write Chain.cold s.link.chains c v } }

/-- A position record of a chain. -/
def Chain.position (c : Chain) (p : Nat) : Position := Table.read Position.cold c.positions p

/-- Replaces a position record of a chain. -/
def Chain.setPosition (c : Chain) (p : Nat) (v : Position) : Chain :=
  { c with positions := Table.write Position.cold c.positions p v }

/-- A position record. -/
def State.position (s : State) (c p : Nat) : Position := (s.chain c).position p

/-- Replaces a position record. -/
def State.setPosition (s : State) (c p : Nat) (v : Position) : State :=
  s.setChain c ((s.chain c).setPosition p v)

/-- A room's panel location (6.4). -/
def State.location (s : State) (room : Nat) : Option Location := Table.read none s.link.locations room

/-- Sets a room's panel location. -/
def State.setLocation (s : State) (room : Nat) (l : Option Location) : State :=
  { s with link := { s.link with locations := Table.write none s.link.locations room l } }

/-- The room whose location names a position, if one does: the position is then bound (6.4). -/
def State.boundRoom (s : State) (c p : Nat) : Option Nat :=
  (s.link.locations.find? (fun e => e.2 = some ⟨c, p⟩)).map Prod.fst

/-- The room a unit id is bound to, if any (R3). -/
def State.roomOfUnit (s : State) (u : BitVec 32) : Option Nat :=
  (s.site.rooms.find? (fun e => e.2.unitId = some u)).map Prod.fst

/-- The room's bound position is LINKED (R80, R82, R93). -/
def State.linkedPosition? (s : State) (room : Nat) : Option Position :=
  match s.location room with
  | none => none
  | some l => if (s.position l.chain l.pos).presence = .linked then some (s.position l.chain l.pos) else none

/-- What the link controller holds for a room's display. -/
def State.display (s : State) (room : Nat) : Display := Table.read Display.cold s.link.displays room

/-- Replaces what the link controller holds for a room's display. -/
def State.setDisplay (s : State) (room : Nat) (v : Display) : State :=
  { s with link := { s.link with displays := Table.write Display.cold s.link.displays room v } }

/-- A room's vacancy timer. -/
def State.vacancy (s : State) (room : Nat) : Vacancy := Table.read Vacancy.cold s.book.vacancy room

/-- Replaces a room's vacancy timer. -/
def State.setVacancy (s : State) (room : Nat) (v : Vacancy) : State :=
  { s with book := { s.book with vacancy := Table.write Vacancy.cold s.book.vacancy room v } }

/-- A kitchen's record. -/
def State.kitchen (s : State) (k : Nat) : Kitchen := Table.read Kitchen.cold s.plan.kitchens k

/-- A kitchen's capacity in a global window: the profile value of its window of day (R135). -/
def State.capacity (s : State) (k g : Nat) : Nat := Table.read 0 s.plan.profile (k * 96 + g % 96)

/-- A menu class, none while UNDEFINED (R136). -/
def State.menuClass (s : State) (m : Nat) : Option MenuClass := Table.read none s.plan.classes m

/-- Transit minutes from a kitchen to a building (R137). -/
def State.transit (s : State) (building k : Nat) : Nat := Table.read 0 s.plan.transit (building * 4 + k)

/-- A load table entry (8.2). -/
def State.loadEntry (s : State) (k g : Nat) : LoadEntry :=
  Table.read LoadEntry.cold s.plan.load (k * Config.windowCount + g)

/-- Replaces a load table entry. -/
def State.setLoadEntry (s : State) (k g : Nat) (v : LoadEntry) : State :=
  { s with plan := { s.plan with
      load := Table.write LoadEntry.cold s.plan.load (k * Config.windowCount + g) v } }

/-- A room's live counters (10.1). -/
def State.roomUsage (s : State) (room : Nat) : RoomUsage := Table.read RoomUsage.zero s.monitor.rooms room

/-- A kitchen's live counters (10.1). -/
def State.kitchenUsage (s : State) (k : Nat) : KitchenUsage := Table.read KitchenUsage.zero s.monitor.kitchens k

/-- A room's chronic state (10.1). -/
def State.chronicState (s : State) (room : Nat) : ChronicState :=
  Table.read ChronicState.cold s.monitor.chronic room

/-- Replaces a room's chronic state. -/
def State.setChronic (s : State) (room : Nat) (v : ChronicState) : State :=
  { s with monitor := { s.monitor with chronic := Table.write ChronicState.cold s.monitor.chronic room v } }

/-! ### The waitlist -/

/-- The live entry of a waitlist position. -/
def State.waitEntry? (s : State) (i : Nat) : Option WaitEntry := Pool.item? s.wait.pool i

/-- A new entry takes a position and joins the arrival list at its tail (R62). -/
def State.addEntry (s : State) (i : Nat) (e : WaitEntry) : State :=
  { s with wait := { s.wait with pool := Pool.store s.wait.pool i e, order := s.wait.order ++ [i] } }

/-- Frees an entry with its fate (R62). -/
def State.freeEntry (s : State) (i : Nat) (f : Fate) : State :=
  { s with wait :=
      { pool := Pool.free s.wait.pool i
        order := s.wait.order.filter (fun j => j ≠ i)
        fates := Table.write none s.wait.fates i (some ⟨(Pool.entry s.wait.pool i).gen, f⟩) } }

/-! ### Free choices -/

/-- Takes one free choice: its number, and the state that has counted it (log entry 3). -/
def State.countChoice (s : State) : State := { s with choices := s.choices + 1 }

end Sys2Proof.Machine
end

