-- ==== Sys2Proof/Machine/Flags.lean ====
section
/-! DEFINITION. The conditions and flags the part works out from what it holds: check-in windows and grace, kitchen
limits, display content, the attention line, the port flags and the frame check. -/

namespace Sys2Proof.Machine

/-! ### Grace and the check-in window -/

/-- The effective grace of a room (R75). -/
def State.effectiveGrace (s : State) (room : Nat) : Nat :=
  if (s.chronicState room).chronic then max ((s.room room).grace / 2) 5 else (s.room room).grace

/-- The deadline of a booking that is confirmed, or moved while CONFIRMED (R26, R47, R50). -/
def State.confirmedDeadline (s : State) (room plane start : Nat) : Deadline :=
  if (s.room room).options.checkinRequired then
    ⟨.graceEnd, slotMinute plane start + (s.effectiveGrace room : Int), false⟩
  else ⟨.arrival, slotMinute plane start, false⟩

/-- The opening minute of a booking's check-in window (R76). -/
def Rec.openingMinute (r : Rec) : Int := r.startMinute - 10

/-- The check-in window of a booking is open (R76): it is CONFIRMED, so its deadline has not been acted on, and now
is at or after the opening minute. DESIGN CHOICE (log entry 46): between the advance at which the deadline falls due and
its taking the window still counts as open, for the display of R121 too. -/
def State.windowOpen (s : State) (r : Rec) : Bool :=
  r.kind = .booking && r.state = .confirmed && decide (r.openingMinute ≤ s.now)

/-- Of two candidates the one with the earlier start minute (R78). -/
def earlier (e f : Nat × Rec) : Nat × Rec := if e.2.startMinute ≤ f.2.startMinute then e else f

/-- The record with the earliest start minute. -/
def earliest : List (Nat × Rec) → Option (Nat × Rec)
  | [] => none
  | e :: l => match earliest l with
    | none => some e
    | some f => some (earlier e f)

/-- The room's CONFIRMED booking whose window is open, the earlier start first (R78). -/
def State.checkInTarget (s : State) (room : Nat) : Option (Nat × Rec) :=
  earliest (s.liveRecs.filter (fun e => e.2.room = room && s.windowOpen e.2))

/-- The room's ARRIVED booking that covers the current slot on plane 0 (R85). -/
def State.coveringArrived (s : State) (room : Nat) : Option (Nat × Rec) :=
  s.liveRecs.find? (fun e => e.2.room = room && e.2.plane = 0 && e.2.kind = .booking && e.2.state = .arrived &&
    e.2.covers s.currentSlot)

/-- The sensor check-in conditions of R80 on the room and its panel. -/
def State.sensorReady (s : State) (room : Nat) : Bool :=
  s.serving && (s.room room).options.sensorCheckin &&
  (match s.linkedPosition? room with
   | none => false
   | some q => q.debounced = some .occupied) &&
  (s.coveringArrived room).isNone

/-! ### Kitchens -/

/-- The limit of a kitchen in a global window (R139). -/
def State.limit (s : State) (k g : Nat) : Nat :=
  if (s.kitchen k).isOpen then s.capacity k g * (100 + (s.kitchen k).overbook) / 100 else 0

/-- The global windows of a kitchen marked OVER, in ascending order (R149, R150). -/
def State.overWindows (s : State) (k : Nat) : List Nat :=
  (s.plan.load.filter (fun e => e.2.isOver && decide (k * Config.windowCount ≤ e.1) &&
    decide (e.1 < (k + 1) * Config.windowCount))).map (fun e => e.1 - k * Config.windowCount)

/-- The service plane of an order (R154). -/
def Order.servicePlane (o : Order) : Int := (o.delivery - o.offset) / 1440

/-! ### Display content -/

/-- The live records of a room. -/
def State.recsOf (s : State) (room : Nat) : List (Nat × Rec) := s.liveRecs.filter (fun e => e.2.room = room)

/-- The record of a room on plane 0 that covers the current slot (R122). -/
def State.currentRec (s : State) (room : Nat) : Option Rec :=
  ((s.recsOf room).find? (fun e => e.2.plane = 0 && e.2.covers s.currentSlot)).map Prod.snd

/-- The record of a room on planes 0 and 1 that starts next after now (R122). -/
def State.nextRec (s : State) (room : Nat) : Option Rec :=
  (earliest ((s.recsOf room).filter (fun e => decide (e.2.plane ≤ 1) && decide (s.now < e.2.startMinute)))).map
    Prod.snd

/-- The display state of a room (R121). -/
def State.displayState (s : State) (room : Nat) : DisplayState :=
  if !s.serving || !(s.room room).isOpen then .closed
  else if (s.recsOf room).any (fun e => e.2.kind = .block && e.2.plane = 0 && e.2.covers s.currentSlot) then .blocked
  else if (s.coveringArrived room).isSome then .busy
  else if (s.recsOf room).any (fun e => s.windowOpen e.2) then .checkinDue
  else if (s.recsOf room).any (fun e => e.2.kind = .booking && decide (e.2.startMinute ≤ s.now + 15) &&
      decide (s.now < e.2.endMinute)) then .soon
  else .free

/-- The badge of a booking (R122). -/
def State.badgeOf (s : State) (r : Rec) : Badge :=
  match r.order.bind (Pool.named? s.plan.orders) with
  | none => .none
  | some o => match o.state with
    | .accepted | .preparing | .dispatched => .due
    | .delivered => .delivered
    | .forfeit => .none

/-- The catering badge of a room (R122). -/
def State.badge (s : State) (current next : Option Rec) : Badge :=
  match current.filter (fun r => r.kind = .booking) with
  | some r => s.badgeOf r
  | none => match next.filter (fun r => r.kind = .booking) with
    | some r => s.badgeOf r
    | none => .none

/-- The display content of a room (R122). -/
def State.contentOf (s : State) (room : Nat) : Content :=
  if s.displayState room = .closed then Content.closed
  else
    { state := s.displayState room
      current := (s.currentRec room).map (fun r => ⟨r.label, r.organizer, 5 * r.stop⟩)
      next := (s.nextRec room).map (fun r => ⟨r.plane, 5 * r.start, r.label⟩)
      badge := s.badge (s.currentRec room) (s.nextRec room) }

/-- The minutes at which a record may change its room's display (R124). -/
def displayCandidates (r : Rec) : List Int :=
  [r.startMinute - 15, r.startMinute - 10, r.startMinute, r.endMinute]

/-- The least of a list of minutes. -/
def leastMinute : List Int → Option Int
  | [] => none
  | m :: l => match leastMinute l with
    | none => some m
    | some n => some (min m n)

/-- The display deadline of a room (R124). -/
def State.displayDeadlineOf (s : State) (room : Nat) : Option DisplayDeadline :=
  if !s.serving then none
  else (leastMinute ((((s.recsOf room).filter (fun e => decide (e.2.plane ≤ 1))).flatMap
    (fun e => displayCandidates e.2)).filter (fun m => decide (s.now < m)))).map (fun m => ⟨m, false⟩)

/-- Computes a room's content and display deadline afresh; a content that differs replaces the one held and
advances the room's display revision (R123, R124). -/
def State.recompute (s : State) (room : Nat) : State :=
  let content := s.contentOf room
  let s1 := s.setDisplay room ⟨content, s.displayDeadlineOf room⟩
  if content = (s.display room).content then s1
  else s1.setRoom room { s.room room with displayRev := (s.room room).displayRev + 1 }

/-- Every room's content computed afresh (R123). -/
def State.recomputeAll (s : State) : State := roomNumbers.foldl State.recompute s

/-! ### The vacancy subject -/

/-- The subject of a room's vacancy timer (R92). DEDUCED from R94 (log entry 10): at the minute that reaches the
subject's end minute it stays the subject until its end is taken, where no other booking covers the slot. -/
def State.vacancySubject (s : State) (room : Nat) : Option Handle :=
  match s.coveringArrived room with
  | some e => some (s.recHandle e.1)
  | none => match (s.vacancy room).subject with
    | none => none
    | some h => match Pool.named? s.book.pool h with
      | none => none
      | some r =>
        if r.room = room && r.plane = 0 && r.state = .arrived && r.stop = s.currentSlot then some h else none

/-- Updates the subject of a room's vacancy timer; a changed subject sets the minutes to 0 (R92). -/
def State.updateSubject (s : State) (room : Nat) : State :=
  if s.vacancySubject room = (s.vacancy room).subject then s
  else s.setVacancy room ⟨s.vacancySubject room, 0⟩

/-- What follows each change to a room's records: the vacancy subject and the display (R92, R123). -/
def State.roomChanged (s : State) (room : Nat) : State := (s.updateSubject room).recompute room

/-! ### Port flags and the attention line -/

/-- Flags of either of two sets. -/
def PortFlags.join (f g : PortFlags) : PortFlags :=
  ⟨f.collision || g.collision, f.incomplete || g.incomplete, f.timeout || g.timeout, f.overrun || g.overrun⟩

/-- Flags of one set that are not in another. -/
def PortFlags.without (f g : PortFlags) : PortFlags :=
  ⟨f.collision && !g.collision, f.incomplete && !g.incomplete, f.timeout && !g.timeout, f.overrun && !g.overrun⟩

/-- Sets port flags; a read in progress notes them as set again (R185, R195). -/
def AgentPort.setFlags (a : AgentPort) (f : PortFlags) : AgentPort :=
  { a with flags := a.flags.join f, reading := a.reading.map (fun r => { r with again := r.again.join f }) }

/-- COLLISION alone. -/
def PortFlags.ofCollision : PortFlags := ⟨true, false, false, false⟩
/-- INCOMPLETE alone. -/
def PortFlags.ofIncomplete : PortFlags := ⟨false, true, false, false⟩
/-- TIMEOUT alone. -/
def PortFlags.ofTimeout : PortFlags := ⟨false, false, true, false⟩
/-- OVERRUN alone. -/
def PortFlags.ofOverrun : PortFlags := ⟨false, false, false, true⟩

/-- The attention line of a port (R186, R197). -/
def State.attention (s : State) (p : Port) : Bool :=
  !s.resetLow && ((s.port p).slot.isSome || !(s.port p).queue.isEmpty)

/-! ### The frame check -/

/-- One bit into the CRC-16 with generator x^16 + x^12 + x^5 + 1 (6.2). -/
def crcBit (crc : BitVec 16) (b : Bool) : BitVec 16 :=
  if (crc.msb != b) then (crc <<< 1) ^^^ 0x1021#16 else crc <<< 1

/-- The bits of a byte, most significant first. -/
def byteBits (b : Byte) : List Bool := [7, 6, 5, 4, 3, 2, 1, 0].map (fun i => b.getLsbD i)

/-- The CRC-16 of panel and agent frames: initial value all ones, over the bytes in order (6.2, R192, R194). -/
def crc16 (bytes : List Byte) : BitVec 16 := (bytes.flatMap byteBits).foldl crcBit 0xFFFF#16

/-- The check of a command frame matches (R192). -/
def CommandFrame.checkMatches (f : CommandFrame) : Bool :=
  f.check = crc16 (f.length :: f.tag :: f.ident :: f.payload)

/-- The check of an upstream frame matches (R99). -/
def UpFrame.checkMatches (f : UpFrame) : Bool :=
  f.check = crc16 (f.header :: f.address :: f.length :: f.payload)

/-- A four-byte value sent most significant byte first (6.2). -/
def word32 (bytes : List Byte) : BitVec 32 :=
  (bytes.take 4).foldl (fun acc b => (acc <<< 8) ||| b.setWidth 32) 0#32

end Sys2Proof.Machine
end

