-- ==== Sys2Proof/Machine/Notices.lean ====
section
/-! DEFINITION. The Notice Router: forming a notice, choosing its ports and offering it to their queues (chapter 11). -/

namespace Sys2Proof.Machine

/-- The number of a notice kind, 1..20 (11.1). -/
def NoticeKind.number : NoticeKind → Nat
  | .holdExpired => 1 | .bookingChanged => 2 | .noShow => 3 | .earlyEnd => 4 | .walkup => 5 | .extended => 6
  | .promoted => 7 | .waitExpired => 8 | .caterLost => 9 | .cutoff => 10 | .dispatchDue => 11
  | .deliveryLate => 12 | .caterForfeit => 13 | .kitchenOver => 14 | .panelState => 15 | .panelMoved => 16
  | .chainDegraded => 17 | .chainFault => 18 | .roomChronic => 19 | .dayRolled => 20

/-- The routing entry of a kind number (11.3). -/
def State.route (s : State) (k : Nat) : Route := Table.read Route.cold s.routes k

/-- What a block hands the router (R176). `owner` is the subject's owner port (R177); `rev` is given where the rule
names the subject's own revision and not the counter's value. -/
structure Raised where
  kind : NoticeKind
  subject : Subject
  owner : Option Port := none
  cond : Option Condition := none
  hi : DetailByte := .unused
  lo : DetailByte := .unused
  tag : Option Byte := none
  data : List Datum := []
  rev : Option Nat := none
deriving DecidableEq, Repr

/-- The notice record the router forms (R176). -/
def State.formNotice (s : State) (e : Raised) : Notice :=
  { kind := e.kind, subject := e.subject, priority := (s.route e.kind.number).priority,
    rev := e.rev.getD s.book.rev, day := s.clock.day, minute := s.clock.minute, cond := e.cond, transitions := 1,
    hi := e.hi, lo := e.lo, tag := e.tag, data := e.data }

/-- Same kind and same subject (R177). -/
def Notice.sameTopic (n m : Notice) : Bool := n.kind = m.kind && n.subject = m.subject

/-- The queued notice `m` after a newer copy `n` coalesces with it (R184). -/
def Notice.coalesce (n m : Notice) : Notice :=
  { n with priority := m.priority, transitions := if n.cond.isSome then satAdd 15 m.transitions 1 else 1 }

/-- Places a notice after the last whose priority is equal or higher (R183). -/
def queueInsert (n : Notice) : List Notice → List Notice
  | [] => [n]
  | m :: l => if n.priority ≤ m.priority then m :: queueInsert n l else n :: m :: l

/-- A read in progress of a notice of the same kind and subject is superseded (R186). -/
def Reading.supersede (r : Reading) (n : Notice) : Reading :=
  match r.frame with
  | .notice m => if Notice.sameTopic n m then { r with superseded := true } else r
  | _ => r

/-- A queue that holds a notice of the same kind and subject. -/
def AgentPort.holdsTopic (a : AgentPort) (n : Notice) : Bool := a.queue.any (Notice.sameTopic n)

/-- Offers a copy of a notice to a port: it coalesces, is queued, or is dropped with OVERRUN (R183, R184, R185). -/
def AgentPort.offer (a : AgentPort) (n : Notice) : AgentPort :=
  if a.holdsTopic n then
    { a with queue := a.queue.map (fun m => if Notice.sameTopic n m then Notice.coalesce n m else m)
             reading := a.reading.map (fun r => r.supersede n) }
  else if a.queue.length < Config.queueCap then { a with queue := queueInsert n a.queue }
  else a.setFlags PortFlags.ofOverrun

/-- Offers a copy of a notice to one port. -/
def State.offer (s : State) (p : Port) (n : Notice) : State := s.setPort p ((s.port p).offer n)

/-- The port of a list whose queue holds the fewest notices, ties to the lowest letter (R181). -/
def State.leastFilled (s : State) : List Port → Option Port
  | [] => none
  | p :: l => match s.leastFilled l with
    | none => some p
    | some q => if (s.port p).queue.length ≤ (s.port q).queue.length then some p else some q

/-- Routes a notice in LEAST mode over a list of ports (R181). -/
def State.routeLeast (s : State) (ports : List Port) (n : Notice) : State :=
  match ports.find? (fun p => (s.port p).holdsTopic n) with
  | some p => s.offer p n
  | none =>
    match s.leastFilled (ports.filter (fun p => decide ((s.port p).queue.length < Config.queueCap))) with
    | some p => s.offer p n
    | none => ports.foldl (fun t p => t.setPort p ((t.port p).setFlags PortFlags.ofOverrun)) s

/-- Routes a notice in FIXED mode over a list of ports (R180). -/
def State.routeFixed (s : State) (ports : List Port) (n : Notice) : State :=
  ports.foldl (fun t p => t.offer p n) s

/-- Raises a notice: it is formed, and offered to the ports its routing entry gives, if that is enabled
(R176, R180, R181, R182). -/
def State.raise (s : State) (e : Raised) : State :=
  let entry := s.route e.kind.number
  let n := s.formNotice e
  if !entry.enabled then s
  else match entry.mode with
    | .fixed => s.routeFixed (portSetList entry.ports) n
    | .least => s.routeLeast (portSetList entry.ports) n
    | .owner => match e.owner with
      | some p => s.offer p n
      | none => s.routeFixed (portSetList entry.ports) n

/-- The owner port of a booking or block, none for PANEL (R177). -/
def ownerPort : Owner → Option Port
  | .port p => some p
  | .panel => none

/-- The actor of a change counts as other than the owner (R55). -/
def actorIsOther : Owner → Actor → Bool
  | .port p, .port q => p ≠ q
  | .port _, .panel => true
  | .panel, .port _ => true
  | .panel, .panel => false
  | _, .clock => false

/-- The finishing facts an agent needs to place the record (11.2). -/
def Facts.datum (f : Facts) : Datum := .facts f.room f.plane f.start f.stop f.fin f.owner f.flags

/-- BOOKING_CHANGED for a change by an actor other than the owner, and nothing otherwise (R55). -/
def State.raiseChanged (s : State) (h : Handle) (owner : Owner) (actor : Actor) (cause : Cause)
    (data : List Datum) : State :=
  if actorIsOther owner actor then
    s.raise { kind := .bookingChanged, subject := .booking h, owner := ownerPort owner, hi := .actor actor,
              lo := .cause cause, data := data }
  else s

end Sys2Proof.Machine
end

