-- ==== Sys2Proof/Machine/Planner.lean ====
section
/-! DEFINITION. The Kitchen Planner's shared operations: shares, the admission test, commit and removal of load, and
the OVER marks (chapter 8). -/

namespace Sys2Proof.Machine

/-- What a passing admission test gives (R145). -/
structure Admission where
  kitchen : Nat
  covers : Nat
  load : Nat
  lead : Nat
  last : Int
  cutoff : Int
  dispatch : Int
  delivery : Int
  clamped : Bool
deriving DecidableEq, Repr

/-- How an admission test fails (R142, R144; RANGE for a delivery minute past the horizon, R141). -/
inductive AdmissionFailure where
  | orderPoolFull
  | tooSoon
  | kitchenFull (k : Nat) (g : Int)
  | range
deriving DecidableEq, Repr

/-- The result code of a failure. -/
def AdmissionFailure.code : AdmissionFailure → Code
  | .orderPoolFull => .full
  | .tooSoon => .tooSoon
  | .kitchenFull _ _ => .kitchenFull
  | .range => .range

/-- The data a failure's code carries. -/
def AdmissionFailure.payload : AdmissionFailure → Payload
  | .orderPoolFull => .full .orderPool
  | .tooSoon => .none
  | .kitchenFull k g => .kitchenFull k g
  | .range => .none

/-- The share of the j-th of `lead` prep windows, counted from the first: the remainder goes to the last (R143). -/
def shareAt (load lead j : Nat) : Nat :=
  load / lead + if lead - load % lead ≤ j then 1 else 0

/-- The prep windows of an order with their shares, first to last (R142, R143). -/
def sharesOf (load lead : Nat) (last : Int) : List (Int × Nat) :=
  (List.range lead).map (fun (j : Nat) => (last - (lead : Int) + 1 + (j : Int), shareAt load lead j))

/-- The prep windows of a live order with their shares. -/
def Order.shares (o : Order) : List (Int × Nat) := sharesOf o.load o.lead o.last

/-- A window index lies in the load table. -/
def inTable (g : Int) : Bool := decide (0 ≤ g) && decide (g < (Config.windowCount : Int))

/-- A share cannot be added to its window under the limit; a share of 0 is not tested (R144). -/
def State.shareFails (s : State) (k : Nat) (w : Int × Nat) : Bool :=
  decide (1 ≤ w.2) && decide (s.limit k w.1.toNat < (s.loadEntry k w.1.toNat).load + w.2)

/-- Steps 4 to 7 of the admission test for one kitchen (R142, R144): the dispatch minute and the last prep window. -/
def State.testKitchen (s : State) (building : Nat) (lead load : Nat) (delivery : Int) (k : Nat) :
    Except AdmissionFailure (Int × Int) :=
  let dispatch := delivery - (s.transit building k : Int)
  let last := dispatch / 15 - 1
  let first := last - (lead : Int) + 1
  if first ≤ (s.currentWindow : Int) ∨ first < 0 then .error .tooSoon
  else match (sharesOf load lead last).find? (s.shareFails k) with
    | some w => .error (.kitchenFull k w.1)
    | none => .ok (dispatch, last)

/-- Puts a kitchen into a list in order of ascending transit, equal transits in the order they are put in (R146). -/
def State.insertByTransit (s : State) (building k : Nat) : List Nat → List Nat
  | [] => [k]
  | j :: l => if s.transit building k ≤ s.transit building j then k :: j :: l
    else j :: s.insertByTransit building k l

/-- The kitchens a request tries, in order (R146). -/
def State.trialOrder (s : State) (building : Nat) : KitchenChoice → List Nat
  | .kitchen k => [k]
  | .any => (List.range Config.kitchenCount).foldr (s.insertByTransit building) []

/-- The first kitchen whose test passes, or else the failure of the first tried (R146). -/
def State.tryKitchens (s : State) (building lead load : Nat) (delivery : Int) :
    List Nat → Except AdmissionFailure (Nat × Int × Int)
  | [] => .error .tooSoon
  | k :: l => match s.testKitchen building lead load delivery k with
    | .ok (d, f) => .ok (k, d, f)
    | .error e => match s.tryKitchens building lead load delivery l with
      | .ok r => .ok r
      | .error _ => .error e

/-- Covers raised to the class minimum and then lowered to the seats (R142 step 2). -/
def clampCovers (covers minCovers seats : Nat) : Nat := min (max covers minCovers) seats

/-- One of the two adjustments of the covers was made: either marks the result CLAMPED, also where the two end at the
covers asked for (R142 step 2). -/
def coversAdjusted (covers minCovers seats : Nat) : Bool :=
  decide (covers < minCovers) || decide (seats < max covers minCovers)

/-- The load of an order (R142 step 3). -/
def loadOf (covers weight : Nat) : Nat := ceilDiv (covers * weight) 10

/-- The admission test of an order for a booking in `room` with the given start minute (R142): `isNew` is a test
for a new order, which needs an order pool entry. -/
def State.admission (s : State) (isNew : Bool) (room : Nat) (startMinute : Int) (q : CaterRequest) :
    Except AdmissionFailure Admission :=
  match s.menuClass q.cls with
  | none => .error .range
  | some m =>
    if startMinute + q.offset > Config.lastMinute then .error .range
    else if isNew && (Pool.lowestFree s.plan.orders Config.orderCap).isNone then .error .orderPoolFull
    else
      let covers := clampCovers q.covers m.minCovers (s.room room).seats
      let load := loadOf covers m.weight
      let delivery := startMinute + q.offset
      let building := (s.room room).building
      match s.tryKitchens building m.lead load delivery (s.trialOrder building q.kitchen) with
      | .error e => .error e
      | .ok (k, dispatch, last) =>
        .ok { kitchen := k, covers := covers, load := load, lead := m.lead, last := last,
              cutoff := 15 * (last - (m.lead : Int) + 1), dispatch := dispatch, delivery := delivery,
              clamped := coversAdjusted q.covers m.minCovers (s.room room).seats }

/-- Adds one share to its window (R145). -/
def State.addShare (k : Nat) (s : State) (w : Int × Nat) : State :=
  if inTable w.1 then
    s.setLoadEntry k w.1.toNat { s.loadEntry k w.1.toNat with load := (s.loadEntry k w.1.toNat).load + w.2 }
  else s

/-- Subtracts one share from its window, if the window is still in the table (R147, R148). -/
def State.subShare (k : Nat) (s : State) (w : Int × Nat) : State :=
  if inTable w.1 then
    s.setLoadEntry k w.1.toNat { s.loadEntry k w.1.toNat with load := (s.loadEntry k w.1.toNat).load - w.2 }
  else s

/-- Commits shares: each is added to its window, every OVER mark left as it stands (R145). -/
def State.commitShares (s : State) (k : Nat) (ws : List (Int × Nat)) : State := ws.foldl (State.addShare k) s

/-- Brings a window's OVER mark into line with its limit (R149). -/
def State.alignOver (k : Nat) (s : State) (g : Nat) : State :=
  s.setLoadEntry k g { s.loadEntry k g with isOver := decide (s.limit k g < (s.loadEntry k g).load) }

/-- The windows of some shares whose load is lower in `s` than before (R147, R148, R149). -/
def fallenWindows (before s : State) (k : Nat) (ws : List (Int × Nat)) : List Nat :=
  (ws.filter (fun w => inTable w.1 &&
    decide ((s.loadEntry k w.1.toNat).load < (before.loadEntry k w.1.toNat).load))).map (fun w => w.1.toNat)

/-- Brings the windows of some shares whose load fell since `before` into line (R149). -/
def State.alignFallen (s before : State) (k : Nat) (ws : List (Int × Nat)) : State :=
  (fallenWindows before s k ws).foldl (State.alignOver k) s

/-- Removes an order's load from the windows still in the table and brings the OVER marks into line (R148). -/
def State.removeLoad (s : State) (k : Nat) (ws : List (Int × Nat)) : State :=
  (ws.foldl (State.subShare k) s).alignFallen s k ws

/-- The OVER windows of each kitchen, as an event finds them (R150). -/
def State.overBefore (s : State) (k : Nat) : List Int := (s.overWindows k).map Int.ofNat

/-- Raises one KITCHEN_OVER for a kitchen whose OVER windows are not `was` (R150). -/
def State.announceOver (was : Nat → List Int) (s : State) (k : Nat) : State :=
  if (s.overWindows k).map Int.ofNat = was k then s
  else s.raise { kind := .kitchenOver, subject := .kitchen k, cond := some (.flag (!(s.overWindows k).isEmpty)),
                 data := [.window ((s.overWindows k).head?.map Int.ofNat), .count (s.overWindows k).length] }

/-- Raises KITCHEN_OVER for each kitchen whose OVER windows are not `was`, in ascending kitchen number (R150). -/
def State.announceAllOver (s : State) (was : Nat → List Int) : State :=
  (List.range Config.kitchenCount).foldl (State.announceOver was) s

/-- A re-admission's table (R147): old shares out, new shares in, the marks of windows whose load fell in line. -/
def State.moveLoad (s : State) (oldKitchen : Nat) (old : List (Int × Nat)) (newKitchen : Nat)
    (new : List (Int × Nat)) : State :=
  let t := (old.foldl (State.subShare oldKitchen) s).commitShares newKitchen new
  t.alignFallen s oldKitchen old

end Sys2Proof.Machine
end

