-- ==== Sys2Proof/Machine/Orders.lean ====
section
/-! DEFINITION. The acts on an order that several rules share: creation, withdrawal, forfeit, unlinking, and following a
finished booking (chapter 9). -/

namespace Sys2Proof.Machine

/-- The order record an admission gives (R145, R157). -/
def newOrder (placing : Port) (booking : Handle) (q : CaterRequest) (m : Admission) : Order :=
  { placing := placing, booking := some booking, kitchen := m.kitchen, cls := q.cls, covers := m.covers,
    offset := q.offset, load := m.load, lead := m.lead, last := m.last, cutoff := m.cutoff, dispatch := m.dispatch,
    delivery := m.delivery, state := .accepted, deadline := some ⟨.cutoff, m.cutoff, false⟩, rev := 0,
    clamped := m.clamped, lateSent := false }

/-- Creates an order in a free entry: its load is committed, and it takes the next revision advance (R157). -/
def State.createOrder (s : State) (j : Nat) (placing : Port) (booking : Handle) (q : CaterRequest)
    (m : Admission) : State :=
  (s.commitShares m.kitchen (sharesOf m.load m.lead m.last)).changeOrder j (newOrder placing booking q m)

/-- Withdrawal of an order (R156): freed WITHDRAWN with its tombstone, its load removed, the OVER windows reported
unless the removal belongs to the rollover's one event (R150). The booking's link is the caller's to clear, so that
KITCHEN_OVER comes before the notice of that change: DESIGN CHOICE (log entry 17). -/
def State.withdrawOrder (s : State) (j : Nat) (o : Order) (inRollover : Bool) : State :=
  let t := (s.freeOrder j .withdrawn).removeLoad o.kitchen o.shares
  if inRollover then t else t.announceAllOver s.overBefore

/-- Forfeit of an order (R156): FORFEIT with its load kept, its booking link cleared where it is unlinked, and one
CATER_FORFEIT raised. -/
def State.forfeitOrder (s : State) (j : Nat) (o : Order) (unlinked : Bool) (cause : Cause) (actor : Actor) : State :=
  let t := s.changeOrder j { o with state := .forfeit, deadline := none,
                                    booking := if unlinked then none else o.booking }
  t.raise { kind := .caterForfeit, subject := .order (Pool.handle s.plan.orders j), owner := some o.placing,
            hi := .cause cause, lo := .actor actor, data := [.booking o.booking] }

/-- Unlinking of a DELIVERED or FORFEIT order (R156). -/
def State.unlinkOrder (s : State) (j : Nat) (o : Order) : State := s.changeOrder j { o with booking := none }

/-- The order of a finished booking follows it (R164). -/
def State.followFinish (s : State) (f : Facts) (inRollover : Bool) : State :=
  match f.order with
  | none => s
  | some h => match Pool.named? s.plan.orders h with
    | none => s
    | some o => match o.state with
      | .accepted => s.withdrawOrder h.index o inRollover
      | .preparing | .dispatched => s.forfeitOrder h.index o true (.finish f.fin) f.actor
      | .delivered | .forfeit => s.unlinkOrder h.index o

/-- Delivery of an order (R161). -/
def State.deliverOrder (s : State) (j : Nat) (o : Order) : State :=
  s.changeOrder j { o with state := .delivered, deadline := none }

/-- The display of the room whose live booking an order is linked to is computed again (R123, R156). -/
def State.orderRoomChanged (s : State) (booking : Option Handle) : State :=
  match booking.bind (Pool.named? s.book.pool) with
  | none => s
  | some r => s.recompute r.room

end Sys2Proof.Machine
end

