-- ==== Sys2Proof/Machine/Finish.lean ====
section
/-! DEFINITION. The finish of a booking or block (R30, R31), the monitor's counting of it (R169), and the promotion scan
of the waitlist (R70 to R73). -/

namespace Sys2Proof.Machine

/-- The finishing facts of a record (R30). -/
def factsOf (h : Handle) (r : Rec) (fin : FinState) (actor : Actor) (rev : Nat) : Facts :=
  { handle := h, kind := r.kind, room := r.room, plane := r.plane, start := r.start, stop := r.stop,
    padStart := r.padStart, padEnd := r.padEnd, owner := r.owner, organizer := r.organizer, label := r.label,
    attendees := r.attendees, arrival := r.arrival, flags := r.flags, extensions := r.extensions, order := r.order,
    fin := fin, rev := rev, actor := actor }

/-- The occupied slots of a finish (R169); a free value where the arrival slot lies after the end (log entry 5). -/
def occupiedSlots (f : Facts) : Nat :=
  match f.arrival with
  | none => 0
  | some a => if a ≤ f.stop then f.stop - a else Config.occupiedOpen f.stop a

/-- One where a condition holds. -/
def oneIf (b : Bool) : Nat := if b then 1 else 0

/-- A finish's facts added into room counters, each saturating at its width (R168, R169). -/
def RoomUsage.add (u : RoomUsage) (f : Facts) : RoomUsage :=
  { booked := satAdd 65535 u.booked (f.stop - f.start)
    occupied := satAdd 65535 u.occupied (occupiedSlots f)
    noShows := satAdd 255 u.noShows (oneIf (f.fin = .released))
    earlyEnds := satAdd 255 u.earlyEnds (oneIf (f.fin = .ended && f.actor = .panel))
    walkups := satAdd 255 u.walkups (oneIf f.flags.walkup)
    extensions := satAdd 255 u.extensions f.extensions
    unverified := satAdd 255 u.unverified (oneIf (f.fin = .ended && f.flags.unverified)) }

/-- The monitor counts a finish (R169, R174); a block's finish adds nothing. -/
def State.countFinish (s : State) (f : Facts) : State :=
  if f.kind = .block then s
  else
    let c := s.chronicState f.room
    { s with monitor := { s.monitor with
        rooms := Table.write RoomUsage.zero s.monitor.rooms f.room ((s.roomUsage f.room).add f)
        chronic := Table.write ChronicState.cold s.monitor.chronic f.room
          { c with dayNoShows := satAdd 255 c.dayNoShows (oneIf (f.fin = .released)) } } }

/-- The kind of tombstone a record leaves (R35). -/
def tombKind : RecKind → TombKind
  | .booking => .booking
  | .block => .block

/-- The facts of a record that finishes now: its revision is the next (R30, R32). -/
def State.finishFacts (s : State) (i : Nat) (r : Rec) (fin : FinState) (actor : Actor) : Facts :=
  factsOf (s.recHandle i) r fin actor s.advanceRev.book.rev

/-- A finish as one change (R30): the revision advances, a tombstone is written, and the entry is freed; the monitor
counts the facts (R31). `r` is the record as it stands at the finish. -/
def State.finishRec (s : State) (i : Nat) (r : Rec) (fin : FinState) (actor : Actor) : State :=
  let f := s.finishFacts i r fin actor
  let t := s.advanceRev.writeTombstone ⟨f.handle, tombKind r.kind, fin, f.rev⟩
  (t.setPool (Pool.free s.book.pool i)).countFinish f

/-- A finish with its own notices and its order's consequence (R31): the notices carry the finish's revision, so
they come before the order follows. -/
def State.finishFully (s : State) (i : Nat) (r : Rec) (fin : FinState) (actor : Actor)
    (notify : Facts → State → State) (inRollover : Bool) : State :=
  let f := s.finishFacts i r fin actor
  (notify f (s.finishRec i r fin actor)).followFinish f inRollover

/-- A finish that raises no notice of its own. -/
def noNotice (_ : Facts) (s : State) : State := s

/-- HOLD_EXPIRED (R27, R37). -/
def notifyHoldExpired (f : Facts) (s : State) : State :=
  s.raise { kind := .holdExpired, subject := .booking f.handle, owner := ownerPort f.owner, data := [f.datum] }

/-- NO_SHOW (R83). -/
def notifyNoShow (f : Facts) (s : State) : State :=
  s.raise { kind := .noShow, subject := .booking f.handle, owner := ownerPort f.owner, data := [f.datum] }

/-- BOOKING_CHANGED with the finishing facts (R55). -/
def notifyChanged (actor : Actor) (cause : Cause) (f : Facts) (s : State) : State :=
  s.raiseChanged f.handle f.owner actor cause [f.datum]

/-- EARLY_END, and then BOOKING_CHANGED for a booking owned by a port (R86). -/
def notifyEarlyEnd (reason changedCause : Cause) (f : Facts) (s : State) : State :=
  (s.raise { kind := .earlyEnd, subject := .booking f.handle, owner := ownerPort f.owner, hi := .cause reason,
             data := [f.datum] }).raiseChanged f.handle f.owner .panel changedCause [f.datum]

/-! ### The promotion scan -/

/-- A placement of an entry fits (R71). -/
def State.fits (s : State) (e : WaitEntry) (room start : Nat) : Bool :=
  let rm := s.room room
  rm.isOpen && decide (e.attendees ≤ rm.seats) &&
  !(e.plane == 0 && decide (start < s.currentSlot)) &&
  decide (start + e.length ≤ 288) &&
  (s.firstConflict room e.plane (start - rm.setup) (min (start + e.length + rm.clear) 288) none).isNone

/-- The first placement of an entry that fits: rooms in its order, and in each room starts ascending (R71). -/
def State.placement (s : State) (e : WaitEntry) : Option (Nat × Nat) :=
  (e.rooms.flatMap (fun room => (List.range (e.flex + 1)).map (fun k => (room, e.earliest + k)))).find?
    (fun q => s.fits e q.1 q.2)

/-- The admission of a promoted entry's catering request, if it carries one (R73). -/
def State.promotionAdmission (s : State) (e : WaitEntry) (room start : Nat) :
    Option (CaterRequest × Except AdmissionFailure Admission) :=
  e.cater.map (fun q => (q, s.admission true room (slotMinute e.plane start) q))

/-- The record a promotion creates (R72, R73): `order` is the link of an admitted order, `lost` marks a catering
request that was not admitted. -/
def promotedRec (s : State) (e : WaitEntry) (room start : Nat) (order : Option Handle) (lost : Bool) : Rec :=
  { kind := .booking, room := room, plane := e.plane, start := start, stop := start + e.length,
    setup := (s.room room).setup, clear := (s.room room).clear, state := .held, owner := .port e.requester,
    organizer := e.organizer, label := e.label, attendees := some e.attendees,
    deadline := ⟨.holdEnd, min (s.now + 10) (slotMinute e.plane start), false⟩, arrival := none, rev := 0,
    order := order, flags := ⟨false, lost, false, true⟩, extensions := 0 }

/-- The PROMOTED notice (R72, R73), with the booking's own revision. -/
def promotedNotice (booking entry : Handle) (e : WaitEntry) (order : Option Handle) (rev : Nat) : Raised :=
  { kind := .promoted, subject := .booking booking, owner := some e.requester, tag := some e.tag,
    data := .wait entry :: order.toList.map Datum.order, rev := some rev }

/-- The CATER_LOST notice of a promotion whose catering request failed (R73). DESIGN CHOICE (log entry 36): it carries no
tag, as the table of 11.2 gives the tag to PROMOTED and WAIT_EXPIRED only; the prose of chapter 4 says that CATER_LOST
returns it too. -/
def promotionLostNotice (booking : Handle) (e : WaitEntry) (fail : AdmissionFailure) : Raised :=
  { kind := .caterLost, subject := .booking booking, owner := some e.requester, hi := .result fail.code,
    data := match fail with
      | .kitchenFull k g => [.kitchen k, .window (some g)]
      | _ => [] }

/-- A promotion (R72, R73): entry `w` becomes a HELD booking in pool entry `i`, with its order where the request
is admitted. -/
def State.promote (s : State) (w : Nat) (e : WaitEntry) (room start i : Nat) : State :=
  let booking := s.recHandle i
  let entry := Pool.handle s.wait.pool w
  let fate := Fate.promoted booking
  match s.promotionAdmission e room start with
  | none =>
    let t := (s.changeRec i (promotedRec s e room start none false)).freeEntry w fate
    (t.raise (promotedNotice booking entry e none t.book.rev)).roomChanged room
  | some (_, .error fail) =>
    let t := (s.changeRec i (promotedRec s e room start none true)).freeEntry w fate
    ((t.raise (promotedNotice booking entry e none t.book.rev)).raise
      (promotionLostNotice booking e fail)).roomChanged room
  | some (q, .ok m) =>
    match Pool.lowestFree s.plan.orders Config.orderCap with
    | none => s
    | some j =>
      let order := Pool.handle s.plan.orders j
      let t := (s.changeRec i (promotedRec s e room start (some order) false)).freeEntry w fate
      let u := t.createOrder j e.requester booking q m
      (u.raise (promotedNotice booking entry e (some order) t.book.rev)).roomChanged room

/-- A scan over entries in the order given (R71): each that its requester may still hold and that fits is promoted;
a fit with no free pool entry ends the scan. -/
def State.scan (s : State) : List Nat → State
  | [] => s
  | w :: l => match s.waitEntry? w with
    | none => s.scan l
    | some e =>
      if !s.holds e.requester .sched then s.scan l
      else match s.placement e with
        | none => s.scan l
        | some (room, start) => match Pool.lowestFree s.book.pool Config.bookCap with
          | none => s
          | some i => (s.promote w e room start i).scan l

/-- A promotion scan over the whole waitlist in arrival order (R70, R71). -/
def State.promotionScan (s : State) : State := s.scan s.wait.order

end Sys2Proof.Machine
end

