-- ==== Sys2Proof/Machine/Attend.lean ====
section
/-! DEFINITION. The acts at the room door (chapter 5): check-in by key, agent and sensor, early end, extension, walk-up,
delivery by key, and the grace-end test. -/

namespace Sys2Proof.Machine

/-! ### Check-in -/

/-- The arrival slot of a check-in taken now (R77). -/
def State.arrivalSlot (s : State) (r : Rec) : Nat :=
  if s.now < r.startMinute then r.start else (s.nowMinute - r.plane * 1440) / 5

/-- The record after a check-in (R77). -/
def State.checkedIn (s : State) (r : Rec) : Rec :=
  { r with state := .arrived, arrival := some (s.arrivalSlot r), flags := { r.flags with unverified := false },
           deadline := ⟨.endAt, r.endMinute, false⟩ }

/-- A check-in, whichever path carries it (R77). -/
def State.checkIn (s : State) (i : Nat) (r : Rec) (actor : Actor) (cause : Cause) : State :=
  ((s.changeRec i (s.checkedIn r)).raiseChanged (s.recHandle i) r.owner actor cause []).roomChanged r.room

/-- The sensor check-in test of a room (R80), at a sensor change and when its position reaches LINKED. -/
def State.sensorTest (s : State) (room : Nat) : State :=
  if s.sensorReady room then
    match s.checkInTarget room with
    | none => s
    | some e => s.checkIn e.1 e.2 .panel .sensor
  else s

/-- At a minute advance, a check-in is taken before a deadline that falls due at this advance where a free choice
says so (R76, log entry 3). -/
def State.checkInFirst (s : State) (e : Nat × Rec) : Bool :=
  if e.2.deadline.due then Config.dueOrder s.choices e.1 % 2 == 0 else true

/-- An open booking whose ARRIVAL is taken before the sensor test of this advance, and which, then ARRIVED, covers the
current slot on plane 0 (R76, R80). -/
def State.arrivesFirst (s : State) (e : Nat × Rec) : Bool :=
  e.2.deadline.kind = .arrival && !s.checkInFirst e && e.2.plane = 0 && e.2.covers s.currentSlot

/-- The sensor check-in test of a room at a minute advance (R80, R76): bookings whose deadline is taken first are
left to it, and one that this makes ARRIVED holds off its successor where it covers the current slot. DESIGN CHOICE (log entry 37): at the advance to the
end minute of an ARRIVED meeting the meeting no longer covers the current slot, so the four conditions of R80 hold and
its successor may be checked in at that advance, the meeting's END still untaken. -/
def State.sensorTestAtAdvance (s : State) (room : Nat) : State :=
  if s.sensorReady room then
    let open_ := s.liveRecs.filter (fun e => e.2.room = room && s.windowOpen e.2)
    let t := if open_.any (fun e => e.2.deadline.due) then s.countChoice else s
    if open_.any s.arrivesFirst then t
    else match earliest (open_.filter s.checkInFirst) with
      | none => t
      | some e => t.checkIn e.1 e.2 .panel .sensor
  else s

/-! ### The grace end -/

/-- The grace-end test releases the booking: its room has no bound panel, or one at a LINKED position (R82). -/
def State.graceReleases (s : State) (room : Nat) : Bool :=
  (s.room room).unitId.isNone || (s.linkedPosition? room).isSome

/-- The record on the UNVERIFIED path (R28, R84). -/
def unverifiedRec (r : Rec) : Rec :=
  { r with flags := { r.flags with unverified := true }, deadline := ⟨.unverifiedEnd, r.endMinute, false⟩ }

/-! ### Early end -/

/-- The record as it stands at an early end: its end lowered to the slot after the current one (R86). -/
def State.shortened (s : State) (r : Rec) : Rec := { r with stop := min (s.currentSlot + 1) r.stop }

/-- An early end by key or auto-end, with the scan that follows (R86). -/
def State.earlyEnd (s : State) (i : Nat) (r : Rec) (reason changedCause : Cause) : State :=
  ((s.finishFully i (s.shortened r) .ended .panel (notifyEarlyEnd reason changedCause) false).roomChanged
    r.room).promotionScan

/-! ### Extension -/

/-- The entry that follows entry `i` in a list. -/
def nextAfter (i : Nat) : List (Nat × Rec) → Option (Nat × Rec)
  | [] => none
  | e :: l => if e.1 = i then l.head? else nextAfter i l

/-- The record that follows a record in its day list (R87). -/
def State.following (s : State) (i : Nat) (r : Rec) : Option (Nat × Rec) :=
  nextAfter i (s.dayList r.room r.plane)

/-- An extension by `k` slots stays inside the day and the length limit (R87). -/
def lengthAllows (r : Rec) (k : Nat) : Bool := decide (r.stop + k ≤ 288) && decide (r.stop + k - r.start ≤ 144)

/-- An extension by `k` slots satisfies the conditions of the fit (R87). -/
def fitAllows (r : Rec) (next : Option (Nat × Rec)) (k : Nat) : Bool :=
  lengthAllows r k &&
  (match next with
   | none => true
   | some e => decide (min (r.stop + k + r.clear) 288 ≤ e.2.padStart))

/-- The fit of an extension (R87). -/
def State.extensionFit (s : State) (i : Nat) (r : Rec) : Nat :=
  (([3, 2, 1].find? (fitAllows r (s.following i r))).getD 0)

/-- The record after an extension by `k` slots (R88). -/
def extendedRec (r : Rec) (k : Nat) : Rec :=
  { r with stop := r.stop + k, extensions := r.extensions + 1,
           deadline := ⟨.endAt, slotMinute r.plane (r.stop + k), false⟩ }

/-- An extension carried out (R88). -/
def State.extendRec (s : State) (i : Nat) (r : Rec) (k : Nat) (actor : Actor) : State :=
  let h := s.recHandle i
  let r' := extendedRec r k
  (((s.changeRec i r').raise
    { kind := .extended, subject := .booking h, owner := ownerPort r.owner,
      data := [.minute r'.endMinute, .count r'.extensions] }).raiseChanged
    h r.owner actor .extend []).roomChanged r.room

/-! ### Walk-up -/

/-- The end slot of a walk-up at `slot` whose following record is `next` (R90 step 4): six slots, lowered to 288 and
to what the following record leaves, and at least three. -/
def walkupStop (clear slot : Nat) (next : Option (Nat × Rec)) : Option Nat :=
  ([0, 1, 2, 3].map (fun k => min (slot + 6) 288 - k)).find? (fun e => decide (slot + 3 ≤ e) &&
    (match next with
     | none => true
     | some f => decide (min (e + clear) 288 ≤ f.2.padStart)))

/-- The record of a walk-up (R91). -/
def walkupRec (room : Nat) (rm : Room) (slot stop : Nat) : Rec :=
  { kind := .booking, room := room, plane := 0, start := slot, stop := stop, setup := rm.setup, clear := rm.clear,
    state := .arrived, owner := .panel, organizer := 0, label := 0, attendees := some 1,
    deadline := ⟨.endAt, slotMinute 0 stop, false⟩, arrival := some slot, rev := 0, order := none,
    flags := ⟨false, false, true, false⟩, extensions := 0 }

/-- The span of a walk-up that passes steps 1 to 4 of R90, by its end slot. -/
def State.walkupSpan (s : State) (room : Nat) : Option Nat :=
  let slot := s.currentSlot
  let rm := s.room room
  let day := s.dayList room 0
  if !rm.options.walkupAllowed || !rm.isOpen then none
  else if day.any (fun e => decide (e.2.padStart ≤ slot) && decide (slot < e.2.padEnd)) then none
  else if (day.filter (fun e => decide (e.2.padStart ≤ slot))).any (fun e => decide (slot - rm.setup < e.2.padEnd))
  then none
  else walkupStop rm.clear slot (day.find? (fun e => decide (slot < e.2.padStart)))

/-- A BOOK_NOW press (R90, R91). -/
def State.bookNow (s : State) (room : Nat) : State :=
  match s.walkupSpan room with
  | none => s
  | some stop => match Pool.lowestFree s.book.pool Config.bookCap with
    | none => s
    | some i =>
      ((s.changeRec i (walkupRec room (s.room room) s.currentSlot stop)).raise
        { kind := .walkup, subject := .booking (s.recHandle i) }).roomChanged room

/-! ### Presses -/

/-- The record of a list with the lowest start slot above `slot`. -/
def firstAfter (slot : Nat) : List (Nat × Rec) → Option (Nat × Rec)
  | [] => none
  | e :: l => match firstAfter slot l with
    | none => if slot < e.2.start then some e else none
    | some f => if slot < e.2.start && decide (e.2.start ≤ f.2.start) then some e else some f

/-- The delivery target of a room (R129). -/
def State.deliveryTarget (s : State) (room : Nat) : Option Rec :=
  let linked := (s.recsOf room).filter (fun e => e.2.kind = .booking && e.2.plane = 0 && e.2.order.isSome)
  match linked.find? (fun e => e.2.covers s.currentSlot) with
  | some e => some e.2
  | none => (firstAfter s.currentSlot linked).map Prod.snd

/-- A DELIVERED press (R129, R161). -/
def State.deliveredKey (s : State) (room : Nat) : State :=
  match (s.deliveryTarget room).bind Rec.order with
  | none => s
  | some h => match Pool.named? s.plan.orders h with
    | none => s
    | some o => match o.state with
      | .preparing | .dispatched => (s.deliverOrder h.index o).recompute room
      | _ => s

/-- A CHECK_IN press (R78). -/
def State.checkInKey (s : State) (room : Nat) : State :=
  match s.checkInTarget room with
  | none => s
  | some e => s.checkIn e.1 e.2 .panel .checkIn

/-- An END_NOW press (R85, R86). -/
def State.endNowKey (s : State) (room : Nat) : State :=
  match s.coveringArrived room with
  | none => s
  | some e => s.earlyEnd e.1 e.2 .key .endNow

/-- An EXTEND press (R88). -/
def State.extendKey (s : State) (room : Nat) : State :=
  match s.coveringArrived room with
  | none => s
  | some e =>
    if s.extensionFit e.1 e.2 = 0 ∨ 8 ≤ e.2.extensions then s
    else s.extendRec e.1 e.2 (s.extensionFit e.1 e.2) .panel

/-- A new press from a position bound to `room`, while the device is SERVING and the position LINKED (R95, R129). -/
def State.press (s : State) (room : Nat) : KeyCode → State
  | .none => s
  | .checkIn => s.checkInKey room
  | .endNow => s.endNowKey room
  | .extend => s.extendKey room
  | .bookNow => s.bookNow room
  | .delivered => s.deliveredKey room

end Sys2Proof.Machine
end

