-- ==== Sys2Proof/Machine/Deadlines.lean ====
section
/-! DEFINITION. What each owner does when a deadline that has fallen due is taken (R27 to R29, R69, R82, R94, R124, R162,
R163), and taking all that have fallen due. -/

namespace Sys2Proof.Machine

/-- A record whose deadline is of a kind and has fallen due. -/
def State.dueRec (s : State) (i : Nat) (k : DeadlineKind) : Option Rec :=
  (s.rec? i).filter (fun r => r.deadline.kind = k && r.deadline.due)

/-- An order whose deadline is of a kind and has fallen due. -/
def State.dueOrder (s : State) (j : Nat) (k : OrderDeadlineKind) : Option Order :=
  (s.order? j).filter (fun o => o.deadline.any (fun d => d.kind = k && d.due))

/-- A finish on a deadline, with the display, the timer and the scan that follow (R27 to R29, R70). -/
def State.finishByClock (s : State) (i : Nat) (r : Rec) (fin : FinState) (notify : Facts → State → State) : State :=
  ((s.finishFully i r fin .clock notify false).roomChanged r.room).promotionScan

/-- A hold deadline (R27). -/
def State.takeHoldEnd (s : State) (i : Nat) : State :=
  match s.dueRec i .holdEnd with
  | none => s
  | some r => s.finishByClock i r .expired notifyHoldExpired

/-- An arrival deadline (R28, R81). -/
def State.takeArrival (s : State) (i : Nat) : State :=
  match s.dueRec i .arrival with
  | none => s
  | some r =>
    (s.changeRec i { r with state := .arrived, arrival := some r.start,
                            deadline := ⟨.endAt, r.endMinute, false⟩ }).roomChanged r.room

/-- A grace end (R28, R82, R83, R84). -/
def State.takeGraceEnd (s : State) (i : Nat) : State :=
  match s.dueRec i .graceEnd with
  | none => s
  | some r =>
    if s.graceReleases r.room then s.finishByClock i r .released notifyNoShow
    else (s.changeRec i (unverifiedRec r)).roomChanged r.room

/-- An UNVERIFIED_END deadline (R28, R84). -/
def State.takeUnverifiedEnd (s : State) (i : Nat) : State :=
  match s.dueRec i .unverifiedEnd with
  | none => s
  | some r => s.finishByClock i r .ended noNotice

/-- An END deadline of an ARRIVED booking or of a block (R29). -/
def State.takeEnd (s : State) (i : Nat) : State :=
  match s.dueRec i .endAt with
  | none => s
  | some r => s.finishByClock i r (if r.kind = .block then .removed else .ended) noNotice

/-- A waitlist entry's expiry (R69). -/
def State.takeExpiry (s : State) (w : Nat) : State :=
  match (s.waitEntry? w).filter WaitEntry.due with
  | none => s
  | some e => (s.freeEntry w .expired).raise
      { kind := .waitExpired, subject := .wait (Pool.handle s.wait.pool w), owner := some e.requester,
        hi := .cause .expired, tag := some e.tag }

/-- A room whose vacancy minutes have reached 20 (R94). -/
def State.takeAutoEnd (s : State) (room : Nat) : State :=
  if (s.vacancy room).minutes < 20 then s
  else match (s.vacancy room).subject with
    | none => s
    | some h => match Pool.named? s.book.pool h with
      | none => s
      | some r => s.earlyEnd h.index r .autoEnd .autoEnd

/-- A room's display deadline (R124). -/
def State.takeDisplay (s : State) (room : Nat) : State :=
  match (s.display room).deadline.filter DisplayDeadline.due with
  | none => s
  | some _ => s.recompute room

/-- The booking record a cut-off that finds it HELD leaves (R162). -/
def caterLostRec (b : Rec) : Rec := { b with order := none, flags := { b.flags with caterLost := true } }

/-- A cut-off (R162). -/
def State.takeCutoff (s : State) (j : Nat) : State :=
  match s.dueOrder j .cutoff with
  | none => s
  | some o =>
    let order := Pool.handle s.plan.orders j
    match o.booking.bind (fun h => (Pool.named? s.book.pool h).map (fun b => (h, b))) with
    | none => s
    | some (h, b) =>
      if b.state = .held then
        (((s.withdrawOrder j o false).changeRec h.index (caterLostRec b)).raise
          { kind := .caterLost, subject := .booking h, owner := ownerPort b.owner, hi := .cause .cutoff,
            data := [.order order] }).recompute b.room
      else
        ((s.changeOrder j { o with state := .preparing, deadline := some ⟨.dispatch, o.dispatch, false⟩ }).raise
          { kind := .cutoff, subject := .order order, owner := some o.placing,
            data := [.kitchen o.kitchen, .count o.covers, .minute o.dispatch] }).recompute b.room

/-- The building of the room of an order's booking (R163). -/
def State.orderBuilding (s : State) (o : Order) : Nat :=
  match o.booking.bind (Pool.named? s.book.pool) with
  | none => 0
  | some b => (s.room b.room).building

/-- A dispatch deadline (R163). -/
def State.takeDispatch (s : State) (j : Nat) : State :=
  match s.dueOrder j .dispatch with
  | none => s
  | some o =>
    ((s.changeOrder j { o with state := .dispatched, deadline := some ⟨.late, o.delivery + 15, false⟩ }).raise
      { kind := .dispatchDue, subject := .order (Pool.handle s.plan.orders j), owner := some o.placing,
        data := [.kitchen o.kitchen, .building (s.orderBuilding o), .minute o.delivery] }).orderRoomChanged o.booking

/-- A LATE deadline (R163). -/
def State.takeLate (s : State) (j : Nat) : State :=
  match s.dueOrder j .late with
  | none => s
  | some o =>
    (s.changeOrder j { o with lateSent := true, deadline := none }).raise
      { kind := .deliveryLate, subject := .order (Pool.handle s.plan.orders j), owner := some o.placing,
        data := [.minute o.delivery, .booking o.booking] }

/-! ### All that has fallen due -/

/-- Something that has fallen due and waits to be taken by its owner. -/
inductive Outstanding where
  | record (i : Nat)
  | order (j : Nat)
  | entry (w : Nat)
  | vacancy (room : Nat)
  | display (room : Nat)
deriving DecidableEq, Repr

/-- All that has fallen due and is not yet taken (R13). -/
def State.outstanding (s : State) : List Outstanding :=
  (s.liveRecs.filter (fun e => e.2.deadline.due)).map (fun e => .record e.1) ++
  ((Pool.live s.plan.orders).filter (fun e => e.2.deadline.any OrderDeadline.due)).map (fun e => .order e.1) ++
  ((Pool.live s.wait.pool).filter (fun e => e.2.due)).map (fun e => .entry e.1) ++
  (s.book.vacancy.filter (fun e => decide (20 ≤ e.2.minutes))).map (fun e => .vacancy e.1) ++
  (s.link.displays.filter (fun e => e.2.deadline.any DisplayDeadline.due)).map (fun e => .display e.1)

/-- A record's deadline taken by its kind. -/
def State.takeRecord (s : State) (i : Nat) : State :=
  match s.rec? i with
  | none => s
  | some r => match r.deadline.kind with
    | .holdEnd => s.takeHoldEnd i
    | .arrival => s.takeArrival i
    | .graceEnd => s.takeGraceEnd i
    | .unverifiedEnd => s.takeUnverifiedEnd i
    | .endAt => s.takeEnd i

/-- An order's deadline taken by its kind. -/
def State.takeOrder (s : State) (j : Nat) : State :=
  match (s.order? j).bind Order.deadline with
  | none => s
  | some d => match d.kind with
    | .cutoff => s.takeCutoff j
    | .dispatch => s.takeDispatch j
    | .late => s.takeLate j

/-- Something outstanding taken by its owner. -/
def State.take (s : State) : Outstanding → State
  | .record i => s.takeRecord i
  | .order j => s.takeOrder j
  | .entry w => s.takeExpiry w
  | .vacancy room => s.takeAutoEnd room
  | .display room => s.takeDisplay room

/-- The next outstanding thing to take: one alone, or one of several by a free choice (R13, log entry 3). -/
def State.nextOutstanding (s : State) : Option (Outstanding × State) :=
  match s.outstanding with
  | [] => none
  | [x] => some (x, s)
  | x :: y :: l =>
    some (((x :: y :: l)[Config.dueOrder s.choices Config.bookCap % (l.length + 2)]?).getD x, s.countChoice)

/-- Takes up to `n` outstanding things. -/
def State.drainUpTo (s : State) : Nat → State
  | 0 => s
  | n + 1 => match s.nextOutstanding with
    | none => s
    | some (x, t) => (t.take x).drainUpTo n

/-- Takes all that is outstanding; taking one makes no other fall due. -/
def State.drain (s : State) : State := s.drainUpTo s.outstanding.length

end Sys2Proof.Machine
end

