-- ==== Sys2Proof/Machine/Clockwork.lean ====
section
/-! DEFINITION. The minute advance (R13, R93), the day rollover (R14) with the parts the book, the waitlist, the planner and
the monitor take in it (R37, R38, R74, R152, R166, R171, R173, R174), and the whole of a passing minute. -/

namespace Sys2Proof.Machine

/-! ### Deadlines fall due -/

/-- A record's deadline falls due when it is at or before now (R13). -/
def Rec.markDue (now : Int) (r : Rec) : Rec :=
  if r.deadline.minute ≤ now then { r with deadline := { r.deadline with due := true } } else r

/-- An order's deadline falls due (R13). -/
def Order.markDue (now : Int) (o : Order) : Order :=
  { o with deadline := o.deadline.map (fun d => if d.minute ≤ now then { d with due := true } else d) }

/-- A waitlist entry's expiry falls due (R13, R69). -/
def WaitEntry.markDue (now : Int) (e : WaitEntry) : WaitEntry := if e.expiry ≤ now then { e with due := true } else e

/-- A display deadline falls due (R13, R124). -/
def Display.markDue (now : Int) (d : Display) : Display :=
  { d with deadline := d.deadline.map (fun t => if t.minute ≤ now then { t with due := true } else t) }

/-- Every deadline at or before now falls due (R13). -/
def State.markAllDue (s : State) : State :=
  { s with
    book := { s.book with pool := Pool.mapLive s.book.pool (Rec.markDue s.now) }
    plan := { s.plan with orders := Pool.mapLive s.plan.orders (Order.markDue s.now) }
    wait := { s.wait with pool := Pool.mapLive s.wait.pool (WaitEntry.markDue s.now) }
    link := { s.link with displays := s.link.displays.map (fun e => (e.1, Display.markDue s.now e.2)) } }

/-! ### The vacancy timer -/

/-- The vacancy minutes of a room whose subject stays, at a minute advance (R93). -/
def State.vacancyMinutes (s : State) (room : Nat) : Nat :=
  if !(s.room room).options.autoEnd then 0
  else match s.linkedPosition? room with
    | none => (s.vacancy room).minutes
    | some q => match q.debounced with
      | none => (s.vacancy room).minutes
      | some .vacant => satAdd 20 (s.vacancy room).minutes 1
      | some .occupied => 0

/-- The vacancy timer of a room at a minute advance (R92, R93). An advance that makes a booking the subject starts
it from 0 (R94). -/
def State.vacancyTick (s : State) (room : Nat) : State :=
  if s.vacancySubject room = (s.vacancy room).subject then
    match (s.vacancy room).subject with
    | none => s
    | some h => s.setVacancy room ⟨some h, s.vacancyMinutes room⟩
  else s.setVacancy room ⟨s.vacancySubject room, 0⟩

/-- What a minute advance does once now has moved: deadlines fall due, the vacancy timers run, and the sensor
check-in test is made for every room (R13, R80, R93). DESIGN CHOICE (log entry 35): the rooms' sensor check-ins of one
advance are made in ascending room number, which decides their revisions; the manual gives no order. -/
def State.advanceEffects (s : State) : State :=
  roomNumbers.foldl State.sensorTestAtAdvance (roomNumbers.foldl State.vacancyTick s.markAllDue)

/-! ### Snapshots and the chronic decision -/

/-- Raises DAY_ROLLED with the present sequence as subject, and the clock's day and minute in its data (R171, R173).
DESIGN CHOICE (log entry 42): so does the DAY_ROLLED of a rollover with AUTO_SNAPSHOT clear, for which R173 names no
time. -/
def State.raiseDayRolled (s : State) (kind : SnapshotKind) : State :=
  s.raise { kind := .dayRolled, subject := .snapshot s.monitor.bank.seq, hi := .snapshot kind,
            data := [.time s.clock.day s.clock.minute] }

/-- The monitor after a snapshot (R171). -/
def Monitor.closePeriod (m : Monitor) (kind : SnapshotKind) (day minute : Nat) : Monitor :=
  { m with rooms := [], kitchens := [],
           bank := { rooms := m.rooms, kitchens := m.kitchens, seq := m.bank.seq + 1, kind := kind, day := day,
                     minute := minute } }

/-- A snapshot as one event, with its notice (R171). -/
def State.takeSnapshot (s : State) (kind : SnapshotKind) : State :=
  State.raiseDayRolled { s with monitor := s.monitor.closePeriod kind s.clock.day s.clock.minute } kind

/-- The chronic state of a room after a decision (R174). -/
def ChronicState.decide (c : ChronicState) (threshold : Nat) : ChronicState :=
  if threshold ≤ c.dayNoShows then
    ⟨0, min (c.streak + 1) 3, if min (c.streak + 1) 3 = 3 then true else c.chronic⟩
  else if c.dayNoShows = 0 then ⟨0, 0, false⟩
  else ⟨0, 0, c.chronic⟩

/-- The chronic decision of a room, with ROOM_CHRONIC where the flag changes (R174). -/
def State.decideChronic (s : State) (room : Nat) : State :=
  let c := s.chronicState room
  let threshold := (s.room room).threshold
  let d := c.decide threshold
  let t := s.setChronic room d
  if d.chronic = c.chronic then t
  else t.raise { kind := .roomChronic, subject := .room room, cond := some (.flag d.chronic),
                 data := [.count c.dayNoShows, .count threshold, .count d.streak] }

/-- The monitor at the rollover (R173). -/
def State.monitorRollover (s : State) : State :=
  roomNumbers.foldl State.decideChronic
    (if s.monitor.autoSnapshot then s.takeSnapshot .auto else s.raiseDayRolled .none)

/-! ### The book at the rollover -/

/-- The finish the rollover gives a record of plane 0: the record, its finishing state, and its notice (R37).
DESIGN CHOICE (log entry 41): a CONFIRMED booking whose ARRIVAL deadline is still live at the rollover is released where
the grace-end test releases it, as R37 says of every CONFIRMED booking, although R81 calls such a booking never released
as a no-show. -/
def State.rolloverFate (s : State) (r : Rec) : Rec × FinState × (Facts → State → State) :=
  match r.state with
  | .held => (r, .expired, notifyHoldExpired)
  | .confirmed =>
    if r.flags.unverified then (r, .ended, noNotice)
    else if s.graceReleases r.room then (r, .released, notifyNoShow)
    else ({ r with flags := { r.flags with unverified := true } }, .ended, noNotice)
  | .arrived => (r, .ended, noNotice)
  | .blocked => (r, .removed, noNotice)

/-- The rollover finishes one record (R37); its display and timer follow with its room. -/
def State.rolloverFinish (s : State) (i : Nat) : State :=
  match s.rec? i with
  | none => s
  | some r =>
    let f := s.rolloverFate r
    s.finishFully i f.1 f.2.1 .clock f.2.2 true

/-- The rooms that hold live records on plane 0, ascending. -/
def State.roomsOfToday (s : State) : List Nat := roomNumbers.filter (fun r => !(s.dayList r 0).isEmpty)

/-- The entries of plane 0 in the order the rollover takes them (R37). -/
def State.entriesOfToday (s : State) : List Nat := roomNumbers.flatMap (fun r => (s.dayList r 0).map Prod.fst)

/-- The book finishes every record still live on plane 0 (R37); each room they leave follows once. -/
def State.bookRollover (s : State) : State :=
  s.roomsOfToday.foldl State.roomChanged (s.entriesOfToday.foldl State.rolloverFinish s)

/-! ### The planner at the rollover -/

/-- An order freed at the rollover counted by the monitor (R170). -/
def KitchenUsage.add (u : KitchenUsage) (o : Order) : KitchenUsage :=
  if o.state = .delivered then
    { u with ordersDelivered := satAdd 65535 u.ordersDelivered 1
             coversDelivered := satAdd 65535 u.coversDelivered o.covers }
  else
    { u with ordersForfeited := satAdd 65535 u.ordersForfeited 1
             coversForfeited := satAdd 65535 u.coversForfeited o.covers }

/-- The monitor counts a freed order in its kitchen (R170). -/
def State.countOrder (s : State) (o : Order) : State :=
  { s with monitor := { s.monitor with
      kitchens := Table.write KitchenUsage.zero s.monitor.kitchens o.kitchen ((s.kitchenUsage o.kitchen).add o) } }

/-- The finishing state of an order freed at the rollover (R166). -/
def servedFinish (o : Order) : FinState := if o.state = .delivered then .delivered else .forfeit

/-- Clears the order link of a live booking in a change of its own (R156, R166). -/
def State.clearLink (s : State) (booking : Option Handle) : State :=
  match booking with
  | none => s
  | some h => match Pool.named? s.book.pool h with
    | none => s
    | some b => s.changeRec h.index { b with order := none }

/-- The rollover frees one DELIVERED or FORFEIT order of service plane 0 (R166). -/
def State.freeServed (s : State) (j : Nat) : State :=
  match s.order? j with
  | none => s
  | some o =>
    ((((s.freeOrder j (servedFinish o)).removeLoad o.kitchen o.shares).countOrder o).clearLink o.booking)

/-- The orders the rollover frees, in ascending pool index (R166). -/
def State.servedOrders (s : State) : List Nat :=
  ((Pool.live s.plan.orders).filter (fun e =>
    (e.2.state = .delivered || e.2.state = .forfeit) && e.2.servicePlane = 0)).map Prod.fst

/-! ### Renumbering -/

/-- A record in the new numbering (R38). -/
def Rec.renumber (r : Rec) : Rec :=
  { r with plane := r.plane - 1, deadline := { r.deadline with minute := r.deadline.minute - 1440 } }

/-- A waitlist entry in the new numbering (R74). -/
def WaitEntry.renumber (e : WaitEntry) : WaitEntry := { e with plane := e.plane - 1, expiry := e.expiry - 1440 }

/-- An order in the new numbering (R14, R152). -/
def Order.renumber (o : Order) : Order :=
  { o with last := o.last - 96, cutoff := o.cutoff - 1440, dispatch := o.dispatch - 1440,
           delivery := o.delivery - 1440,
           deadline := o.deadline.map (fun d => { d with minute := d.minute - 1440 }) }

/-- A display in the new numbering (R124). -/
def Display.renumber (d : Display) : Display :=
  { d with deadline := d.deadline.map (fun t => { t with minute := t.minute - 1440 }) }

/-- The load table in the new numbering: plane 0 dropped, the rest lowered, plane 7 empty (R152). -/
def renumberLoad (t : Table LoadEntry) : Table LoadEntry :=
  t.filterMap (fun e => if e.1 % Config.windowCount < 96 then none else some (e.1 - 96, e.2))

/-- Everything that carries planes, minutes or windows in the new day's numbering (R14, R38, R74, R124, R152). -/
def State.renumber (s : State) : State :=
  { s with
    clock := { s.clock with oldDay := false }
    book := { s.book with pool := Pool.mapLive s.book.pool Rec.renumber }
    wait := { s.wait with pool := Pool.mapLive s.wait.pool WaitEntry.renumber }
    plan := { s.plan with orders := Pool.mapLive s.plan.orders Order.renumber, load := renumberLoad s.plan.load }
    link := { s.link with displays := s.link.displays.map (fun e => (e.1, Display.renumber e.2)) } }

/-! ### The day rollover -/

/-- The clock raises the rollover: the day of week advances and the minute of day becomes 0 (R14). The planes keep
the old numbering until `renumber`. -/
def State.raiseRollover (s : State) : State :=
  { s with clock := { s.clock with day := (s.clock.day + 1) % 7, minute := 0 } }

/-- The OVER windows of each kitchen before a rollover, each lowered by 96 (R150). -/
def State.overLowered (s : State) (k : Nat) : List Int := (s.overWindows k).map (fun g : Nat => (g : Int) - 96)

/-- The day rollover up to its scan: the finishes of plane 0 and their orders (R37, R164), the freed orders (R166),
the renumbering (R38, R74, R152), KITCHEN_OVER (R150), every room's display (R123) and the monitor (R173). -/
def State.rolloverChanges (s : State) : State :=
  let t := s.raiseRollover.bookRollover
  ((((t.servedOrders.foldl State.freeServed t).renumber.announceAllOver s.overLowered).recomputeAll).monitorRollover)

/-- The whole day rollover (R14): its one scan where it finished records (R31, R70, R74), and then minute 0 as a
minute advance of its own. -/
def State.rollover (s : State) : State :=
  let t := s.rolloverChanges
  State.advanceEffects (if s.entriesOfToday.isEmpty then t else t.promotionScan)

/-! ### A passing minute -/

/-- What the present minute still owes: its outstanding deadlines, and at midnight the rollover with the deadlines
of the new minute 0 (R13, R14). -/
def State.settle (s : State) : State :=
  let t := s.drain
  if t.clock.oldDay then t.rollover.drain else t

/-- Moves now on by one minute; from 1439 it reaches horizon minute 1440 of the ending day (R13, R14). -/
def State.bumpMinute (s : State) : State :=
  { s with clock := { s.clock with minute := s.clock.minute + 1, oldDay := s.clock.minute + 1 == 1440 } }

/-- A minute advance (R13): what the minute that ends still owes comes first. While the clock is not set there is
none (R12). -/
def State.advanceMinute (s : State) : State :=
  if s.clock.set then s.settle.bumpMinute.advanceEffects else s

/-- `n` successive minute advances (R17). -/
def State.advanceMinutes (s : State) : Nat → State
  | 0 => s
  | n + 1 => s.advanceMinute.advanceMinutes n

end Sys2Proof.Machine
end

