-- ==== Sys2Proof/Machine/Operands.lean ====
section
/-! DEFINITION. The operands of commands: their ranges, the rounding of times to slots (R11), the resolution of handles
(R21, R36, R63, R154), and the checks every command of a kind begins with (R8, R33, R40, R41, R189). -/

namespace Sys2Proof.Machine

/-! ### Answers -/

/-- A command refused: nothing changes. -/
def refuse (s : State) (c : Code) (data : Payload := .none) : State × Reply := (s, { code := c, payload := data })

/-- A command carried out. -/
def accept (s : State) (data : Payload := .none) (clamped : Bool := false) : State × Reply :=
  (s, { code := .ok, clamped := clamped, payload := data })

/-! ### Ranges and rounding -/

/-- A plane or a minute of day of a span is out of range (R11). -/
def spanOut (plane start stop : Nat) : Bool := decide (7 < plane) || decide (1439 < start) || decide (1440 < stop)

/-- The start slot of a start minute (R11). -/
def startSlot (minute : Nat) : Nat := minute / 5

/-- The end slot of an end minute (R11). -/
def stopSlot (minute : Nat) : Nat := ceilDiv minute 5

/-- A length after rounding is outside 1..`most` slots (R42, R53, R64). -/
def lengthOut (start stop most : Nat) : Bool := decide (stop ≤ start) || decide (most < stop - start)

/-- A room number is out of range. -/
def roomOut (room : Nat) : Bool := decide (159 < room)

/-- Attendees are outside 1..400. -/
def attendeesOut (n : Nat) : Bool := decide (n < 1) || decide (400 < n)

/-- A kitchen choice is out of range (R141 item 1). -/
def kitchenOut : KitchenChoice → Bool
  | .any => false
  | .kitchen k => decide (3 < k)

/-- A menu class is out of range or UNDEFINED (R141 item 2). -/
def State.classOut (s : State) (m : Nat) : Bool := decide (15 < m) || (s.menuClass m).isNone

/-- Covers are outside 1..400 (R141 item 3). -/
def coversOut (n : Nat) : Bool := decide (n < 1) || decide (400 < n)

/-- A delivery offset is outside -60..+30 (R141 item 4). -/
def offsetOut (o : Int) : Bool := decide (o < -60) || decide (30 < o)

/-- Items 1 to 4 of the checks of a catering request (R141). -/
def State.requestOut (s : State) (q : CaterRequest) : Bool :=
  kitchenOut q.kitchen || s.classOut q.cls || coversOut q.covers || offsetOut q.offset

/-- Item 5: the delivery minute of a booking start and offset lies past the horizon (R141). -/
def deliveryOut (startMinute offset : Int) : Bool := decide (Config.lastMinute < startMinute + offset)

/-- A handle's booking index is above 2047 (R21). -/
def bookIndexOut (h : Handle) : Bool := decide (2047 < h.index)

/-- A handle's order index is above 511 (R154). -/
def orderIndexOut (h : Handle) : Bool := decide (511 < h.index)

/-- A handle's waitlist index is above 63 (R63). -/
def waitIndexOut (h : Handle) : Bool := decide (63 < h.index)

/-! ### The checks commands begin with -/

/-- Role, mode and exhaustion, in that order, for a command that changes a book record (R8, R33, R40, R158). -/
def State.changeCheck (s : State) (p : Port) (r : Role) : Option Code :=
  if !s.mayIssue p r then some .role
  else if !s.serving then some .notOpen
  else if s.exhausted then some .revExhausted
  else none

/-- Role and mode, for a waitlist command (R64, R67). -/
def State.waitCheck (s : State) (p : Port) : Option Code :=
  if !s.mayIssue p .sched then some .role else if !s.serving then some .notOpen else none

/-! ### Handles -/

/-- Steps 5 and 6 of R40: the handle is resolved, its kind and the expected revision tested (R21, R36, R41). -/
def State.withRecord (s : State) (h : Handle) (kind : RecKind) (expected : Nat)
    (go : Rec → State × Reply) : State × Reply :=
  match Pool.named? s.book.pool h with
  | none => refuse s .noSuch (.noSuch (s.findTombstone false h))
  | some r =>
    if r.kind ≠ kind then refuse s .state
    else if r.rev ≠ expected then refuse s .stale (.stale r.rev)
    else go r

/-- An order handle resolved and its expected revision tested (R154, R159). -/
def State.withOrder (s : State) (h : Handle) (expected : Nat) (go : Order → State × Reply) : State × Reply :=
  match Pool.named? s.plan.orders h with
  | none => refuse s .noSuch (.noSuch (s.findTombstone true h))
  | some o => if o.rev ≠ expected then refuse s .stale (.stale o.rev) else go o

/-- What NO_SUCH says of a stale waitlist handle: the fate, where the position's record holds the generation (R63). -/
def State.waitGone (s : State) (h : Handle) : Option Fate :=
  ((Table.read none s.wait.fates h.index).filter (fun f => f.gen = h.gen)).map FateRecord.fate

end Sys2Proof.Machine
end

