-- ==== Sys2Proof/Machine/PortOps.lean ====
section
/-! DEFINITION. Taking a command at an agent port, running it, and placing its response (R191, R193). -/

namespace Sys2Proof.Machine

/-- What STATUS returns at a port, as it stands now (R196). -/
def State.statusReading (s : State) (p : Port) : StatusReading :=
  { mode := s.site.mode, day := s.clock.day, minute := s.clock.minute, seconds := s.clock.seconds,
    clockSet := s.clock.set, syncEnabled := s.clock.syncEnabled, rev := s.book.rev, exhausted := s.exhausted,
    buildings := s.site.buildings, roles := (s.port p).roles,
    depths := ⟨s.ports.a.queue.length, s.ports.b.queue.length, s.ports.c.queue.length⟩,
    bookings := Pool.occupancy s.book.pool, waiting := Pool.occupancy s.wait.pool,
    orders := Pool.occupancy s.plan.orders }

/-- A command as the port takes it: with the port's mask (R190) and, for a STATUS, the values it returns (R196). -/
def State.takenNow (s : State) (p : Port) (tag : Byte) (cmd : Command) : Taken :=
  { tag := tag, cmd := cmd, mask := (s.port p).roles
    seen := if cmd = .status then some (s.statusReading p) else none }

/-- A well-formed command frame at a port (R191): taken where the port is IDLE, or was when the frame began;
otherwise ignored with COLLISION. -/
def AgentPort.takeFrame (a : AgentPort) (cmd : Taken) : AgentPort :=
  match a.base with
  | .idle => { a with receiving := false, base := .executing, inHand := some cmd }
  | _ => { a with receiving := false }.setFlags PortFlags.ofCollision

/-- The owning block places its response (R191): the slot is filled, and the state, or the remembered state while
RECEIVING, becomes ANSWER_READY. -/
def AgentPort.place (a : AgentPort) (r : Response) : AgentPort :=
  { a with slot := some r, base := .answerReady, inHand := none }

/-- The owning block runs a command to completion and then places its response (R191, R193). -/
def State.answer (s : State) (p : Port) (tag : Byte) (run : State → State × Reply) : State :=
  (run s).1.setPort p (((run s).1.port p).place ⟨tag, (run s).2⟩)

/-- The port has this command with its owning block. -/
def AgentPort.holdsCommand (a : AgentPort) (tag : Byte) (cmd : Command) : Bool :=
  a.inHand.any (fun h => h.tag = tag && h.cmd = cmd)

/-- A command of a port as one step (R191, R193). A command that the port already has with its owning block is run.
Otherwise its frame arrives now: it is taken and run at an IDLE port, and ignored with COLLISION at another. While
RESET is low SEL is ignored (R197), and during a read transaction no frame can arrive (log entry 7). -/
def State.atPort (s : State) (p : Port) (tag : Byte) (cmd : Command) (run : State → State × Reply) : State :=
  if s.resetLow then s
  else if (s.port p).holdsCommand tag cmd then s.answer p tag run
  else if (s.port p).reading.isSome then s
  else
    let t := s.setPort p ((s.port p).takeFrame (s.takenNow p tag cmd))
    if (s.port p).base = .idle then t.answer p tag run else t

end Sys2Proof.Machine
end

