-- ==== Sys2Proof/Machine/Attendance.lean ====
section
/-! DEFINITION. The attendance commands of agents: CHECK_IN (R79) and EXTEND (R89). -/

namespace Sys2Proof.Machine

/-- CHECK_IN (R40, R77, R79). The arrival slot is returned as a horizon minute (log entry 34). -/
def runCheckIn (p : Port) (h : Handle) (expected : Nat) (s : State) : State × Reply :=
  match s.changeCheck p .sched with
  | some c => refuse s c
  | none =>
    if bookIndexOut h then refuse s .range
    else s.withRecord h .booking expected (fun r =>
      if r.state ≠ .confirmed then refuse s .state
      else if s.now < r.openingMinute then refuse s .tooLate (.window r.openingMinute r.deadline.minute)
      else accept (s.checkIn h.index r (.port p) .checkIn)
        (.arrived s.advanceRev.book.rev (slotMinute r.plane (s.arrivalSlot r)) r.endMinute))

/-- CHECK_IN at a port. -/
def execCheckIn (p : Port) (tag : Byte) (h : Handle) (expected : Nat) (s : State) :
    Host.Outcome State Fault Refusal :=
  .next (s.atPort p tag (.checkIn h expected) (runCheckIn p h expected))

/-- The record whose padded start limits a fit of 0, or none where slot 288 or the 144-slot length does (R89).
DESIGN CHOICE (log entry 38): none too where the following record and the day or length limit the fit together. -/
def State.fitLimiter (s : State) (i : Nat) (r : Rec) : Option Handle :=
  if lengthAllows r 1 then (s.following i r).map (fun e => s.recHandle e.1) else none

/-- EXTEND (R40, R88, R89). -/
def runExtend (p : Port) (h : Handle) (expected : Nat) (s : State) : State × Reply :=
  match s.changeCheck p .sched with
  | some c => refuse s c
  | none =>
    if bookIndexOut h then refuse s .range
    else s.withRecord h .booking expected (fun r =>
      if r.state ≠ .arrived then refuse s .state
      else if 8 ≤ r.extensions then refuse s .state (.number r.extensions)
      else
        let k := s.extensionFit h.index r
        if k = 0 then refuse s .state (.optBooking (s.fitLimiter h.index r))
        else accept (s.extendRec h.index r k (.port p))
          (.extended s.advanceRev.book.rev (slotMinute r.plane (r.stop + k)) (r.extensions + 1)) (decide (k < 3)))

/-- EXTEND at a port. -/
def execExtend (p : Port) (tag : Byte) (h : Handle) (expected : Nat) (s : State) :
    Host.Outcome State Fault Refusal :=
  .next (s.atPort p tag (.extend h expected) (runExtend p h expected))

end Sys2Proof.Machine
end

