-- ==== Sys2Proof/Machine/Booking.lean ====
section
/-! DEFINITION. The commands that place and change bookings and blocks: HOLD, CONFIRM, MODIFY, CANCEL, BLOCK and UNBLOCK
(R42 to R48, R52 to R55). MOVE stands in Machine/Moving.lean. -/

namespace Sys2Proof.Machine

/-! ### HOLD -/

/-- The hold minutes that are stored (R42). -/
def storedHold (m : Nat) : Nat := if m = 0 then 10 else min m 60

/-- The range checks of HOLD (R42, R141). -/
def State.holdOut (s : State) (a : HoldArgs) : Bool :=
  roomOut a.room || spanOut a.plane a.start a.stop ||
  lengthOut (startSlot a.start) (stopSlot a.stop) 144 || attendeesOut a.attendees || decide (255 < a.holdMinutes) ||
  a.cater.any (fun q => s.requestOut q || deliveryOut (slotMinute a.plane (startSlot a.start)) q.offset)

/-- The record a HOLD creates (R44), with the link of its order where it has one. -/
def heldRec (s : State) (p : Port) (a : HoldArgs) (order : Option Handle) : Rec :=
  { kind := .booking, room := a.room, plane := a.plane, start := startSlot a.start, stop := stopSlot a.stop,
    setup := (s.room a.room).setup, clear := (s.room a.room).clear, state := .held, owner := .port p,
    organizer := a.organizer, label := a.label, attendees := some a.attendees,
    deadline := ⟨.holdEnd, min (s.now + (storedHold a.holdMinutes : Int)) (slotMinute a.plane (startSlot a.start)),
                 false⟩,
    arrival := none, rev := 0, order := order, flags := ⟨false, false, false, false⟩, extensions := 0 }

/-- What a HOLD that created a booking returns (R40, R42). The start and end minutes are horizon minutes: DESIGN CHOICE
(log entry 34). -/
def heldPayload (s : State) (p : Port) (i : Nat) (a : HoldArgs) (order : Option (Handle × Nat))
    (covers : Option Nat) : Payload :=
  .held (s.recHandle i) s.advanceRev.book.rev (slotMinute a.plane (startSlot a.start))
    (slotMinute a.plane (stopSlot a.stop)) (heldRec s p a none).deadline.minute (storedHold a.holdMinutes) order
    covers

/-- A HOLD that passed its placement tests, with free entry `i` (R44, R45). -/
def placeHold (p : Port) (a : HoldArgs) (i : Nat) (s : State) : State × Reply :=
  match a.cater with
  | none =>
    let t := s.changeRec i (heldRec s p a none)
    accept (t.roomChanged a.room) (heldPayload s p i a none none) (decide (60 < a.holdMinutes))
  | some q =>
    match s.admission true a.room (slotMinute a.plane (startSlot a.start)) q with
    | .error e => refuse s e.code e.payload
    | .ok m => match Pool.lowestFree s.plan.orders Config.orderCap with
      | none => refuse s .full (.full .orderPool)
      | some j =>
        let order := Pool.handle s.plan.orders j
        let t := (s.changeRec i (heldRec s p a (some order))).createOrder j p (s.recHandle i) q m
        accept (t.roomChanged a.room)
          (heldPayload s p i a (some (order, t.book.rev)) (if m.clamped then some m.covers else none))
          (decide (60 < a.holdMinutes) || m.clamped)

/-- The waitlist entry a HOLD with WAIT_IF_BUSY makes (R46, R66). -/
def entryOfHold (p : Port) (tag : Byte) (a : HoldArgs) : WaitEntry :=
  { rooms := [a.room], plane := a.plane, earliest := startSlot a.start,
    length := stopSlot a.stop - startSlot a.start, flex := 0, attendees := a.attendees, organizer := a.organizer,
    label := a.label, cater := a.cater, expiry := slotMinute a.plane (startSlot a.start), due := false,
    requester := p, tag := tag }

/-- A HOLD that failed placement with CONFLICT or FULL: refused, or taken to the waitlist (R43, R46). The answer of a
HOLD taken to the waitlist also returns the stored start and end minutes (R11). DESIGN CHOICE (log entry 33): it returns
no hold minutes and sets no CLAMPED for hold minutes above 60, since no booking stores them; R42 and R46 leave it
open. -/
def busyHold (p : Port) (tag : Byte) (a : HoldArgs) (code : Code) (conflict : Option Handle) (data : Payload)
    (s : State) : State × Reply :=
  if !a.waitIfBusy then refuse s code data
  else match Pool.lowestFree s.wait.pool Config.waitCap with
    | none => refuse s .full (.full .waitlist)
    | some w =>
      accept (s.addEntry w (entryOfHold p tag a))
        (.waitlisted (Pool.handle s.wait.pool w) (slotMinute a.plane (startSlot a.start))
          (slotMinute a.plane (stopSlot a.stop)) code conflict)

/-- The first record a HOLD or a BLOCK with these padded bounds would conflict with (R24). -/
def State.holdConflict (s : State) (a : HoldArgs) : Option Nat :=
  s.firstConflict a.room a.plane (startSlot a.start - (s.room a.room).setup)
    (min (stopSlot a.stop + (s.room a.room).clear) 288) none

/-- A start on plane 0 lies before the current slot (R43, R49, R53, R64). -/
def State.startPassed (s : State) (plane start : Nat) : Bool := plane == 0 && decide (start < s.currentSlot)

/-- HOLD (R40, R42 to R46). -/
def runHold (p : Port) (tag : Byte) (a : HoldArgs) (s : State) : State × Reply :=
  match s.changeCheck p .sched with
  | some c => refuse s c
  | none =>
    if s.holdOut a then refuse s .range
    else if !(s.room a.room).isOpen then refuse s .state
    else if s.startPassed a.plane (startSlot a.start) then refuse s .tooLate
    else if (s.room a.room).seats < a.attendees then refuse s .capacity
    else match s.holdConflict a with
      | some j => busyHold p tag a .conflict (some (s.recHandle j)) (.booking (s.recHandle j)) s
      | none => match Pool.lowestFree s.book.pool Config.bookCap with
        | none => busyHold p tag a .full none (.full .bookingPool) s
        | some i => placeHold p a i s

/-- HOLD at a port. -/
def execHold (p : Port) (tag : Byte) (args : HoldArgs) (s : State) : Host.Outcome State Fault Refusal :=
  .next (s.atPort p tag (.hold args) (runHold p tag args))

/-! ### CONFIRM -/

/-- A booking confirmed (R47). -/
def State.confirmedRec (s : State) (r : Rec) : Rec :=
  { r with state := .confirmed, deadline := s.confirmedDeadline r.room r.plane r.start }

/-- CONFIRM (R40, R47). -/
def runConfirm (p : Port) (h : Handle) (expected : Nat) (s : State) : State × Reply :=
  match s.changeCheck p .sched with
  | some c => refuse s c
  | none =>
    if bookIndexOut h then refuse s .range
    else s.withRecord h .booking expected (fun r =>
      if r.state ≠ .held then refuse s .state
      else
        let d := s.confirmedDeadline r.room r.plane r.start
        accept (((s.changeRec h.index (s.confirmedRec r)).raiseChanged h r.owner (.port p) .confirm []).roomChanged
            r.room)
          (.confirmed s.advanceRev.book.rev d.kind d.minute))

/-- CONFIRM at a port. -/
def execConfirm (p : Port) (tag : Byte) (h : Handle) (expected : Nat) (s : State) :
    Host.Outcome State Fault Refusal :=
  .next (s.atPort p tag (.confirm h expected) (runConfirm p h expected))

/-! ### MODIFY -/

/-- The range checks of MODIFY (R48). -/
def modifyOut (a : ModifyArgs) : Bool :=
  (a.label.isNone && a.organizer.isNone && a.attendees.isNone) || a.attendees.any attendeesOut

/-- A booking with the fields carried in place of the stored ones (R48). -/
def modifiedRec (r : Rec) (a : ModifyArgs) : Rec :=
  { r with label := a.label.getD r.label, organizer := a.organizer.getD r.organizer,
           attendees := if a.attendees.isSome then a.attendees else r.attendees }

/-- MODIFY (R40, R48). -/
def runModify (p : Port) (h : Handle) (expected : Nat) (a : ModifyArgs) (s : State) : State × Reply :=
  match s.changeCheck p .sched with
  | some c => refuse s c
  | none =>
    if bookIndexOut h || modifyOut a then refuse s .range
    else s.withRecord h .booking expected (fun r =>
      if a.attendees.any (fun n => decide ((s.room r.room).seats < n)) then refuse s .capacity
      else if modifiedRec r a = r then accept s (.revision r.rev)
      else
        accept (((s.changeRec h.index (modifiedRec r a)).raiseChanged h r.owner (.port p) .modify []).roomChanged
            r.room)
          (.revision s.advanceRev.book.rev))

/-- MODIFY at a port. -/
def execModify (p : Port) (tag : Byte) (h : Handle) (expected : Nat) (args : ModifyArgs) (s : State) :
    Host.Outcome State Fault Refusal :=
  .next (s.atPort p tag (.modify h expected args) (runModify p h expected args))

/-! ### CANCEL -/

/-- A finish on a port's command, with BOOKING_CHANGED for an actor other than the owner, the display, the timer and
the scan (R52, R54, R55, R70). -/
def State.finishByPort (s : State) (p : Port) (i : Nat) (r : Rec) (fin : FinState) (cause : Cause) : State :=
  ((s.finishFully i r fin (.port p) (notifyChanged (.port p) cause) false).roomChanged r.room).promotionScan

/-- CANCEL (R40, R52). -/
def runCancel (p : Port) (h : Handle) (expected : Nat) (s : State) : State × Reply :=
  match s.changeCheck p .sched with
  | some c => refuse s c
  | none =>
    if bookIndexOut h then refuse s .range
    else s.withRecord h .booking expected (fun r =>
      accept (s.finishByPort p h.index r .cancelled .cancel) (.revision s.advanceRev.book.rev))

/-- CANCEL at a port. -/
def execCancel (p : Port) (tag : Byte) (h : Handle) (expected : Nat) (s : State) :
    Host.Outcome State Fault Refusal :=
  .next (s.atPort p tag (.cancel h expected) (runCancel p h expected))

/-! ### BLOCK and UNBLOCK -/

/-- The range checks of BLOCK (R53). -/
def blockOut (a : BlockArgs) : Bool :=
  roomOut a.room || spanOut a.plane a.start a.stop || lengthOut (startSlot a.start) (stopSlot a.stop) 288

/-- The record a BLOCK creates (R53). -/
def blockRec (p : Port) (a : BlockArgs) : Rec :=
  { kind := .block, room := a.room, plane := a.plane, start := startSlot a.start, stop := stopSlot a.stop,
    setup := 0, clear := 0, state := .blocked, owner := .port p, organizer := a.organizer, label := a.label,
    attendees := none, deadline := ⟨.endAt, slotMinute a.plane (stopSlot a.stop), false⟩, arrival := none, rev := 0,
    order := none, flags := ⟨false, false, false, false⟩, extensions := 0 }

/-- BLOCK (R40, R53). -/
def runBlock (p : Port) (a : BlockArgs) (s : State) : State × Reply :=
  match s.changeCheck p .facil with
  | some c => refuse s c
  | none =>
    if blockOut a then refuse s .range
    else if !(s.room a.room).isOpen then refuse s .state
    else if s.startPassed a.plane (startSlot a.start) then refuse s .tooLate
    else match s.firstConflict a.room a.plane (startSlot a.start) (stopSlot a.stop) none with
      | some j => refuse s .conflict (.booking (s.recHandle j))
      | none => match Pool.lowestFree s.book.pool Config.bookCap with
        | none => refuse s .full (.full .bookingPool)
        | some i =>
          accept ((s.changeRec i (blockRec p a)).roomChanged a.room)
            (.blocked (s.recHandle i) s.advanceRev.book.rev (slotMinute a.plane (startSlot a.start))
              (slotMinute a.plane (stopSlot a.stop)))

/-- BLOCK at a port. -/
def execBlock (p : Port) (tag : Byte) (args : BlockArgs) (s : State) : Host.Outcome State Fault Refusal :=
  .next (s.atPort p tag (.block args) (runBlock p args))

/-- UNBLOCK (R40, R54). -/
def runUnblock (p : Port) (h : Handle) (expected : Nat) (s : State) : State × Reply :=
  match s.changeCheck p .facil with
  | some c => refuse s c
  | none =>
    if bookIndexOut h then refuse s .range
    else s.withRecord h .block expected (fun r =>
      accept (s.finishByPort p h.index r .removed .unblock) (.revision s.advanceRev.book.rev))

/-- UNBLOCK at a port. -/
def execUnblock (p : Port) (tag : Byte) (h : Handle) (expected : Nat) (s : State) :
    Host.Outcome State Fault Refusal :=
  .next (s.atPort p tag (.unblock h expected) (runUnblock p h expected))

end Sys2Proof.Machine
end

