-- ==== Sys2Proof/Machine/Moving.lean ====
section
/-! DEFINITION. Re-admission of an order (R147) and MOVE (R49 to R51, R165). -/

namespace Sys2Proof.Machine

/-! ### Re-admission -/

/-- The table as step 1 of a re-admission leaves it: the order's shares taken out (R147). -/
def State.withoutShares (s : State) (o : Order) : State := o.shares.foldl (State.subShare o.kitchen) s

/-- The test of a re-admission (R147 step 2). -/
def State.readmission (s : State) (o : Order) (room : Nat) (startMinute : Int) (q : CaterRequest) :
    Except AdmissionFailure Admission :=
  (s.withoutShares o).admission false room startMinute q

/-- The order with the items a passing re-admission stores (R147, R159). -/
def readmittedOrder (o : Order) (q : CaterRequest) (m : Admission) : Order :=
  { o with kitchen := m.kitchen, cls := q.cls, covers := m.covers, offset := q.offset, load := m.load, lead := m.lead,
           last := m.last, cutoff := m.cutoff, dispatch := m.dispatch, delivery := m.delivery,
           deadline := some ⟨.cutoff, m.cutoff, false⟩, clamped := m.clamped }

/-- A passing re-admission carried out (R147): the order takes an advance where an item changed. -/
def State.applyReadmission (s : State) (j : Nat) (o : Order) (q : CaterRequest) (m : Admission) : State :=
  if readmittedOrder o q m = o then s
  else ((s.moveLoad o.kitchen o.shares m.kitchen (sharesOf m.load m.lead m.last)).changeOrder j
      (readmittedOrder o q m)).announceAllOver s.overBefore

/-- An order's present fields as a request for its own kitchen. -/
def Order.request (o : Order) : CaterRequest := ⟨.kitchen o.kitchen, o.cls, o.covers, o.offset⟩

/-! ### MOVE -/

/-- The range checks of MOVE beside the handle (R42, R49). -/
def moveOut (a : MoveArgs) : Bool :=
  (a.room.isNone && a.plane.isNone && a.times.isNone) || a.room.any roomOut ||
  a.plane.any (fun d => decide (7 < d)) ||
  a.times.any (fun t => spanOut 0 t.1 t.2 || lengthOut (startSlot t.1) (stopSlot t.2) 144)

/-- The booking at its destination: fields not carried keep their values, the padding is the destination room's as
it stands (R22, R49). State, deadline and link are those before the move. -/
def State.movedTo (s : State) (r : Rec) (a : MoveArgs) : Rec :=
  let room := a.room.getD r.room
  { r with room := room, plane := a.plane.getD r.plane,
           start := a.times.elim r.start (fun t => startSlot t.1),
           stop := a.times.elim r.stop (fun t => stopSlot t.2),
           setup := (s.room room).setup, clear := (s.room room).clear }

/-- The destination, the slots and the padded bounds equal the present ones (R49). -/
def samePlace (r n : Rec) : Bool :=
  r.room = n.room && r.plane = n.plane && r.start = n.start && r.stop = n.stop && r.padStart = n.padStart &&
  r.padEnd = n.padEnd

/-- The deadline after a move (R50). -/
def State.movedDeadline (s : State) (r n : Rec) : Deadline :=
  if r.state = .held then { r.deadline with minute := min r.deadline.minute n.startMinute }
  else s.confirmedDeadline n.room n.plane n.start

/-- What a move does to the booking's order (R51, R165). -/
inductive OrderPlan where
  | noOrder
  | kept
  | readmit (j : Nat) (o : Order) (m : Admission)
  | withdraw (j : Nat) (o : Order)
  | forfeit (j : Nat) (o : Order)
  | unlink (j : Nat) (o : Order)
deriving DecidableEq, Repr

/-- A move that keeps the plane and the start slot, within one building (R165). -/
def State.sameMinutesAndBuilding (s : State) (r n : Rec) : Bool :=
  r.plane = n.plane && r.start = n.start && (s.room r.room).building = (s.room n.room).building

/-- The catering test of a move (R51, R165): the plan, or the code and data it is refused with. DESIGN CHOICE (log entry
44): an ACCEPTED order is re-admitted in a same-place move too, as R51, R147 and the table of R165 have it, against the
paragraph of R165 that leaves an order unchanged there. -/
def State.planMove (s : State) (r n : Rec) (drop : Bool) : Except (Code × Payload) OrderPlan :=
  match r.order with
  | none => .ok .noOrder
  | some h => match Pool.named? s.plan.orders h with
    | none => .ok .noOrder
    | some o => match o.state with
      | .accepted =>
        if drop then .ok (.withdraw h.index o)
        else match s.readmission o n.room n.startMinute o.request with
          | .error e => .error (e.code, e.payload)
          | .ok m => .ok (.readmit h.index o m)
      | .preparing | .dispatched =>
        if drop then .ok (.forfeit h.index o)
        else if s.sameMinutesAndBuilding r n then .ok .kept
        else .error (.caterLocked, .none)
      | .delivered | .forfeit => if drop then .ok (.unlink h.index o) else .ok .kept

/-- A plan that clears the booking's link within the move's own change (R165). -/
def OrderPlan.clearsLink : OrderPlan → Bool
  | .withdraw _ _ | .forfeit _ _ | .unlink _ _ => true
  | _ => false

/-- The order's part of a move (R165). -/
def State.applyPlan (s : State) (p : Port) : OrderPlan → State
  | .noOrder | .kept => s
  | .readmit j o m => s.applyReadmission j o o.request m
  | .withdraw j o => s.withdrawOrder j o false
  | .forfeit j o => s.forfeitOrder j o true .dropCatering (.port p)
  | .unlink j o => s.unlinkOrder j o

/-- The covers of a re-admission that adjusted them (R165). -/
def OrderPlan.clampedCovers : OrderPlan → Option Nat
  | .readmit _ _ m => if m.clamped then some m.covers else none
  | _ => none

/-- The record a move stores (R50, R165). -/
def State.movedRec (s : State) (r n : Rec) (plan : OrderPlan) : Rec :=
  { n with deadline := s.movedDeadline r n, order := if plan.clearsLink then none else r.order }

/-- A move carried out: the booking's change, its notice, the order's part, the displays and the scan (R50, R51). -/
def State.carryMove (s : State) (p : Port) (h : Handle) (r n : Rec) (plan : OrderPlan) : State :=
  let t := (s.changeRec h.index (s.movedRec r n plan)).raiseChanged h r.owner (.port p) .move []
  let u := (t.applyPlan p plan).roomChanged r.room
  (if n.room = r.room then u else u.roomChanged n.room).promotionScan

/-- What a MOVE returns on OK (R40). -/
def movedPayload (rev : Nat) (n : Rec) (d : Deadline) (covers : Option Nat) : Payload :=
  .moved rev n.room n.plane n.startMinute n.endMinute n.padStart n.padEnd d.kind d.minute covers

/-- The placement tests of a MOVE, and what follows them (R49, R50, R51). -/
def tryMove (p : Port) (h : Handle) (a : MoveArgs) (s : State) (r : Rec) : State × Reply :=
  let n := s.movedTo r a
  if !(s.room n.room).isOpen then refuse s .state
  else if (!(n.plane == r.plane) || !(n.start == r.start)) && s.startPassed n.plane n.start then refuse s .tooLate
  else if r.attendees.any (fun k => decide ((s.room n.room).seats < k)) then refuse s .capacity
  else match s.firstConflict n.room n.plane n.padStart n.padEnd (some h.index) with
    | some j => refuse s .conflict (.booking (s.recHandle j))
    | none =>
      if samePlace r n then accept s (movedPayload r.rev r r.deadline none)
      else match s.planMove r n a.dropCatering with
        | .error e => refuse s e.1 e.2
        | .ok plan =>
          accept (s.carryMove p h r n plan)
            (movedPayload s.advanceRev.book.rev n (s.movedDeadline r n) plan.clampedCovers)
            plan.clampedCovers.isSome

/-- A booking that a MOVE accepts: HELD, or CONFIRMED without UNVERIFIED (R49). -/
def Rec.movable (r : Rec) : Bool := r.state = .held || (r.state = .confirmed && !r.flags.unverified)

/-- MOVE (R40, R49 to R51, R165). -/
def runMove (p : Port) (h : Handle) (expected : Nat) (a : MoveArgs) (s : State) : State × Reply :=
  match s.changeCheck p .sched with
  | some c => refuse s c
  | none =>
    if bookIndexOut h || moveOut a then refuse s .range
    else s.withRecord h .booking expected (fun r =>
      if !r.movable then refuse s .state else tryMove p h a s r)

/-- MOVE at a port. -/
def execMove (p : Port) (tag : Byte) (h : Handle) (expected : Nat) (args : MoveArgs) (s : State) :
    Host.Outcome State Fault Refusal :=
  .next (s.atPort p tag (.move h expected args) (runMove p h expected args))

end Sys2Proof.Machine
end

