-- ==== Sys2Proof/Machine/Catering.lean ====
section
/-! DEFINITION. The catering commands: CATER_ORDER, CATER_CHANGE, CATER_CANCEL, CATER_DELIVERED and QUERY_ORDER (R158 to
R161, R167). -/

namespace Sys2Proof.Machine

/-! ### CATER_ORDER -/

/-- The booking change, its notice, and the order that follows (R157, R158). -/
def State.attachOrder (s : State) (p : Port) (h : Handle) (r : Rec) (j : Nat) (q : CaterRequest) (m : Admission) :
    State :=
  let t := (s.changeRec h.index { r with order := some (Pool.handle s.plan.orders j) }).raiseChanged h r.owner
    (.port p) .caterOrder []
  (t.createOrder j p h q m).recompute r.room

/-- CATER_ORDER (R158). -/
def runCaterOrder (p : Port) (h : Handle) (expected : Nat) (q : CaterRequest) (s : State) : State × Reply :=
  match s.changeCheck p .cater with
  | some c => refuse s c
  | none =>
    if bookIndexOut h || s.requestOut q then refuse s .range
    else s.withRecord h .booking expected (fun r =>
      match r.order with
      | some o => refuse s .state (.orderHandle o)
      | none => match s.admission true r.room r.startMinute q with
        | .error e => refuse s e.code e.payload
        | .ok m => match Pool.lowestFree s.plan.orders Config.orderCap with
          | none => refuse s .full (.full .orderPool)
          | some j =>
            accept (s.attachOrder p h r j q m)
              (.ordered (Pool.handle s.plan.orders j) s.advanceRev.advanceRev.book.rev s.advanceRev.book.rev
                m.kitchen m.covers m.cutoff m.dispatch m.delivery) m.clamped)

/-- CATER_ORDER at a port. -/
def execCaterOrder (p : Port) (tag : Byte) (h : Handle) (expected : Nat) (request : CaterRequest) (s : State) :
    Host.Outcome State Fault Refusal :=
  .next (s.atPort p tag (.caterOrder h expected request) (runCaterOrder p h expected request))

/-! ### CATER_CHANGE -/

/-- The range checks of CATER_CHANGE beside the handle (R141, R159). -/
def State.caterChangeOut (s : State) (a : CaterChangeArgs) : Bool :=
  (a.covers.isNone && a.cls.isNone && a.offset.isNone && a.kitchen.isNone) || a.kitchen.any kitchenOut ||
  a.cls.any s.classOut || a.covers.any coversOut || a.offset.any offsetOut

/-- The request a CATER_CHANGE makes: fields not carried keep their present values (R159). -/
def changedRequest (o : Order) (a : CaterChangeArgs) : CaterRequest :=
  { kitchen := a.kitchen.getD (.kitchen o.kitchen), cls := a.cls.getD o.cls, covers := a.covers.getD o.covers,
    offset := a.offset.getD o.offset }

/-- What an accepted CATER_CHANGE returns (R159). -/
def changedPayload (s : State) (o n : Order) : Payload :=
  if n = o then .revision o.rev
  else .changed s.advanceRev.book.rev n.kitchen n.covers n.cutoff n.dispatch n.delivery

/-- The room and start minute of the live booking an order is linked to. -/
def State.orderPlace (s : State) (o : Order) : Option Rec := o.booking.bind (Pool.named? s.book.pool)

/-- CATER_CHANGE (R147, R159). -/
def runCaterChange (p : Port) (h : Handle) (expected : Nat) (a : CaterChangeArgs) (s : State) : State × Reply :=
  match s.changeCheck p .cater with
  | some c => refuse s c
  | none =>
    if orderIndexOut h || s.caterChangeOut a then refuse s .range
    else s.withOrder h expected (fun o =>
      if o.state ≠ .accepted then refuse s .state
      else match s.orderPlace o with
        | none => refuse s .state
        | some r =>
          let q := changedRequest o a
          match s.readmission o r.room r.startMinute q with
          | .error e => refuse s e.code e.payload
          | .ok m =>
            accept ((s.applyReadmission h.index o q m).orderRoomChanged o.booking)
              (changedPayload s o (readmittedOrder o q m)) m.clamped)

/-- CATER_CHANGE at a port. -/
def execCaterChange (p : Port) (tag : Byte) (h : Handle) (expected : Nat) (args : CaterChangeArgs) (s : State) :
    Host.Outcome State Fault Refusal :=
  .next (s.atPort p tag (.caterChange h expected args) (runCaterChange p h expected args))

/-! ### CATER_CANCEL -/

/-- The booking's link cleared in a change of its own, with BOOKING_CHANGED for another's booking (R156, R160). -/
def State.clearCancelledLink (s : State) (p : Port) (booking : Option Handle) : State :=
  match booking.bind (fun h => (Pool.named? s.book.pool h).map (fun b => (h, b))) with
  | none => s
  | some (h, b) =>
    ((s.changeRec h.index { b with order := none }).raiseChanged h b.owner (.port p) .caterCancel []).recompute b.room

/-- The withdrawal a CATER_CANCEL makes, and what it returns (R156, R160). -/
def State.cancelAccepted (s : State) (p : Port) (h : Handle) (o : Order) : State × Reply :=
  accept ((s.withdrawOrder h.index o false).clearCancelledLink p o.booking)
    (.cancelled s.advanceRev.book.rev ((s.orderPlace o).map (fun _ => s.advanceRev.advanceRev.book.rev)))

/-- CATER_CANCEL (R160). -/
def runCaterCancel (p : Port) (h : Handle) (expected : Nat) (s : State) : State × Reply :=
  match s.changeCheck p .cater with
  | some c => refuse s c
  | none =>
    if orderIndexOut h then refuse s .range
    else s.withOrder h expected (fun o => match o.state with
      | .accepted => s.cancelAccepted p h o
      | .preparing | .dispatched =>
        accept ((s.forfeitOrder h.index o false .caterCancel (.port p)).orderRoomChanged o.booking)
          (.cancelled s.advanceRev.book.rev none)
      | .delivered | .forfeit => refuse s .state)

/-- CATER_CANCEL at a port. -/
def execCaterCancel (p : Port) (tag : Byte) (h : Handle) (expected : Nat) (s : State) :
    Host.Outcome State Fault Refusal :=
  .next (s.atPort p tag (.caterCancel h expected) (runCaterCancel p h expected))

/-! ### CATER_DELIVERED -/

/-- CATER_DELIVERED (R161). -/
def runCaterDelivered (p : Port) (h : Handle) (expected : Nat) (s : State) : State × Reply :=
  match s.changeCheck p .cater with
  | some c => refuse s c
  | none =>
    if orderIndexOut h then refuse s .range
    else s.withOrder h expected (fun o => match o.state with
      | .preparing | .dispatched =>
        accept ((s.deliverOrder h.index o).orderRoomChanged o.booking) (.revision s.advanceRev.book.rev)
      | .accepted | .delivered | .forfeit => refuse s .state)

/-- CATER_DELIVERED at a port. -/
def execCaterDelivered (p : Port) (tag : Byte) (h : Handle) (expected : Nat) (s : State) :
    Host.Outcome State Fault Refusal :=
  .next (s.atPort p tag (.caterDelivered h expected) (runCaterDelivered p h expected))

/-! ### QUERY_ORDER -/

/-- An order as QUERY_ORDER returns it, with its service plane (R154, R167). -/
def Order.reading (h : Handle) (o : Order) : OrderReading :=
  { handle := h, placing := o.placing, booking := o.booking, kitchen := o.kitchen, cls := o.cls, covers := o.covers,
    offset := o.offset, load := o.load, lead := o.lead, last := o.last, cutoff := o.cutoff, dispatch := o.dispatch,
    delivery := o.delivery, state := o.state, deadline := o.deadline.map (fun d => (d.kind, d.minute)), rev := o.rev,
    clamped := o.clamped, lateSent := o.lateSent, servicePlane := o.servicePlane }

/-- QUERY_ORDER (R167). -/
def runQueryOrder (p : Port) (sel : OrderSelector) (s : State) : State × Reply :=
  if !s.mayIssueAny p then refuse s .role
  else match sel with
    | .order h =>
      if orderIndexOut h then refuse s .range
      else match Pool.named? s.plan.orders h with
        | none => refuse s .noSuch (.noSuch (s.findTombstone true h))
        | some o => accept s (.order (some (o.reading h)) s.currentWindow)
    | .booking h =>
      if bookIndexOut h then refuse s .range
      else match Pool.named? s.book.pool h with
        | none => refuse s .noSuch (.noSuch (s.findTombstone false h))
        | some r =>
          if r.kind = .block then refuse s .state
          else accept s (.order (r.order.bind (fun o => (Pool.named? s.plan.orders o).map (Order.reading o)))
            s.currentWindow)

/-- QUERY_ORDER at a port. -/
def execQueryOrder (p : Port) (tag : Byte) (sel : OrderSelector) (s : State) : Host.Outcome State Fault Refusal :=
  .next (s.atPort p tag (.queryOrder sel) (runQueryOrder p sel))

end Sys2Proof.Machine
end

