-- ==== Sys2Proof/Machine/Site.lean ====
section
/-! DEFINITION. The commands of the site tables and of the device modes: READ_ROOM, CONFIG_SITE, CONFIG_ROOM, OPEN_ROOM,
CLOSE_ROOM, OPEN and RECONFIGURE (R1 to R10), with the binding that follows CONFIG_ROOM (R107). -/

namespace Sys2Proof.Machine

/-! ### READ_ROOM -/

/-- READ_ROOM (R1). -/
def runReadRoom (room : Nat) (s : State) : State × Reply :=
  if roomOut room then refuse s .range
  else accept s (.room (s.room room) (s.location room) (s.chronicState room).chronic)

/-- READ_ROOM at a port. -/
def execReadRoom (p : Port) (tag : Byte) (room : Nat) (s : State) : Host.Outcome State Fault Refusal :=
  .next (s.atPort p tag (.readRoom room) (runReadRoom room))

/-! ### CONFIG_SITE -/

/-- The lowest-numbered configured room whose building a count would leave out (R2). -/
def State.roomBeyond (s : State) (count : Nat) : Option Nat :=
  (s.site.rooms.find? (fun e => e.2.configured && decide (count ≤ e.2.building))).map Prod.fst

/-- CONFIG_SITE (R2). -/
def runConfigSite (p : Port) (count : Nat) (s : State) : State × Reply :=
  if !s.mayIssue p .facil then refuse s .role
  else if count < 1 ∨ 12 < count then refuse s .range
  else if s.serving then refuse s .state
  else match s.roomBeyond count with
    | some room => refuse s .range (.number room)
    | none => accept { s with site := { s.site with buildings := count } }

/-- CONFIG_SITE at a port. -/
def execConfigSite (p : Port) (tag : Byte) (count : Nat) (s : State) : Host.Outcome State Fault Refusal :=
  .next (s.atPort p tag (.configSite count) (runConfigSite p count))

/-! ### CONFIG_ROOM -/

/-- Check 1 of CONFIG_ROOM (R3). -/
def State.roomFieldsOut (s : State) (a : ConfigRoomArgs) : Bool :=
  roomOut a.room || decide (s.site.buildings ≤ a.building) || decide (a.seats < 1) || decide (400 < a.seats) ||
  decide (6 < a.setup) || decide (6 < a.clear) ||
  a.threshold.any (fun t => decide (t < 1) || decide (15 < t))

/-- Check 2 of CONFIG_ROOM: the other room a given unit id is bound to (R3). -/
def State.boundElsewhere (s : State) (a : ConfigRoomArgs) : Option Nat :=
  match a.unitChoice with
  | .bind u => (s.site.rooms.find? (fun e => !(e.1 == a.room) && e.2.unitId == some u)).map Prod.fst
  | _ => none

/-- The first live booking of a room with more attendees than some seats (R4). -/
def State.overSeated (s : State) (room seats : Nat) : Option Nat :=
  ((s.roomRecs room).find? (fun e => e.2.attendees.any (fun n => decide (seats < n)))).map Prod.fst

/-- The unit id a choice leaves bound (R3). -/
def chosenUnit (old : Option (BitVec 32)) : UnitChoice → Option (BitVec 32)
  | .bind u => some u
  | .remove => none
  | .absent => old

/-- A grace brought into 5..30 (R3). -/
def clampGrace (g : Nat) : Nat := max 5 (min g 30)

/-- The record CONFIG_ROOM stores (R3). -/
def configuredRoom (old : Room) (a : ConfigRoomArgs) : Room :=
  { old with
    configured := true, building := a.building, seats := a.seats, setup := a.setup, clear := a.clear,
    options := a.options
    grace := match a.grace with | some g => clampGrace g | none => if old.configured then old.grace else 10
    threshold := match a.threshold with | some t => t | none => if old.configured then old.threshold else 3
    unitId := chosenUnit old.unitId a.unitChoice }

/-- Marks the display of a position due, where a location names one that holds a unit id (R125). -/
def State.markDisplayDue (s : State) (l : Option Location) : State :=
  match l with
  | none => s
  | some l =>
    let q := s.position l.chain l.pos
    if q.unitId.isSome then s.setPosition l.chain l.pos { q with due := true } else s

/-- Moves a room's location; the positions it leaves and comes to name are marked due (R106, R107, R125). -/
def State.relocate (s : State) (room : Nat) (l : Option Location) : State :=
  if s.location room = l then s
  else ((s.setLocation room l).markDisplayDue (s.location room)).markDisplayDue l

/-- A position record holds a unit id and is not ABSENT (R107). -/
def Position.answersFor (q : Position) (u : BitVec 32) : Bool := q.unitId = some u && !(q.presence == .absent)

/-- Where a unit id is held by a position that is not ABSENT: the lowest chain and in it the lowest position (R107). -/
def State.findUnit (s : State) (u : BitVec 32) : Option Location :=
  (List.range Config.chainCount).findSome? (fun c =>
    ((s.chain c).positions.find? (fun e => e.2.answersFor u)).map (fun e => ⟨c, e.1⟩))

/-- The link controller follows a changed binding (R107): no PANEL_MOVED; a location at a LINKED position is reported
to the book (R113); the room's display is computed again. -/
def State.followBinding (s : State) (room : Nat) (unitId : Option (BitVec 32)) : State :=
  let t := s.relocate room (unitId.bind s.findUnit)
  (if (t.linkedPosition? room).isSome then t.sensorTest room else t).recompute room

/-- CONFIG_ROOM (R3, R4, R107). -/
def runConfigRoom (p : Port) (a : ConfigRoomArgs) (s : State) : State × Reply :=
  if !s.mayIssue p .facil then refuse s .role
  else if s.roomFieldsOut a then refuse s .range
  else match s.boundElsewhere a with
    | some other => refuse s .conflict (.number other)
    | none =>
      let old := s.room a.room
      if s.serving && old.configured && !(old.building == a.building) then refuse s .state
      else match (if s.serving then s.overSeated a.room a.seats else none) with
        | some i => refuse s .capacity (.booking (s.recHandle i))
        | none =>
          let new := configuredRoom old a
          let t := s.setRoom a.room new
          let u := if new.unitId = old.unitId then t else t.followBinding a.room new.unitId
          let clamped := a.grace.any (fun g => !(clampGrace g == g))
          accept u (if clamped then .number new.grace else .none) clamped

/-- CONFIG_ROOM at a port. -/
def execConfigRoom (p : Port) (tag : Byte) (args : ConfigRoomArgs) (s : State) :
    Host.Outcome State Fault Refusal :=
  .next (s.atPort p tag (.configRoom args) (runConfigRoom p args))

/-! ### OPEN_ROOM and CLOSE_ROOM -/

/-- Opens or closes a room and computes its display again (R5, R6, R123). -/
def State.setRoomOpen (s : State) (room : Nat) (isOpen : Bool) : State :=
  (s.setRoom room { s.room room with isOpen := isOpen }).recompute room

/-- OPEN_ROOM (R5). -/
def runOpenRoom (p : Port) (room : Nat) (s : State) : State × Reply :=
  if !s.mayIssue p .facil then refuse s .role
  else if roomOut room then refuse s .range
  else if !(s.room room).configured then refuse s .state
  else accept (s.setRoomOpen room true)

/-- OPEN_ROOM at a port. -/
def execOpenRoom (p : Port) (tag : Byte) (room : Nat) (s : State) : Host.Outcome State Fault Refusal :=
  .next (s.atPort p tag (.openRoom room) (runOpenRoom p room))

/-- CLOSE_ROOM without FORCE (R6). -/
def runCloseRoom (p : Port) (room : Nat) (s : State) : State × Reply :=
  if !s.mayIssue p .facil then refuse s .role
  else if roomOut room then refuse s .range
  else match s.roomRecs room with
    | e :: _ => refuse s .state (.booking (s.recHandle e.1))
    | [] => accept (s.setRoomOpen room false)

/-- CLOSE_ROOM without FORCE at a port. -/
def execCloseRoom (p : Port) (tag : Byte) (room : Nat) (s : State) : Host.Outcome State Fault Refusal :=
  .next (s.atPort p tag (.closeRoom room) (runCloseRoom p room))

/-- One record finished by a forced close (R7): a booking CANCELLED, a block REMOVED. -/
def State.forceFinish (p : Port) (s : State) (i : Nat) : State :=
  match s.rec? i with
  | none => s
  | some r => s.finishFully i r (if r.kind = .block then .removed else .cancelled) (.port p)
      (notifyChanged (.port p) .closeRoomForce) false

/-- The room closed and each of its records finished, its display computed once, and the one scan (R7, R31, R70). -/
def State.forceClose (s : State) (p : Port) (room : Nat) (indices : List Nat) : State :=
  ((indices.foldl (State.forceFinish p) (s.setRoom room { s.room room with isOpen := false })).roomChanged
    room).promotionScan

/-- CLOSE_ROOM with FORCE (R7, R33). -/
def runCloseRoomForce (p : Port) (room : Nat) (s : State) : State × Reply :=
  if !s.mayIssue p .facil then refuse s .role
  else if roomOut room then refuse s .range
  else
    let indices := (s.roomRecs room).map Prod.fst
    if indices.isEmpty then accept (s.setRoomOpen room false)
    else if s.exhausted then refuse s .revExhausted
    else accept (s.forceClose p room indices) (.number indices.length)

/-- CLOSE_ROOM with FORCE at a port. -/
def execCloseRoomForce (p : Port) (tag : Byte) (room : Nat) (s : State) : Host.Outcome State Fault Refusal :=
  .next (s.atPort p tag (.closeRoomForce room) (runCloseRoomForce p room))

/-! ### OPEN and RECONFIGURE -/

/-- Sets the device mode and computes every room's display again (R9, R10, R123). -/
def State.setMode (s : State) (m : Mode) : State :=
  State.recomputeAll { s with site := { s.site with mode := m } }

/-- OPEN (R9). -/
def runOpenDevice (p : Port) (s : State) : State × Reply :=
  if !s.mayIssue p .facil then refuse s .role
  else if s.serving then refuse s .state
  else if !s.clock.set then refuse s .noTime
  else if !s.site.rooms.any (fun e => e.2.isOpen) then refuse s .state
  else accept (s.setMode .serving)

/-- OPEN at a port. -/
def execOpenDevice (p : Port) (tag : Byte) (s : State) : Host.Outcome State Fault Refusal :=
  .next (s.atPort p tag .openDevice (runOpenDevice p))

/-- A port's queue emptied: a read in progress of a notice then removes nothing (R10, R186, R187). -/
def AgentPort.emptyQueue (a : AgentPort) : AgentPort :=
  { a with queue := [], reading := a.reading.map (fun r => { r with superseded := true }) }

/-- The book as RECONFIGURE leaves it (R39, R58, R96). -/
def Book.reconfigured (b : Book) : Book :=
  { pool := Pool.renewAll b.pool Config.bookCap, rev := b.rev, ring := [], wrapped := false,
    clearMark := some b.rev, listings := ⟨none, none, none⟩, vacancy := [] }

/-- Everything RECONFIGURE frees and empties (R10, R39, R74, R153). -/
def State.clearBooking (s : State) : State :=
  { s with
    book := s.book.reconfigured
    wait := { pool := Pool.renewAll s.wait.pool Config.waitCap, order := [], fates := [] }
    plan := { s.plan with orders := Pool.renewAll s.plan.orders Config.orderCap, load := [] }
    ports := ⟨s.ports.a.emptyQueue, s.ports.b.emptyQueue, s.ports.c.emptyQueue⟩ }

/-- RECONFIGURE (R10). -/
def runReconfigure (p : Port) (s : State) : State × Reply :=
  if !s.mayIssue p .facil then refuse s .role
  else if !s.serving then refuse s .state
  else accept (s.clearBooking.setMode .configuring)

/-- RECONFIGURE at a port. -/
def execReconfigure (p : Port) (tag : Byte) (s : State) : Host.Outcome State Fault Refusal :=
  .next (s.atPort p tag .reconfigure (runReconfigure p))

end Sys2Proof.Machine
end

