-- ==== Sys2Proof/Machine/Chains.lean ====
section
/-! DEFINITION. The panel chains (chapter 6) and the taking of a reply's inputs (7.3): the judging of upstream frames,
enumeration, the roll call, presence, the sending of DISPLAY frames, the error window, and the chain commands. -/

namespace Sys2Proof.Machine

/-! ### Positions and their notices -/

/-- Raises PANEL_STATE for a position, with its unit id and the room given as bound to it (R112). -/
def State.raisePanelState (c : Nat) (room : Option Nat) (s : State) (p : Nat) : State :=
  s.raise { kind := .panelState, subject := .panel c p, cond := some (.presence (s.position c p).presence),
            data := [.unitId (s.position c p).unitId, .room room] }

/-- The display of each of some rooms is computed again (R123). -/
def State.recomputeRooms (s : State) (rooms : List Nat) : State := rooms.foldl State.recompute s

/-- The positions 1 to `n` of a chain, ascending. -/
def positionsTo (n : Nat) : List Nat := (List.range n).map (fun i => i + 1)

/-! ### The chain's timer and activities -/

/-- Every answered-this-round flag set to no (R102, R108). -/
def clearAnswered (t : Table Position) : Table Position :=
  Table.revise Position.cold (fun q => { q with answered := false }) t

/-- Time that has passed on the chain's timer. -/
def Chain.passTime (ch : Chain) (elapsed : Nat) : Chain := { ch with time := ch.time + elapsed }

/-- The chain's timer has reached a time. -/
def Chain.reach (ch : Chain) (t : Nat) : Chain := { ch with time := max ch.time t }

/-- The round period in milliseconds (R108). -/
def Chain.period (ch : Chain) : Nat := if ch.degraded then 4000 else 2000

/-- The start of an enumeration (R102). -/
def Chain.beginEnumeration (ch : Chain) : Chain :=
  { ch with activity := .enumerating, enumPending := false, highest := 0, positions := clearAnswered ch.positions,
            noted := [], sent := [.enumerate 1], quietAt := some (ch.time + Config.quietMs),
            roundTimeoutAt := none }

/-- The start of a round (R108 steps 1 to 5). -/
def Chain.beginRound (ch : Chain) : Chain :=
  { ch with activity := .rollcall, lastAnswered := 0, positions := clearAnswered ch.positions,
            sent := [.rollcall ch.round], roundTimeoutAt := some (ch.time + 8 + ch.count),
            nextRoundStart := some (ch.time + ch.period), roundNow := ch.round, round := ch.round + 1 }

/-- A round may start now: no enumeration is pending, panels are enumerated and the start is reached (R101, R108). -/
def Chain.roundReached (ch : Chain) : Bool :=
  !ch.enumPending && decide (0 < ch.count) && ch.nextRoundStart.any (fun t => decide (t ≤ ch.time))

/-- The chain enters WAIT; a round whose start was reached while it sent DISPLAY frames begins (R101, R108, R114). -/
def Chain.enterWait (ch : Chain) : Chain :=
  if ch.roundReached then ch.beginRound else { ch with activity := .wait }

/-- The chain leaves ENUMERATING: its first round starts at once, or it waits with its next round start set
(R104, R108). -/
def Chain.leaveEnumeration (ch : Chain) : Chain :=
  if 0 < ch.count then ch.beginRound
  else { ch with activity := .wait, nextRoundStart := some (ch.time + ch.period) }

/-! ### The end of an enumeration -/

/-- A position's record after the rebuild, given the unit id noted for it (R105, R132). -/
def rebuiltPosition (q : Position) (noted : Option (BitVec 32)) : Position :=
  match noted with
  | none => Position.cold
  | some u =>
    if q.answersFor u then
      { q with good := 0, miss := 0, answered := false, pendingSensor := none, lastSeq := none, due := false }
    else { Position.cold with
             unitId := some u, presence := .seeking
             faults := if q.unitId = some u then q.faults else PanelFaults.clear }

/-- The unit id an enumeration has noted against an address (R103). -/
def Chain.notedAt (ch : Chain) (a : Nat) : Option (BitVec 32) := Table.read none ch.noted a

/-- The chain's records after the rebuild (R104, R105). -/
def Chain.rebuild (ch : Chain) : Chain :=
  { ch with
    count := ch.highest
    gap := (positionsTo ch.highest).any (fun p => (ch.notedAt p).isNone)
    positions := Table.build Position.cold (Config.positionCount + 1)
      (fun p => rebuiltPosition (ch.position p) (ch.notedAt p))
    noted := []
    quietAt := none }

/-- The positions LINKED in one chain record and not in another, ascending (R105, R112). -/
def leftLinked (old new : Chain) : List Nat :=
  (positionsTo Config.positionCount).filter
    (fun p => (old.position p).presence = .linked && !((new.position p).presence == .linked))

/-- The lowest position of a chain that holds a unit id (R106). -/
def Chain.findUnit (ch : Chain) (u : BitVec 32) : Option Nat :=
  (ch.positions.find? (fun e => e.2.unitId = some u)).map Prod.fst

/-- Changes a room's location with its PANEL_MOVED notice, if it is another one (R106). -/
def State.moveLocation (s : State) (room : Nat) (l : Option Location) : State :=
  if s.location room = l then s
  else (s.relocate room l).raise
    { kind := .panelMoved, subject := .room room, data := [.location (s.location room), .location l] }

/-- The rooms whose unit id the chain has found, in ascending position, each with its position (R106). -/
def State.foundRooms (s : State) (c : Nat) : List (Nat × Nat) :=
  (s.chain c).positions.filterMap (fun e =>
    match e.2.unitId with
    | none => none
    | some u => if (s.chain c).findUnit u = some e.1 then (s.roomOfUnit u).map (fun room => (room, e.1)) else none)

/-- The rooms located on the chain whose unit id it has not found, ascending (R106). -/
def State.lostRooms (s : State) (c : Nat) : List Nat :=
  (s.link.locations.filter (fun e =>
    e.2.any (fun l => l.chain = c) &&
    (match (s.room e.1).unitId with
     | none => true
     | some u => ((s.chain c).findUnit u).isNone))).map Prod.fst

/-- The room locations updated after a rebuild (R106). DESIGN CHOICE (log entry 45): a location that moves to a position
which R105 kept LINKED finds it LINKED, where R106 says that a move makes the panel SEEKING; no report that the position
has reached LINKED is made (R113). -/
def State.updateLocations (s : State) (c : Nat) : State :=
  (s.lostRooms c).foldl (fun t room => t.moveLocation room none)
    ((s.foundRooms c).foldl (fun t e => t.moveLocation e.1 (some ⟨c, e.2⟩)) s)

/-- The unbound positions of a chain that hold a unit id are marked due (R132). DESIGN CHOICE (log entry 40): so the
UNASSIGNED display goes out in the DISPLAY_SEND of the first round, also to a panel that missed that round, and a later
first reply that shows revision 0 marks nothing; R133 speaks of the first DISPLAY_SEND after a reply from each panel. -/
def State.markUnbound (s : State) (c : Nat) : State :=
  ((positionsTo Config.positionCount).filter (fun p => (s.boundRoom c p).isNone)).foldl
    (fun t p => t.markDisplayDue (some ⟨c, p⟩)) s

/-- The rooms whose displays follow the end of an enumeration: their location changed, or their position left LINKED
(R106, R113, R123). -/
def State.roomsAfter (s before : State) (c : Nat) : List Nat :=
  roomNumbers.filter (fun room => !(s.location room == before.location room) ||
    (leftLinked (before.chain c) (s.chain c)).any (fun p => before.location room = some ⟨c, p⟩))

/-- The end of an enumeration: the rebuild with its PANEL_STATE notices, the room locations, the due marks and the
displays, and the activity that follows (R104 to R106, R112, R113, R132). -/
def State.endEnumeration (s : State) (c : Nat) : State :=
  let t := s.setChain c (s.chain c).rebuild
  let u := (leftLinked (s.chain c) (t.chain c)).foldl (fun v p => v.raisePanelState c (s.boundRoom c p) p) t
  let v := (u.updateLocations c).markUnbound c
  let w := v.recomputeRooms (v.roomsAfter s c)
  w.setChain c (w.chain c).leaveEnumeration

/-! ### Judging an upstream frame -/

/-- The header is malformed or the frame is cut short (R98). -/
def UpFrame.malformed (f : UpFrame) : Bool :=
  f.cut || !(f.payload.length == f.length.toNat) || f.kind.isNone || decide (40 < f.address.toNat) ||
  decide (48 < f.length.toNat) ||
  (f.kind == some .enumReply && !(f.length == 4)) || (f.kind == some .rollReply && !(f.length == 6))

/-- What the judging of a frame comes to (R99). -/
inductive Judgement where
  | discard
  | enumReply
  | rollReply
deriving DecidableEq, Repr

/-- A byte of a frame's payload. -/
def UpFrame.byte (f : UpFrame) (i : Nat) : Byte := (f.payload[i]?).getD 0

/-- An ENUM_REPLY is due (R103). -/
def Chain.enumDue (ch : Chain) (f : UpFrame) : Bool :=
  ch.activity = .enumerating && decide (ch.highest < f.address.toNat)

/-- A ROLL_REPLY is due (R109). -/
def Chain.rollDue (ch : Chain) (f : UpFrame) : Bool :=
  ch.activity = .rollcall && decide (ch.lastAnswered < f.address.toNat) && decide (f.address.toNat ≤ ch.count)

/-- The checks of an upstream frame, in order (R99). -/
def Chain.judge (ch : Chain) (f : UpFrame) : Judgement :=
  if UpFrame.malformed f then .discard
  else if !UpFrame.checkMatches f then .discard
  else if f.rerr then .discard
  else match f.kind with
    | some .enumReply => if ch.enumDue f then .enumReply else .discard
    | some .rollReply => if !ch.rollDue f then .discard else if UpFrame.byte f 0 = ch.roundNow then .rollReply else .discard
    | _ => .discard

/-- A discard counted, in the link counter and in the error window (R99, R100, R115). -/
def Chain.countDiscard (ch : Chain) : Chain :=
  { ch with discards := satAdd 255 ch.discards 1, windowDiscards := satAdd 255 ch.windowDiscards 1 }

/-- A good frame counted (R99, R100). -/
def Chain.countValid (ch : Chain) : Chain := { ch with valid := satAdd 65535 ch.valid 1 }

/-! ### Taking an ENUM_REPLY -/

/-- A good, due ENUM_REPLY noted (R103). -/
def Chain.noteReply (ch : Chain) (f : UpFrame) : Chain :=
  { ch with noted := Table.write none ch.noted f.address.toNat (some (word32 f.payload)),
            highest := f.address.toNat, quietAt := some (ch.time + Config.quietMs) }

/-- A good, due ENUM_REPLY (R103, R104). -/
def State.takeEnumReply (s : State) (c : Nat) (f : UpFrame) : State :=
  let t := s.setChain c ((s.chain c).countValid.noteReply f)
  if f.address.toNat = Config.positionCount then t.endEnumeration c else t

/-! ### Taking a ROLL_REPLY -/

/-- The presence a good reply leaves (R110 step 2). -/
def presenceAfterGood (q : Position) : Presence :=
  if (q.presence = .seeking ∨ q.presence = .lost) ∧ 2 ≤ q.good + 1 then .linked else q.presence

/-- A position's record after a good reply's presence update (R109, R110). -/
def answeredPosition (q : Position) (faults : PanelFaults) : Position :=
  { q with miss := 0, good := min (q.good + 1) 2, answered := true, faults := faults,
           presence := presenceAfterGood q }

/-- The presence update of a good reply, with PANEL_STATE and the report to the book where the position reaches
LINKED (R110, R112, R113). DESIGN CHOICE (log entry 47): PANEL_STATE comes before the BOOKING_CHANGED of the sensor
check-in that the report brings about; no rule gives an order between the two. -/
def State.updatePresence (s : State) (c p : Nat) (faults : PanelFaults) : State :=
  let q := s.position c p
  let t := s.setPosition c p (answeredPosition q faults)
  if q.presence = presenceAfterGood q then t
  else
    let u := t.raisePanelState c (t.boundRoom c p) p
    match u.boundRoom c p with
    | none => u
    | some room => (u.sensorTest room).recompute room

/-- The value a raw sensor value stands for. -/
def SensorRaw.value : SensorRaw → Option Occupancy
  | .occupied => some .occupied
  | .vacant => some .vacant
  | .none => Option.none

/-- The raw sensor value as it is handed on: NONE under a sensor fault (R110). -/
def UpFrame.handedSensor (f : UpFrame) : SensorRaw := if f.faults.sensor then .none else f.sensor

/-- A raw sensor value taken (R130). -/
def debounce (q : Position) (raw : SensorRaw) : Position :=
  match SensorRaw.value raw with
  | none => { q with pendingSensor := none }
  | some v =>
    if q.debounced = some v then { q with pendingSensor := none }
    else if q.pendingSensor = some v then { q with debounced := some v, pendingSensor := none }
    else { q with pendingSensor := some v }

/-- The book takes a change of a room's debounced value to OCCUPIED (R80, R93, R131). -/
def State.reportOccupied (s : State) (room : Nat) : State :=
  if s.serving then (s.setVacancy room { s.vacancy room with minutes := 0 }).sensorTest room else s

/-- The sensor value of a reply (R127 step 1, R130, R131). -/
def State.takeSensor (s : State) (c p : Nat) (raw : SensorRaw) : State :=
  let q := s.position c p
  let t := s.setPosition c p (debounce q raw)
  if (debounce q raw).debounced = some .occupied ∧ q.debounced ≠ some .occupied then
    match t.boundRoom c p with
    | none => t
    | some room => t.reportOccupied room
  else t

/-- A key code and sequence are a new press (R128). -/
def newPress (q : Position) (key : KeyCode) (seq : BitVec 4) : Bool :=
  !(key == .none) && q.lastSeq.any (fun k => !(k == seq))

/-- The key of a reply: judged, kept as seen, and a new press routed (R95, R127 step 2, R128, R129). -/
def State.takeKey (s : State) (c p : Nat) (key : KeyCode) (seq : BitVec 4) : State :=
  let q := s.position c p
  if key = .none then s
  else
    let t := s.setPosition c p { q with lastSeq := some seq }
    match t.boundRoom c p with
    | none => t
    | some room =>
      if newPress q key seq && t.serving && q.presence = .linked then t.press room key else t

/-- The target display revision of a position (R125). -/
def State.targetRevision (s : State) (c p : Nat) : BitVec 8 :=
  match s.boundRoom c p with
  | none => 0
  | some room => (s.room room).displayRev

/-- The shown display revision of a reply (R125, R127 step 3). -/
def State.takeShown (s : State) (c p : Nat) (shown : BitVec 8) : State :=
  let q := s.position c p
  s.setPosition c p { q with shown := shown, due := q.due || !(shown == s.targetRevision c p) }

/-- A reply from a position that holds a unit id, taken in full (R110, R127). The payload's bytes are round echo,
sensor, key, key sequence, shown revision and fault bits. -/
def State.takeReply (s : State) (c : Nat) (f : UpFrame) : State :=
  let p := f.address.toNat
  let t := (s.updatePresence c p f.faults).takeSensor c p (UpFrame.handedSensor f)
  (t.takeKey c p f.key ((UpFrame.byte f 3).setWidth 4)).takeShown c p (UpFrame.byte f 4)

/-- A position's record after a round it missed (R111). -/
def missedPosition (q : Position) : Position :=
  { q with good := 0, miss := min (q.miss + 1) 3,
           presence := if q.presence = .linked ∧ 3 ≤ q.miss + 1 then .lost else q.presence }

/-- The miss of one position at the end of a round, with PANEL_STATE and the report where it leaves LINKED (R111,
R112, R113). -/
def State.takeMiss (c : Nat) (s : State) (p : Nat) : State :=
  let q := s.position c p
  if q.unitId.isNone || q.answered then s
  else
    let t := s.setPosition c p (missedPosition q)
    if (missedPosition q).presence = q.presence then t
    else (t.raisePanelState c (t.boundRoom c p) p).recomputeRooms (t.boundRoom c p).toList

/-- The lowest position of a chain whose display is due, which is the next a DISPLAY frame is sent to (R114, log
entry 39). -/
def Chain.firstDue (ch : Chain) : Option Nat := (ch.positions.find? (fun e => e.2.due)).map Prod.fst

/-- A chain that ends its round enters DISPLAY_SEND, and at once WAIT if no display is due (R109, R114). -/
def Chain.enterDisplaySend (ch : Chain) : Chain :=
  let t := { ch with activity := .displaySend, roundTimeoutAt := none }
  if t.firstDue.isNone then t.enterWait else t

/-- The end of a round (R109, R111, R114). -/
def State.endRound (s : State) (c : Nat) : State :=
  let t := (positionsTo (s.chain c).count).foldl (State.takeMiss c) s
  t.setChain c (t.chain c).enterDisplaySend

/-- A good, due ROLL_REPLY (R109, R110). A gap position's only advances the turn (DEDUCED from R110, log entry 12). -/
def State.takeRollReply (s : State) (c : Nat) (f : UpFrame) : State :=
  let t := s.setChain c { (s.chain c).countValid with lastAnswered := f.address.toNat }
  let u := if (t.position c f.address.toNat).unitId.isSome then t.takeReply c f else t
  if f.address.toNat = (s.chain c).count then u.endRound c else u

/-! ### The chain's events -/

/-- An upstream frame judged and taken (R99). -/
def State.takeUpFrame (s : State) (c : Nat) (f : UpFrame) : State :=
  match (s.chain c).judge f with
  | .discard => s.setChain c (s.chain c).countDiscard
  | .enumReply => s.takeEnumReply c f
  | .rollReply => s.takeRollReply c f

/-- An event of a chain port: the part has four, 0 to 3, and there is no event on another. -/
def State.onChain (s : State) (c : Nat) (event : State → State) : State :=
  if c < Config.chainCount then event s else s

/-- UPSTREAM_FRAME: `elapsed` milliseconds after the chain's last event a frame has arrived. -/
def execUpstreamFrame (chain elapsed : Nat) (frame : UpFrame) (s : State) : Host.Outcome State Fault Refusal :=
  .next (s.onChain chain (fun t =>
    (t.setChain chain ((t.chain chain).passTime elapsed)).takeUpFrame chain frame))

/-- The quiet timer runs out (R104). -/
def State.quietTimer (c : Nat) (s : State) : State :=
  match (s.chain c).activity, (s.chain c).quietAt with
  | .enumerating, some t => (s.setChain c ((s.chain c).reach t)).endEnumeration c
  | _, _ => s

/-- QUIET_TIMER. -/
def execQuietTimer (chain : Nat) (s : State) : Host.Outcome State Fault Refusal :=
  .next (s.onChain chain (State.quietTimer chain))

/-- A pending enumeration begins in WAIT (R101, R102). -/
def State.enumerationStart (c : Nat) (s : State) : State :=
  if (s.chain c).activity = .wait ∧ (s.chain c).enumPending = true then
    s.setChain c (s.chain c).beginEnumeration
  else s

/-- ENUMERATION_START. -/
def execEnumerationStart (chain : Nat) (s : State) : Host.Outcome State Fault Refusal :=
  .next (s.onChain chain (State.enumerationStart chain))

/-- The next round start is reached in WAIT: a round starts, or a chain with no panels moves its start on (R108). -/
def State.roundStart (c : Nat) (s : State) : State :=
  let ch := s.chain c
  match ch.nextRoundStart with
  | none => s
  | some t =>
    if ch.activity ≠ .wait ∨ ch.enumPending = true then s
    else if ch.count = 0 then
      s.setChain c { ch.reach t with nextRoundStart := some (t + ch.period) }
    else s.setChain c (ch.reach t).beginRound

/-- ROUND_START. -/
def execRoundStart (chain : Nat) (s : State) : Host.Outcome State Fault Refusal :=
  .next (s.onChain chain (State.roundStart chain))

/-- The round timeout runs out (R109). -/
def State.roundTimeout (c : Nat) (s : State) : State :=
  match (s.chain c).activity, (s.chain c).roundTimeoutAt with
  | .rollcall, some t => (s.setChain c ((s.chain c).reach t)).endRound c
  | _, _ => s

/-- ROUND_TIMEOUT. -/
def execRoundTimeout (chain : Nat) (s : State) : Host.Outcome State Fault Refusal :=
  .next (s.onChain chain (State.roundTimeout chain))

/-- The content of an unbound position's display (R126). -/
def Content.unassigned : Content := ⟨.unassigned, none, none, .none⟩

/-- The DISPLAY frame of a position, as named fields (R126, log entry 11). -/
def State.displayFrame (s : State) (c p : Nat) : DownFrame :=
  match s.boundRoom c p with
  | none => .display p 0 Content.unassigned
  | some room => .display p (s.room room).displayRev (s.display room).content

/-- The DISPLAY frame of the lowest due position is sent and its mark cleared; after the last, the chain enters WAIT,
where a round whose start was reached begins with its ROLLCALL sent after that DISPLAY (R101, R114, R126).
DESIGN CHOICE (log entry 39): a display marked due while the chain is still in DISPLAY_SEND is sent in the same
DISPLAY_SEND, lowest due position first, also where it lies at or below a position already sent. -/
def State.sendDisplay (c : Nat) (s : State) : State :=
  let ch := s.chain c
  match ch.activity, ch.firstDue with
  | .displaySend, some p =>
    let t := { ch.setPosition p { ch.position p with due := false } with sent := [] }
    let u := if t.firstDue.isNone then t.enterWait else t
    s.setChain c { u with sent := s.displayFrame c p :: u.sent }
  | _, _ => s

/-- DISPLAY_FRAME_SENT, `elapsed` milliseconds after the chain's last event. -/
def execDisplayFrameSent (chain elapsed : Nat) (s : State) : Host.Outcome State Fault Refusal :=
  .next (s.onChain chain (fun t =>
    State.sendDisplay chain (t.setChain chain ((t.chain chain).passTime elapsed))))

/-! ### The error window -/

/-- The chain after the judging of an error window (R115). -/
def Chain.judgeWindow (ch : Chain) : Chain :=
  if 48 ≤ ch.windowDiscards ∨ (12 ≤ ch.windowDiscards ∧ ch.degraded = true) then
    { ch with degraded := true, streak := min (ch.streak + 1) 5,
              fault := if 5 ≤ ch.streak + 1 then true else ch.fault }
  else { ch with degraded := false, streak := 0, fault := false }

/-- A window end makes an enumeration pending (R116). -/
def Chain.windowAsks (ch : Chain) : Bool :=
  !(ch.activity == .enumerating) &&
  (ch.positions.any (fun e => e.2.presence = .lost) || ch.gap || ch.count == 0)

/-- The chain after an error window's end (R115, R116). -/
def Chain.endWindow (ch : Chain) : Chain :=
  let t := (ch.reach (ch.windowStart + Config.windowMs)).judgeWindow
  { t with windowDiscards := 0, windowStart := ch.windowStart + Config.windowMs,
           enumPending := t.enumPending || t.windowAsks }

/-- Raises the notice of a chain flag that changed (R115). -/
def State.raiseChainFlag (s : State) (kind : NoticeKind) (c : Nat) (was now : Bool) (count : Nat) : State :=
  if was = now then s
  else s.raise { kind := kind, subject := .chain c, cond := some (.flag now), data := [.count count] }

/-- An error window ends (R115, R116). -/
def State.errorWindowEnd (c : Nat) (s : State) : State :=
  let ch := s.chain c
  let t := ch.endWindow
  ((s.setChain c t).raiseChainFlag .chainDegraded c ch.degraded t.degraded ch.windowDiscards).raiseChainFlag
    .chainFault c ch.fault t.fault ch.windowDiscards

/-- ERROR_WINDOW_END. -/
def execErrorWindowEnd (chain : Nat) (s : State) : Host.Outcome State Fault Refusal :=
  .next (s.onChain chain (State.errorWindowEnd chain))

/-! ### READ_LINK_COUNTERS -/

/-- READ_LINK_COUNTERS (R100). -/
def runReadLinkCounters (p : Port) (chain : Nat) (s : State) : State × Reply :=
  if !s.mayIssue p .facil then refuse s .role
  else if 3 < chain then refuse s .range
  else
    let ch := s.chain chain
    accept (s.setChain chain { ch with valid := 0, discards := 0 })
      (.linkCounters ch.valid ch.discards ch.activity ch.count ch.gap ch.degraded ch.fault ch.streak
        ch.windowDiscards)

/-- READ_LINK_COUNTERS at a port. -/
def execReadLinkCounters (p : Port) (tag : Byte) (chain : Nat) (s : State) : Host.Outcome State Fault Refusal :=
  .next (s.atPort p tag (.readLinkCounters chain) (runReadLinkCounters p chain))

/-! ### CHAIN_RESET -/

/-- A position's record after CHAIN_RESET: what it has shown and its unit id are kept (R118 step 2). -/
def resetPosition (q : Position) : Position := { Position.cold with unitId := q.unitId, shown := q.shown }

/-- The chain after CHAIN_RESET (R117, R118 steps 1 to 5). -/
def Chain.afterReset (ch : Chain) : Chain :=
  Chain.beginEnumeration
    { ch with
      positions := Table.revise Position.cold resetPosition ch.positions
      valid := 0, discards := 0, windowDiscards := 0, streak := 0, windowStart := ch.time
      degraded := false, fault := false, enumPending := false, gap := false }

/-- CHAIN_RESET's effect (R112, R113, R115, R118). DESIGN CHOICE (log entry 47): PANEL_STATE of the positions that were
LINKED, ascending, comes before CHAIN_DEGRADED, and that before CHAIN_FAULT; R118 gives its notices no order. -/
def State.resetChain (s : State) (c : Nat) : State :=
  let ch := s.chain c
  let t := s.setChain c ch.afterReset
  let left := leftLinked ch (t.chain c)
  let u := left.foldl (fun v p => v.raisePanelState c (s.boundRoom c p) p) t
  let count := Config.clearingCount ch.windowDiscards
  let v := (u.raiseChainFlag .chainDegraded c ch.degraded false count).raiseChainFlag .chainFault c ch.fault false count
  v.recomputeRooms (left.filterMap (s.boundRoom c))

/-- CHAIN_RESET (R118), `elapsed` milliseconds after the chain's last event. -/
def runChainReset (p : Port) (chain elapsed : Nat) (s : State) : State × Reply :=
  if !s.mayIssue p .facil then refuse s .role
  else if 3 < chain then refuse s .range
  else accept ((s.setChain chain ((s.chain chain).passTime elapsed)).resetChain chain)

/-- CHAIN_RESET at a port. -/
def execChainReset (p : Port) (tag : Byte) (chain elapsed : Nat) (s : State) : Host.Outcome State Fault Refusal :=
  .next (s.atPort p tag (.chainReset chain) (runChainReset p chain elapsed))

/-! ### READ_PANELS -/

/-- A position as READ_PANELS returns it (R120). -/
def State.panelReading (s : State) (c p : Nat) : PanelReading :=
  let q := s.position c p
  { pos := p, unitId := q.unitId, presence := q.presence, good := q.good, miss := q.miss, faults := q.faults,
    debounced := q.debounced, shown := q.shown, room := s.boundRoom c p }

/-- READ_PANELS (R120). -/
def runReadPanels (p : Port) (chain start : Nat) (s : State) : State × Reply :=
  if !s.mayIssue p .facil then refuse s .role
  else if 3 < chain ∨ start < 1 ∨ 40 < start then refuse s .range
  else accept s (.panels ((((positionsTo Config.positionCount).drop (start - 1)).take 8).map (s.panelReading chain))
    (s.chain chain).count (s.chain chain).activity (s.chain chain).gap)

/-- READ_PANELS at a port. -/
def execReadPanels (p : Port) (tag : Byte) (chain start : Nat) (s : State) : Host.Outcome State Fault Refusal :=
  .next (s.atPort p tag (.readPanels chain start) (runReadPanels p chain start))

end Sys2Proof.Machine
end

