-- ==== Sys2Proof/Machine/ClockCommands.lean ====
section
/-! DEFINITION. The RESET line, the campus second, the minute advance, the day rollover, MINUTE_SYNC and the commands of
the Campus Clock (R12 to R18, R197). -/

namespace Sys2Proof.Machine

/-- RESET held low: every port is inactive (R197). -/
def execResetAsserted (s : State) : Host.Outcome State Fault Refusal := .next { s with resetLow := true }

/-- The release of RESET, or power-on: every block takes its cold-reset values and the ports latch their masks
(R189, R197). What waits for the part and the count of free choices are the model's and stay. -/
def execColdReset (strapsA strapsB strapsC : RoleMask) (s : State) : Host.Outcome State Fault Refusal :=
  .next { State.cold strapsA strapsB strapsC with pending := s.pending, choices := s.choices }

/-- One campus second (R12, R13). -/
def State.countSecond (s : State) : State :=
  if !s.clock.set then s
  else if s.clock.seconds < 59 then { s with clock := { s.clock with seconds := s.clock.seconds + 1 } }
  else State.advanceMinute { s with clock := { s.clock with seconds := 0 } }

/-- The crystal counts one second. -/
def execSecondTick (s : State) : Host.Outcome State Fault Refusal := .next s.countSecond

/-- A minute advance, whatever its cause (R13). -/
def execMinuteAdvance (s : State) : Host.Outcome State Fault Refusal := .next s.advanceMinute

/-- The day rollover, once midnight has been reached: the deadlines at or before it are taken first (R14). -/
def execDayRollover (s : State) : Host.Outcome State Fault Refusal :=
  .next (if s.clock.oldDay then s.drain.rollover else s)

/-- A pulse on MINUTE_SYNC (R12, R15). -/
def State.minuteSync (s : State) : State :=
  if s.clock.set && s.clock.syncEnabled then
    let t := if 30 ≤ s.clock.seconds then s.advanceMinute else s
    { t with clock := { t.clock with seconds := 0 } }
  else s

/-- A pulse on MINUTE_SYNC. -/
def execMinuteSync (s : State) : Host.Outcome State Fault Refusal := .next s.minuteSync

/-- SET_MINUTE_SYNC (R15). -/
def runSetMinuteSync (p : Port) (enable : Bool) (s : State) : State × Reply :=
  if !s.mayIssue p .facil then refuse s .role
  else accept { s with clock := { s.clock with syncEnabled := enable } }

/-- SET_MINUTE_SYNC at a port. -/
def execSetMinuteSync (p : Port) (tag : Byte) (enable : Bool) (s : State) : Host.Outcome State Fault Refusal :=
  .next (s.atPort p tag (.setMinuteSync enable) (runSetMinuteSync p enable))

/-- The time replaced and the clock set running (R16). -/
def Clock.setTo (c : Clock) (day minute seconds : Nat) : Clock :=
  { c with day := day, minute := minute, seconds := seconds, set := true, oldDay := false }

/-- SET_TIME (R16, R123). What the minute before still owes, such as a rollover at midnight, is taken first. -/
def runSetTime (p : Port) (day minute seconds : Nat) (s : State) : State × Reply :=
  if !s.mayIssue p .facil then refuse s .role
  else if 6 < day ∨ 1439 < minute ∨ 59 < seconds then refuse s .range
  else if s.serving then refuse s .state
  else
    let t := s.settle
    accept (State.recomputeAll { t with clock := t.clock.setTo day minute seconds })

/-- SET_TIME at a port. -/
def execSetTime (p : Port) (tag : Byte) (day minute seconds : Nat) (s : State) :
    Host.Outcome State Fault Refusal :=
  .next (s.atPort p tag (.setTime day minute seconds) (runSetTime p day minute seconds))

/-- ADJUST_TIME by a forward amount (R17): that many minute advances, each with all its effects. -/
def runAdjustTimeForward (p : Port) (amount : Nat) (s : State) : State × Reply :=
  if !s.mayIssue p .facil then refuse s .role
  else if amount = 0 ∨ 15 < amount then refuse s .range
  else if !s.clock.set then refuse s .noTime
  else
    let t := (s.advanceMinutes amount).settle
    accept t (.time t.clock.day t.clock.minute)

/-- ADJUST_TIME forward at a port. -/
def execAdjustTimeForward (p : Port) (tag : Byte) (amount : Nat) (s : State) : Host.Outcome State Fault Refusal :=
  .next (s.atPort p tag (.adjustTimeForward amount) (runAdjustTimeForward p amount))

/-- ADJUST_TIME by a backward amount (R17, R18): deadlines already fallen due are taken first, and nothing else
falls due; every display is computed again (R123). -/
def runAdjustTimeBackward (p : Port) (amount : Nat) (s : State) : State × Reply :=
  if !s.mayIssue p .facil then refuse s .role
  else if amount = 0 ∨ 15 < amount then refuse s .range
  else if !s.clock.set then refuse s .noTime
  else
    let t := s.settle
    if t.clock.minute < amount then refuse t .range
    else
      let u := State.recomputeAll { t with clock := { t.clock with minute := t.clock.minute - amount } }
      accept u (.minute (u.clock.minute : Int))

/-- ADJUST_TIME backward at a port. -/
def execAdjustTimeBackward (p : Port) (tag : Byte) (amount : Nat) (s : State) : Host.Outcome State Fault Refusal :=
  .next (s.atPort p tag (.adjustTimeBackward amount) (runAdjustTimeBackward p amount))

end Sys2Proof.Machine
end

