-- ==== Sys2Proof/Machine/DeadlineEvents.lean ====
section
/-! DEFINITION. The deadline rows of the table: one deadline that has fallen due is taken by its owner. Where the named
record holds no such deadline that has fallen due, the event is not there to take and nothing happens. -/

namespace Sys2Proof.Machine

/-- A hold deadline (R27). -/
def execHoldEnd (index : Nat) (s : State) : Host.Outcome State Fault Refusal := .next (s.takeHoldEnd index)

/-- An arrival deadline (R28, R81). -/
def execArrival (index : Nat) (s : State) : Host.Outcome State Fault Refusal := .next (s.takeArrival index)

/-- A grace end (R28, R82 to R84). -/
def execGraceEnd (index : Nat) (s : State) : Host.Outcome State Fault Refusal := .next (s.takeGraceEnd index)

/-- An UNVERIFIED_END deadline (R28, R84). -/
def execUnverifiedEnd (index : Nat) (s : State) : Host.Outcome State Fault Refusal :=
  .next (s.takeUnverifiedEnd index)

/-- An END deadline (R29). -/
def execEndDeadline (index : Nat) (s : State) : Host.Outcome State Fault Refusal := .next (s.takeEnd index)

/-- A waitlist expiry (R69). -/
def execWaitExpiry (index : Nat) (s : State) : Host.Outcome State Fault Refusal := .next (s.takeExpiry index)

/-- An auto-end (R94). -/
def execAutoEnd (room : Nat) (s : State) : Host.Outcome State Fault Refusal := .next (s.takeAutoEnd room)

/-- A display deadline (R124). -/
def execDisplayDeadline (room : Nat) (s : State) : Host.Outcome State Fault Refusal := .next (s.takeDisplay room)

/-- A cut-off (R162). -/
def execCutoffDeadline (index : Nat) (s : State) : Host.Outcome State Fault Refusal := .next (s.takeCutoff index)

/-- A dispatch deadline (R163). -/
def execDispatchDeadline (index : Nat) (s : State) : Host.Outcome State Fault Refusal :=
  .next (s.takeDispatch index)

/-- A LATE deadline (R163). -/
def execLateDeadline (index : Nat) (s : State) : Host.Outcome State Fault Refusal := .next (s.takeLate index)

end Sys2Proof.Machine
end

