-- ==== Sys2Proof/Machine/Kitchens.lean ====
section
/-! DEFINITION. The commands of the Kitchen Planner's setup and load table: CONFIG_KITCHEN, SET_CAPACITY, DEFINE_CLASS,
SET_TRANSIT, READ_KITCHEN_SETUP and KITCHEN_LOAD (R134 to R138, R149 to R151). -/

namespace Sys2Proof.Machine

/-! ### CONFIG_KITCHEN -/

/-- Replaces a kitchen's record. -/
def State.setKitchen (s : State) (k : Nat) (v : Kitchen) : State :=
  { s with plan := { s.plan with kitchens := Table.write Kitchen.cold s.plan.kitchens k v } }

/-- Some windows of a kitchen brought into line with their limits, and KITCHEN_OVER raised where its OVER windows
change (R149, R150). `before` is the state the event found. -/
def State.alignWindows (s before : State) (k : Nat) (windows : List Nat) : State :=
  (windows.foldl (State.alignOver k) s).announceAllOver before.overBefore

/-- CONFIG_KITCHEN (R134, R149). -/
def runConfigKitchen (p : Port) (k : Nat) (isOpen : Bool) (overbook : Nat) (s : State) : State × Reply :=
  if !s.mayIssue p .facil then refuse s .role
  else if 3 < k ∨ 25 < overbook then refuse s .range
  else accept ((s.setKitchen k ⟨isOpen, overbook⟩).alignWindows s k (List.range Config.windowCount))

/-- CONFIG_KITCHEN at a port. -/
def execConfigKitchen (p : Port) (tag : Byte) (kitchen : Nat) (isOpen : Bool) (overbook : Nat) (s : State) :
    Host.Outcome State Fault Refusal :=
  .next (s.atPort p tag (.configKitchen kitchen isOpen overbook) (runConfigKitchen p kitchen isOpen overbook))

/-! ### SET_CAPACITY -/

/-- The range checks of SET_CAPACITY (R135). -/
def capacityOut (k first : Nat) (values : List Nat) : Bool :=
  decide (3 < k) || decide (95 < first) || values.isEmpty || decide (24 < values.length) ||
  decide (96 < first + values.length)

/-- The values SET_CAPACITY stores (R135). -/
def storedCapacities (values : List Nat) : List Nat := values.map (fun v => min v 4095)

/-- Stores a run of profile values from a window of day on (R135). -/
def storeProfile (profile : Table Nat) (k : Nat) : Nat → List Nat → Table Nat
  | _, [] => profile
  | w, v :: l => storeProfile (Table.write 0 profile (k * 96 + w) v) k (w + 1) l

/-- The global windows of a run of windows of day, on all eight planes (R135, R149). -/
def windowsOfDay (first n : Nat) : List Nat :=
  (List.range 8).flatMap (fun plane => (List.range n).map (fun j => plane * 96 + first + j))

/-- SET_CAPACITY (R135, R149). -/
def runSetCapacity (p : Port) (k first : Nat) (values : List Nat) (s : State) : State × Reply :=
  if !(s.mayIssue p .facil || s.mayIssue p .cater) then refuse s .role
  else if capacityOut k first values then refuse s .range
  else
    let stored := storedCapacities values
    let t := { s with plan := { s.plan with profile := storeProfile s.plan.profile k first stored } }
    accept (State.alignWindows t s k (windowsOfDay first values.length)) (.values stored) (!(stored == values))

/-- SET_CAPACITY at a port. -/
def execSetCapacity (p : Port) (tag : Byte) (kitchen first : Nat) (values : List Nat) (s : State) :
    Host.Outcome State Fault Refusal :=
  .next (s.atPort p tag (.setCapacity kitchen first values) (runSetCapacity p kitchen first values))

/-! ### DEFINE_CLASS and SET_TRANSIT -/

/-- The range checks of DEFINE_CLASS (R136). -/
def defineOut (cls weight lead minCovers : Nat) : Bool :=
  decide (15 < cls) || decide (weight < 1) || decide (63 < weight) || decide (lead < 1) || decide (16 < lead) ||
  decide (minCovers < 1) || decide (50 < minCovers)

/-- Defines a menu class. -/
def State.setClass (s : State) (m : Nat) (v : MenuClass) : State :=
  { s with plan := { s.plan with classes := Table.write none s.plan.classes m (some v) } }

/-- DEFINE_CLASS (R136). -/
def runDefineClass (p : Port) (cls weight lead minCovers : Nat) (s : State) : State × Reply :=
  if !s.mayIssue p .facil then refuse s .role
  else if defineOut cls weight lead minCovers then refuse s .range
  else accept (s.setClass cls ⟨weight, lead, minCovers⟩)

/-- DEFINE_CLASS at a port. -/
def execDefineClass (p : Port) (tag : Byte) (cls weight lead minCovers : Nat) (s : State) :
    Host.Outcome State Fault Refusal :=
  .next (s.atPort p tag (.defineClass cls weight lead minCovers) (runDefineClass p cls weight lead minCovers))

/-- Sets a transit table entry. -/
def State.setTransitEntry (building : Nat) (s : State) (e : Nat × Nat) : State :=
  { s with plan := { s.plan with transit := Table.write 0 s.plan.transit (building * 4 + e.1) e.2 } }

/-- SET_TRANSIT (R137). -/
def runSetTransit (p : Port) (building t0 t1 t2 t3 : Nat) (s : State) : State × Reply :=
  if !s.mayIssue p .facil then refuse s .role
  else if 11 < building ∨ 60 < t0 ∨ 60 < t1 ∨ 60 < t2 ∨ 60 < t3 then refuse s .range
  else accept ([(0, t0), (1, t1), (2, t2), (3, t3)].foldl (State.setTransitEntry building) s)

/-- SET_TRANSIT at a port. -/
def execSetTransit (p : Port) (tag : Byte) (building t0 t1 t2 t3 : Nat) (s : State) :
    Host.Outcome State Fault Refusal :=
  .next (s.atPort p tag (.setTransit building t0 t1 t2 t3) (runSetTransit p building t0 t1 t2 t3))

/-! ### READ_KITCHEN_SETUP and KITCHEN_LOAD -/

/-- READ_KITCHEN_SETUP (R138). -/
def runReadKitchenSetup (p : Port) (sel : SetupSelector) (s : State) : State × Reply :=
  if !s.mayIssueAny p then refuse s .role
  else match sel with
    | .classes => accept s (.classes ((List.range 16).map s.menuClass))
    | .kitchen k =>
      if 3 < k then refuse s .range
      else accept s (.kitchenSetup (s.kitchen k) ((List.range 12).map (fun b => s.transit b k)))

/-- READ_KITCHEN_SETUP at a port. -/
def execReadKitchenSetup (p : Port) (tag : Byte) (sel : SetupSelector) (s : State) :
    Host.Outcome State Fault Refusal :=
  .next (s.atPort p tag (.readKitchenSetup sel) (runReadKitchenSetup p sel))

/-- A window as KITCHEN_LOAD returns it (R151). -/
def State.windowReading (s : State) (k g : Nat) : WindowReading :=
  { load := (s.loadEntry k g).load, capacity := s.capacity k g, limit := s.limit k g,
    isOver := (s.loadEntry k g).isOver }

/-- KITCHEN_LOAD (R151). -/
def runKitchenLoad (p : Port) (k first count : Nat) (s : State) : State × Reply :=
  if !s.mayIssueAny p then refuse s .role
  else if 3 < k ∨ 767 < first ∨ count < 1 ∨ 16 < count ∨ 768 < first + count then refuse s .range
  else accept s (.load ((List.range count).map (fun j => s.windowReading k (first + j))) (s.kitchen k)
    s.currentWindow (s.overWindows k).length)

/-- KITCHEN_LOAD at a port. -/
def execKitchenLoad (p : Port) (tag : Byte) (kitchen first count : Nat) (s : State) :
    Host.Outcome State Fault Refusal :=
  .next (s.atPort p tag (.kitchenLoad kitchen first count) (runKitchenLoad p kitchen first count))

end Sys2Proof.Machine
end

