-- ==== Sys2Proof/Machine/Ports.lean ====
section
/-! DEFINITION. What happens at the agent ports themselves (chapter 12): STATUS, NARROW_ROLES, a command that names none,
and the events of command and read transactions (R188 to R196, R185, R186). -/

namespace Sys2Proof.Machine

/-! ### STATUS -/

/-- STATUS returns the values as they stood when the command was taken (R196). -/
def runStatus (p : Port) (s : State) : State × Reply :=
  accept s (.status (((s.port p).inHand.bind Taken.seen).getD (s.statusReading p)))

/-- STATUS at a port. -/
def execStatus (p : Port) (tag : Byte) (s : State) : Host.Outcome State Fault Refusal :=
  .next (s.atPort p tag .status (runStatus p))

/-! ### NARROW_ROLES -/

/-- The port of a port letter, 0 for A, 1 for B and 2 for C. -/
def portOfLetter : Nat → Option Port
  | 0 => some .a
  | 1 => some .b
  | 2 => some .c
  | _ => none

/-- A mask as its three bits, bit 0 for SCHED, bit 1 for CATER and bit 2 for FACIL (R189, R190). -/
def maskOfBits (mask : Nat) : RoleMask := ⟨mask.testBit 0, mask.testBit 1, mask.testBit 2⟩

/-- The roles of one mask that are also in another (R190). -/
def RoleMask.meet (m n : RoleMask) : RoleMask := ⟨m.sched && n.sched, m.cater && n.cater, m.facil && n.facil⟩

/-- The role check of NARROW_ROLES (R190). -/
def State.mayNarrow (s : State) (p : Port) (letter : Nat) : Bool :=
  if portOfLetter letter = some p then s.mayIssueAny p else s.mayIssue p .facil

/-- A port's mask narrowed (R190). -/
def AgentPort.narrow (a : AgentPort) (m : RoleMask) : AgentPort := { a with roles := RoleMask.meet a.roles m }

/-- NARROW_ROLES (R190). -/
def runNarrowRoles (p : Port) (letter mask : Nat) (s : State) : State × Reply :=
  if !s.mayNarrow p letter then refuse s .role
  else match portOfLetter letter with
    | none => refuse s .range
    | some q =>
      if 7 < mask then refuse s .range
      else
        let a := (s.port q).narrow (maskOfBits mask)
        accept (s.setPort q a) (.mask a.roles)

/-- NARROW_ROLES at a port. -/
def execNarrowRoles (p : Port) (tag : Byte) (letter mask : Nat) (s : State) : Host.Outcome State Fault Refusal :=
  .next (s.atPort p tag (.narrowRoles letter mask) (runNarrowRoles p letter mask))

/-! ### A frame that names no command -/

/-- What the answer to a bad frame carries: the identifier that names no command (R193). -/
def badPayload : BadCommand → Payload
  | .unknownIdentifier ident => .badIdentifier ident
  | .badPayloadLength _ => .none

/-- A command identifier that names no command, or a payload of a length it does not allow (R193). -/
def runUnknownCommand (why : BadCommand) (s : State) : State × Reply := refuse s .range (badPayload why)

/-- UNKNOWN_COMMAND at a port. -/
def execUnknownCommand (p : Port) (tag : Byte) (why : BadCommand) (s : State) : Host.Outcome State Fault Refusal :=
  .next (s.atPort p tag (.bad why) (runUnknownCommand why))

/-! ### Transactions -/

/-- An event of a port's lines: while RESET is low SEL is ignored, and there is none (R197). -/
def State.onPort (s : State) (p : Port) (event : AgentPort → AgentPort) : State :=
  if s.resetLow then s else s.setPort p (event (s.port p))

/-- No transaction is in progress at the port. -/
def AgentPort.quiet (a : AgentPort) : Bool := !a.receiving && a.reading.isNone

/-- A command frame discarded or abandoned: the port returns to the remembered state, with a flag set (R191, R192). -/
def AgentPort.dropFrame (a : AgentPort) (f : PortFlags) : AgentPort := { a with receiving := false }.setFlags f

/-- The command sync byte opens a command transaction (R188, R191): the present state is remembered. -/
def AgentPort.openCommand (a : AgentPort) : AgentPort := if a.quiet then { a with receiving := true } else a

/-- COMMAND_SYNC_BYTE. -/
def execCommandSyncByte (p : Port) (s : State) : Host.Outcome State Fault Refusal :=
  .next (s.onPort p AgentPort.openCommand)

/-- A first byte that is neither sync nor read makes the transaction void (R188). -/
def AgentPort.voidFirst (first : Byte) (a : AgentPort) : AgentPort :=
  if a.quiet && !(first == 0x5A) && !(first == 0xA5) then a.setFlags PortFlags.ofIncomplete else a

/-- VOID_TRANSACTION. -/
def execVoidTransaction (p : Port) (first : Byte) (s : State) : Host.Outcome State Fault Refusal :=
  .next (s.onPort p (AgentPort.voidFirst first))

/-- A length byte above 60 discards the frame (R192). -/
def AgentPort.lengthFault (length : Byte) (a : AgentPort) : AgentPort :=
  if a.receiving && decide (60 < length.toNat) then a.dropFrame PortFlags.ofIncomplete else a

/-- COMMAND_FRAME_LENGTH_FAULT. -/
def execCommandFrameLengthFault (p : Port) (length : Byte) (s : State) : Host.Outcome State Fault Refusal :=
  .next (s.onPort p (AgentPort.lengthFault length))

/-- A command frame is well formed (R192). -/
def wellFormedFrame (f : CommandFrame) : Bool :=
  decide (f.length.toNat ≤ 60) && f.payload.length == f.length.toNat && CommandFrame.checkMatches f

/-- A command frame completes: discarded, taken, or ignored for COLLISION (R191, R192). -/
def AgentPort.completeFrame (f : CommandFrame) (taken : Taken) (a : AgentPort) : AgentPort :=
  if !a.receiving then a
  else if wellFormedFrame f then a.takeFrame taken
  else a.dropFrame PortFlags.ofIncomplete

/-- COMMAND_FRAME_COMPLETES. A frame that is taken is then with its owning block; the command's own row answers it. -/
def execCommandFrameCompletes (p : Port) (frame : CommandFrame) (s : State) : Host.Outcome State Fault Refusal :=
  .next (s.onPort p (AgentPort.completeFrame frame (s.takenNow p frame.tag frame.cmd)))

/-- SEL rises before the command frame completes (R192). -/
def AgentPort.selEarly (a : AgentPort) : AgentPort :=
  if a.receiving then a.dropFrame PortFlags.ofIncomplete else a

/-- SEL_RAISED_EARLY. -/
def execSelRaisedEarly (p : Port) (s : State) : Host.Outcome State Fault Refusal := .next (s.onPort p AgentPort.selEarly)

/-- SEL held active for 25 ms with no SCK edge: the frame is abandoned, or the read cut short (R192, R195). Once the last
check byte of a read has been clocked out no stall is timed: the read waits for SEL to rise and then completes whole
(R195). -/
def AgentPort.stall (lastByteOut : Bool) (a : AgentPort) : AgentPort :=
  if a.reading.isSome && lastByteOut then a
  else { a with receiving := false, reading := none }.setFlags PortFlags.ofTimeout

/-- STALLED_CLOCK. -/
def execStalledClock (p : Stall) (s : State) : Host.Outcome State Fault Refusal :=
  .next (s.onPort p.port (AgentPort.stall p.lastByteOut))

/-! ### Reading -/

/-- The frame a read transaction chooses (R186, R195). -/
def AgentPort.chooseFrame (a : AgentPort) : ReadFrame :=
  match a.slot with
  | some r => .response r
  | none => match a.queue with
    | n :: _ => .notice n
    | [] => .empty

/-- The read byte opens a read transaction: the frame is chosen with the flags then pending (R195). -/
def AgentPort.openRead (a : AgentPort) : AgentPort :=
  if a.quiet then { a with reading := some ⟨a.chooseFrame, a.flags, PortFlags.clear, false⟩ } else a

/-- READ_BYTE. -/
def execReadByte (p : Port) (s : State) : Host.Outcome State Fault Refusal := .next (s.onPort p AgentPort.openRead)

/-- Removes the queued notice of a notice's kind and subject. -/
def removeTopic (n : Notice) : List Notice → List Notice
  | [] => []
  | m :: l => if Notice.sameTopic n m then l else m :: removeTopic n l

/-- The item a whole read has delivered is removed (R186, R191, R195). -/
def AgentPort.removeItem (a : AgentPort) (r : Reading) : AgentPort :=
  match r.frame with
  | .response _ => { a with slot := none, base := .idle }
  | .notice n => if r.superseded then a else { a with queue := removeTopic n a.queue }
  | .empty => a

/-- A read completes whole: the flags it carried are cleared, but those set again since, and its item is removed
(R185, R186, R195). -/
def AgentPort.finishRead (a : AgentPort) : AgentPort :=
  match a.reading with
  | none => a
  | some r => AgentPort.removeItem { a with flags := (a.flags.without r.carried).join r.again, reading := none } r

/-- READ_COMPLETES_WHOLE. -/
def execReadCompletesWhole (p : Port) (s : State) : Host.Outcome State Fault Refusal :=
  .next (s.onPort p AgentPort.finishRead)

/-- A read cut short by SEL: the item stays, no flag is cleared, and INCOMPLETE is set (R195). -/
def AgentPort.cutRead (a : AgentPort) : AgentPort :=
  if a.reading.isSome then { a with reading := none }.setFlags PortFlags.ofIncomplete else a

/-- READ_CUT_SHORT. -/
def execReadCutShort (p : Port) (s : State) : Host.Outcome State Fault Refusal := .next (s.onPort p AgentPort.cutRead)

end Sys2Proof.Machine
end

