-- ==== Sys2Proof/Machine/Reading.lean ====
section
/-! DEFINITION. The commands that read the book, QUERY_BOOKING and QUERY_ROOM_DAY (R56, R57), and the listing protocol,
LIST_CHANGES and LIST_NEXT (R58 to R61). -/

namespace Sys2Proof.Machine

/-! ### Queries -/

/-- A record as QUERY_BOOKING returns it whole; its start and end minutes are horizon minutes (R56, log entry 34). -/
def Rec.reading (h : Handle) (r : Rec) : RecReading :=
  { handle := h, kind := r.kind, state := r.state, room := r.room, plane := r.plane, startMinute := r.startMinute,
    endMinute := r.endMinute, setup := r.setup, clear := r.clear, padStart := r.padStart, padEnd := r.padEnd,
    owner := r.owner, organizer := r.organizer, label := r.label, attendees := r.attendees,
    deadlineKind := r.deadline.kind, deadlineMinute := r.deadline.minute, arrival := r.arrival, order := r.order,
    flags := r.flags, extensions := r.extensions, rev := r.rev }

/-- QUERY_BOOKING (R56). -/
def runQueryBooking (p : Port) (h : Handle) (s : State) : State × Reply :=
  if !s.mayIssueAny p then refuse s .role
  else if bookIndexOut h then refuse s .range
  else match Pool.named? s.book.pool h with
    | none => refuse s .noSuch (.noSuch (s.findTombstone false h))
    | some r => accept s (.record (r.reading h))

/-- QUERY_BOOKING at a port. -/
def execQueryBooking (p : Port) (tag : Byte) (h : Handle) (s : State) : Host.Outcome State Fault Refusal :=
  .next (s.atPort p tag (.queryBooking h) (runQueryBooking p h))

/-- The summary of a record (R57). -/
def State.summary (s : State) (e : Nat × Rec) : Summary :=
  { handle := s.recHandle e.1, kind := e.2.kind, state := e.2.state, startMinute := e.2.startMinute,
    endMinute := e.2.endMinute, padStart := e.2.padStart, padEnd := e.2.padEnd, owner := e.2.owner,
    label := e.2.label, flags := e.2.flags, order := e.2.order, rev := e.2.rev }

/-- QUERY_ROOM_DAY (R57). -/
def runQueryRoomDay (p : Port) (room plane start : Nat) (s : State) : State × Reply :=
  if !s.mayIssueAny p then refuse s .role
  else if roomOut room || decide (7 < plane) || decide ((s.dayList room plane).length < start) then refuse s .range
  else accept s (.dayPage ((((s.dayList room plane).drop start).take 6).map s.summary)
    (s.dayList room plane).length s.book.rev)

/-- QUERY_ROOM_DAY at a port. -/
def execQueryRoomDay (p : Port) (tag : Byte) (room plane start : Nat) (s : State) :
    Host.Outcome State Fault Refusal :=
  .next (s.atPort p tag (.queryRoomDay room plane start) (runQueryRoomDay p room plane start))

/-! ### Listing batches -/

/-- The revision a listing item carries. -/
def ListItem.rev : ListItem → Nat
  | .record _ _ r => r.rev
  | .order _ _ _ rev => rev
  | .tomb t => t.rev

/-- Every live booking, block and order, and every tombstone in the ring, as listing items (R59). -/
def State.listItems (s : State) : List ListItem :=
  s.liveRecs.map (fun e => .record e.2.room e.2.plane (s.summary e)) ++
  (Pool.live s.plan.orders).map (fun e => .order (Pool.handle s.plan.orders e.1) e.2.booking e.2.state e.2.rev) ++
  s.book.ring.map .tomb

/-- The candidates of a batch: items above the cursor and at or below the ceiling (R59). -/
def State.candidates (s : State) (l : Listing) : List ListItem :=
  s.listItems.filter (fun x => decide (l.cursor < x.rev) && decide (x.rev ≤ l.ceiling))

/-- A listing item before another: by revision; items that share one stand in an order left open (R59, log
entry 4). -/
def itemBefore (choice : Nat) (x y : Nat × ListItem) : Bool :=
  decide (x.2.rev < y.2.rev) ||
  (x.2.rev == y.2.rev && decide (Config.tieKey choice x.1 ≤ Config.tieKey choice y.1))

/-- Puts an item into its place. -/
def insertItem (choice : Nat) (x : Nat × ListItem) : List (Nat × ListItem) → List (Nat × ListItem)
  | [] => [x]
  | y :: l => if itemBefore choice x y then x :: y :: l else y :: insertItem choice x l

/-- Items in ascending revision, numbered by their place among the candidates. -/
def sortItems (choice : Nat) (items : List ListItem) : List ListItem :=
  (((List.range items.length).zip items).foldr (insertItem choice) []).map Prod.snd

/-- The items of a batch: up to four candidates of lowest revision (R59). -/
def State.batchItems (s : State) (l : Listing) : List ListItem :=
  (sortItems s.choices (s.candidates l)).take 4

/-- The cursor after a batch (R59). -/
def cursorAfter (cursor : Nat) (items : List ListItem) : Nat :=
  match items.getLast? with
  | none => cursor
  | some x => x.rev

/-- A batch carries END: no candidate remains above its last item, or above the cursor for an empty batch (R60). -/
def State.batchCompletes (s : State) (l : Listing) : Bool :=
  !(s.candidates l).any (fun x => decide (cursorAfter l.cursor (s.batchItems l) < x.rev))

/-- Sets a port's listing state (R34). -/
def State.setListing (s : State) (p : Port) (l : Option Listing) : State :=
  { s with book := { s.book with listings := s.book.listings.set p l } }

/-- The listing a batch leaves open, its GAP reported and its cursor moved, or none after END (R59, R60). -/
def State.listingAfter (s : State) (l : Listing) : Option Listing :=
  if s.batchCompletes l then none
  else some { l with cursor := cursorAfter l.cursor (s.batchItems l), gapToReport := false }

/-- Returns a listing's next batch (R59, R60); `ceiling` is given in a LIST_CHANGES response. -/
def State.sendBatch (s : State) (p : Port) (l : Listing) (ceiling : Option Nat) (overrun : Bool) :
    State × Reply :=
  let t := if s.exhausted then s.countChoice else s
  (t.setListing p (s.listingAfter l),
    { code := .ok, overrun := overrun,
      payload := .batch ceiling (s.batchItems l) l.gapToReport (s.batchCompletes l) })

/-! ### LIST_CHANGES and LIST_NEXT -/

/-- The GAP decision (R58). -/
def State.gapSince (s : State) (since : Nat) : Bool :=
  (s.book.wrapped && s.book.ring.head?.any (fun t => decide (since < t.rev))) ||
  s.book.clearMark.any (fun m => decide (since ≤ m))

/-- A port's pending OVERRUN cleared (R58, R185). -/
def AgentPort.clearOverrun (a : AgentPort) : AgentPort :=
  { a with flags := { a.flags with overrun := false }
           reading := a.reading.map (fun r => { r with again := { r.again with overrun := false } }) }

/-- LIST_CHANGES (R58 to R60). -/
def runListChanges (p : Port) (since : Nat) (s : State) : State × Reply :=
  if !s.mayIssueAny p then refuse s .role
  else if s.book.rev < since then refuse s .range
  else
    State.sendBatch (s.setPort p (s.port p).clearOverrun) p ⟨s.book.rev, since, s.gapSince since⟩
      (some s.book.rev) (s.port p).flags.overrun

/-- LIST_CHANGES at a port. -/
def execListChanges (p : Port) (tag : Byte) (since : Nat) (s : State) : Host.Outcome State Fault Refusal :=
  .next (s.atPort p tag (.listChanges since) (runListChanges p since))

/-- LIST_NEXT (R59, R60). -/
def runListNext (p : Port) (s : State) : State × Reply :=
  if !s.mayIssueAny p then refuse s .role
  else match s.book.listings.at p with
    | none => refuse s .state
    | some l => s.sendBatch p l none false

/-- LIST_NEXT at a port. -/
def execListNext (p : Port) (tag : Byte) (s : State) : Host.Outcome State Fault Refusal :=
  .next (s.atPort p tag .listNext (runListNext p))

end Sys2Proof.Machine
end

