-- ==== Sys2Proof/Machine/Routes.lean ====
section
/-! DEFINITION. The commands of the routing table: CONFIG_ROUTE and READ_ROUTES (R178, R179). -/

namespace Sys2Proof.Machine

/-- Replaces a routing entry. -/
def State.setRoute (s : State) (k : Nat) (v : Route) : State :=
  { s with routes := Table.write Route.cold s.routes k v }

/-- CONFIG_ROUTE (R178). -/
def runConfigRoute (p : Port) (a : ConfigRouteArgs) (s : State) : State × Reply :=
  if !s.mayIssue p .facil then refuse s .role
  else if a.kind < 1 ∨ 20 < a.kind ∨ 7 < a.priority then refuse s .range
  else match a.mode with
    | none => refuse s .range
    | some m =>
      let entry : Route := ⟨a.enabled, m, a.ports, a.priority⟩
      accept (s.setRoute a.kind entry) (.route entry)

/-- CONFIG_ROUTE at a port. -/
def execConfigRoute (p : Port) (tag : Byte) (args : ConfigRouteArgs) (s : State) :
    Host.Outcome State Fault Refusal :=
  .next (s.atPort p tag (.configRoute args) (runConfigRoute p args))

/-- The kinds READ_ROUTES returns: up to ten from the first, ending at kind 20 (R179). -/
def routeKinds (first : Nat) : List Nat := ((List.range 10).map (fun j => first + j)).filter (fun k => decide (k ≤ 20))

/-- READ_ROUTES (R179). -/
def runReadRoutes (p : Port) (first : Nat) (s : State) : State × Reply :=
  if !s.mayIssueAny p then refuse s .role
  else if first < 1 ∨ 20 < first then refuse s .range
  else accept s (.routes ((routeKinds first).map (fun k => (k, s.route k))))

/-- READ_ROUTES at a port. -/
def execReadRoutes (p : Port) (tag : Byte) (first : Nat) (s : State) : Host.Outcome State Fault Refusal :=
  .next (s.atPort p tag (.readRoutes first) (runReadRoutes p first))

end Sys2Proof.Machine
end

