-- ==== Sys2Proof/Machine/Usage.lean ====
section
/-! DEFINITION. The commands of the Usage Monitor: SNAPSHOT, SET_AUTO_SNAPSHOT and READ_USAGE (R171, R172, R175). -/

namespace Sys2Proof.Machine

/-- SNAPSHOT (R172). -/
def runSnapshot (p : Port) (s : State) : State × Reply :=
  if !(s.mayIssue p .facil || s.mayIssue p .cater) then refuse s .role
  else accept (s.takeSnapshot .manual) (.sequence (s.monitor.bank.seq + 1))

/-- SNAPSHOT at a port. -/
def execSnapshot (p : Port) (tag : Byte) (s : State) : Host.Outcome State Fault Refusal :=
  .next (s.atPort p tag .snapshot (runSnapshot p))

/-- SET_AUTO_SNAPSHOT (R172). -/
def runSetAutoSnapshot (p : Port) (value : Bool) (s : State) : State × Reply :=
  if !s.mayIssue p .facil then refuse s .role
  else accept { s with monitor := { s.monitor with autoSnapshot := value } }

/-- SET_AUTO_SNAPSHOT at a port. -/
def execSetAutoSnapshot (p : Port) (tag : Byte) (value : Bool) (s : State) : Host.Outcome State Fault Refusal :=
  .next (s.atPort p tag (.setAutoSnapshot value) (runSetAutoSnapshot p value))

/-- A room as READ_USAGE returns it (R175). -/
def State.usageReading (s : State) (room : Nat) : UsageReading :=
  { room := room, usage := Table.read RoomUsage.zero s.monitor.bank.rooms room, chronic := s.chronicState room }

/-- The rooms READ_USAGE returns: up to four from the first, ending at room 159 (R175). -/
def usageRooms (first : Nat) : List Nat := ((List.range 4).map (fun j => first + j)).filter (fun r => decide (r ≤ 159))

/-- READ_USAGE (R175). -/
def runReadUsage (p : Port) (sel : UsageSelector) (s : State) : State × Reply :=
  if !s.mayIssueAny p then refuse s .role
  else
    let b := s.monitor.bank
    match sel with
    | .rooms first =>
      if 159 < first then refuse s .range
      else accept s (.usageRooms ((usageRooms first).map s.usageReading) b.seq b.kind b.day b.minute
        s.monitor.autoSnapshot)
    | .kitchen k =>
      if 3 < k then refuse s .range
      else accept s (.usageKitchen (Table.read KitchenUsage.zero b.kitchens k) b.seq b.kind b.day b.minute
        s.monitor.autoSnapshot)

/-- READ_USAGE at a port. -/
def execReadUsage (p : Port) (tag : Byte) (sel : UsageSelector) (s : State) : Host.Outcome State Fault Refusal :=
  .next (s.atPort p tag (.readUsage sel) (runReadUsage p sel))

end Sys2Proof.Machine
end

