-- ==== Sys2Proof/Machine/Waiting.lean ====
section
/-! DEFINITION. The waitlist commands: WAIT_ADD, WAIT_REMOVE and QUERY_WAITLIST (R63 to R68). -/

namespace Sys2Proof.Machine

/-! ### WAIT_ADD -/

/-- The candidate rooms are out of range: none or more than four, a room above 159, or one named twice (R64). -/
def roomsOut (rooms : List Nat) : Bool :=
  rooms.isEmpty || decide (4 < rooms.length) || rooms.any roomOut || !decide rooms.Nodup

/-- The expiry of a request as a horizon minute: the earliest start minute where it is absent (R65). -/
def expiryMinute (a : WaitAddArgs) : Int :=
  match a.expiry with
  | none => slotMinute a.plane (startSlot a.start)
  | some e => (e.1 : Int) * 1440 + (e.2 : Int)

/-- The latest start slot an entry may take: the earliest plus flex, within its plane (R141). -/
def latestStart (start length flex : Nat) : Nat := min (start + flex) (288 - length)

/-- The range checks of WAIT_ADD (R64, R141). -/
def State.waitOut (s : State) (a : WaitAddArgs) : Bool :=
  let st := startSlot a.start
  let en := stopSlot a.stop
  roomsOut a.rooms || spanOut a.plane a.start a.stop || lengthOut st en 144 || decide (24 < a.flex) ||
  attendeesOut a.attendees ||
  a.expiry.any (fun e => decide (7 < e.1) || decide (1439 < e.2)) ||
  decide (slotMinute a.plane st < expiryMinute a) ||
  a.cater.any (fun q => s.requestOut q ||
    deliveryOut (slotMinute a.plane (latestStart st (en - st) a.flex)) q.offset)

/-- The entry a WAIT_ADD creates (R65). -/
def entryOf (p : Port) (tag : Byte) (a : WaitAddArgs) : WaitEntry :=
  { rooms := a.rooms, plane := a.plane, earliest := startSlot a.start,
    length := stopSlot a.stop - startSlot a.start, flex := a.flex, attendees := a.attendees,
    organizer := a.organizer, label := a.label, cater := a.cater, expiry := expiryMinute a, due := false,
    requester := p, tag := tag }

/-- Where a promoted entry went: the booking, its revision, and whether an order was attached (R65). -/
def State.promotedTo (s : State) (w : Nat) : Option (Handle × Nat × Bool) :=
  match Table.read none s.wait.fates w with
  | some ⟨_, .promoted b⟩ => (Pool.named? s.book.pool b).map (fun r => (b, r.rev, r.order.isSome))
  | _ => none

/-- What WAIT_ADD returns: the position of an entry still waiting, or the booking of one promoted at once (R65). -/
def waitAddedPayload (a : WaitAddArgs) (h : Handle) (t : State) : Payload :=
  let waiting := t.wait.order.contains h.index
  .waitAdded h (slotMinute a.plane (startSlot a.start)) (slotMinute a.plane (stopSlot a.stop)) a.flex
    (expiryMinute a) (if waiting then some (t.wait.order.idxOf h.index) else none)
    (if waiting then none else t.promotedTo h.index)

/-- WAIT_ADD (R64, R65). -/
def runWaitAdd (p : Port) (tag : Byte) (a : WaitAddArgs) (s : State) : State × Reply :=
  match s.waitCheck p with
  | some c => refuse s c
  | none =>
    if s.waitOut a then refuse s .range
    else if s.startPassed a.plane (startSlot a.start) then refuse s .tooLate
    else if a.rooms.all (fun r => decide ((s.room r).seats < a.attendees)) then refuse s .capacity
    else match Pool.lowestFree s.wait.pool Config.waitCap with
      | none => refuse s .full (.full .waitlist)
      | some w =>
        let t := (s.addEntry w (entryOf p tag a)).scan [w]
        accept t (waitAddedPayload a (Pool.handle s.wait.pool w) t)

/-- WAIT_ADD at a port. -/
def execWaitAdd (p : Port) (tag : Byte) (args : WaitAddArgs) (s : State) : Host.Outcome State Fault Refusal :=
  .next (s.atPort p tag (.waitAdd args) (runWaitAdd p tag args))

/-! ### WAIT_REMOVE and QUERY_WAITLIST -/

/-- The WAIT_EXPIRED notice of a removal by another port (R67). -/
def removedNotice (p : Port) (h : Handle) (e : WaitEntry) : Raised :=
  { kind := .waitExpired, subject := .wait h, owner := some e.requester, hi := .cause .removed,
    lo := .actor (.port p), tag := some e.tag }

/-- WAIT_REMOVE (R63, R67). -/
def runWaitRemove (p : Port) (h : Handle) (s : State) : State × Reply :=
  match s.waitCheck p with
  | some c => refuse s c
  | none =>
    if waitIndexOut h then refuse s .range
    else match Pool.named? s.wait.pool h with
      | none => refuse s .noSuch (.waitGone (s.waitGone h))
      | some e =>
        let t := s.freeEntry h.index .removed
        accept (if e.requester = p then t else t.raise (removedNotice p h e))

/-- WAIT_REMOVE at a port. -/
def execWaitRemove (p : Port) (tag : Byte) (h : Handle) (s : State) : Host.Outcome State Fault Refusal :=
  .next (s.atPort p tag (.waitRemove h) (runWaitRemove p h))

/-- An entry as QUERY_WAITLIST returns it (R68). -/
def WaitEntry.reading (position : Nat) (h : Handle) (e : WaitEntry) : WaitReading :=
  { position := position, handle := h, rooms := e.rooms, plane := e.plane, earliest := e.earliest,
    length := e.length, flex := e.flex, attendees := e.attendees, organizer := e.organizer, label := e.label,
    cater := e.cater, expiry := e.expiry, requester := e.requester, tag := e.tag }

/-- The waitlist in arrival order, each entry with its position and handle. -/
def State.waitListing (s : State) : List WaitReading :=
  (((List.range s.wait.order.length).zip s.wait.order).filterMap
    (fun q => (s.waitEntry? q.2).map (WaitEntry.reading q.1 (Pool.handle s.wait.pool q.2))))

/-- QUERY_WAITLIST (R68). -/
def runQueryWaitlist (p : Port) (start : Nat) (s : State) : State × Reply :=
  if !s.mayIssueAny p then refuse s .role
  else if 63 < start then refuse s .range
  else accept s (.waitPage ((s.waitListing.drop start).take 4) (Pool.occupancy s.wait.pool))

/-- QUERY_WAITLIST at a port. -/
def execQueryWaitlist (p : Port) (tag : Byte) (start : Nat) (s : State) : Host.Outcome State Fault Refusal :=
  .next (s.atPort p tag (.queryWaitlist start) (runQueryWaitlist p start))

end Sys2Proof.Machine
end

