-- ==== Sys2Proof/Machine/Dispatch.lean ====
section
/-! DEFINITION. What each command and event does to everything but the queue: one arm for each constructor of `Instr`. -/

namespace Sys2Proof.Machine

def exec (i : Instr) (s : State) : Host.Outcome State Fault Refusal :=
  match i with
  | .resetAsserted => Sys2Proof.Machine.execResetAsserted s
  | .coldReset strapsA strapsB strapsC => Sys2Proof.Machine.execColdReset strapsA strapsB strapsC s
  | .secondTick => Sys2Proof.Machine.execSecondTick s
  | .minuteAdvance => Sys2Proof.Machine.execMinuteAdvance s
  | .dayRollover => Sys2Proof.Machine.execDayRollover s
  | .minuteSync => Sys2Proof.Machine.execMinuteSync s
  | .holdEnd index => Sys2Proof.Machine.execHoldEnd index s
  | .arrival index => Sys2Proof.Machine.execArrival index s
  | .graceEnd index => Sys2Proof.Machine.execGraceEnd index s
  | .unverifiedEnd index => Sys2Proof.Machine.execUnverifiedEnd index s
  | .endDeadline index => Sys2Proof.Machine.execEndDeadline index s
  | .waitExpiry index => Sys2Proof.Machine.execWaitExpiry index s
  | .autoEnd room => Sys2Proof.Machine.execAutoEnd room s
  | .displayDeadline room => Sys2Proof.Machine.execDisplayDeadline room s
  | .cutoffDeadline index => Sys2Proof.Machine.execCutoffDeadline index s
  | .dispatchDeadline index => Sys2Proof.Machine.execDispatchDeadline index s
  | .lateDeadline index => Sys2Proof.Machine.execLateDeadline index s
  | .readRoom p tag room => Sys2Proof.Machine.execReadRoom p tag room s
  | .configSite p tag count => Sys2Proof.Machine.execConfigSite p tag count s
  | .configRoom p tag args => Sys2Proof.Machine.execConfigRoom p tag args s
  | .openRoom p tag room => Sys2Proof.Machine.execOpenRoom p tag room s
  | .closeRoom p tag room => Sys2Proof.Machine.execCloseRoom p tag room s
  | .closeRoomForce p tag room => Sys2Proof.Machine.execCloseRoomForce p tag room s
  | .openDevice p tag => Sys2Proof.Machine.execOpenDevice p tag s
  | .reconfigure p tag => Sys2Proof.Machine.execReconfigure p tag s
  | .setMinuteSync p tag enable => Sys2Proof.Machine.execSetMinuteSync p tag enable s
  | .setTime p tag day minute seconds => Sys2Proof.Machine.execSetTime p tag day minute seconds s
  | .adjustTimeForward p tag amount => Sys2Proof.Machine.execAdjustTimeForward p tag amount s
  | .adjustTimeBackward p tag amount => Sys2Proof.Machine.execAdjustTimeBackward p tag amount s
  | .hold p tag args => Sys2Proof.Machine.execHold p tag args s
  | .confirm p tag h expected => Sys2Proof.Machine.execConfirm p tag h expected s
  | .modify p tag h expected args => Sys2Proof.Machine.execModify p tag h expected args s
  | .move p tag h expected args => Sys2Proof.Machine.execMove p tag h expected args s
  | .cancel p tag h expected => Sys2Proof.Machine.execCancel p tag h expected s
  | .block p tag args => Sys2Proof.Machine.execBlock p tag args s
  | .unblock p tag h expected => Sys2Proof.Machine.execUnblock p tag h expected s
  | .queryBooking p tag h => Sys2Proof.Machine.execQueryBooking p tag h s
  | .queryRoomDay p tag room plane start => Sys2Proof.Machine.execQueryRoomDay p tag room plane start s
  | .listChanges p tag since => Sys2Proof.Machine.execListChanges p tag since s
  | .listNext p tag => Sys2Proof.Machine.execListNext p tag s
  | .waitAdd p tag args => Sys2Proof.Machine.execWaitAdd p tag args s
  | .waitRemove p tag h => Sys2Proof.Machine.execWaitRemove p tag h s
  | .queryWaitlist p tag start => Sys2Proof.Machine.execQueryWaitlist p tag start s
  | .checkIn p tag h expected => Sys2Proof.Machine.execCheckIn p tag h expected s
  | .extend p tag h expected => Sys2Proof.Machine.execExtend p tag h expected s
  | .readLinkCounters p tag chain => Sys2Proof.Machine.execReadLinkCounters p tag chain s
  | .chainReset p tag chain elapsed => Sys2Proof.Machine.execChainReset p tag chain elapsed s
  | .readPanels p tag chain start => Sys2Proof.Machine.execReadPanels p tag chain start s
  | .configKitchen p tag kitchen isOpen overbook => Sys2Proof.Machine.execConfigKitchen p tag kitchen isOpen overbook s
  | .setCapacity p tag kitchen first values => Sys2Proof.Machine.execSetCapacity p tag kitchen first values s
  | .defineClass p tag cls weight lead minCovers => Sys2Proof.Machine.execDefineClass p tag cls weight lead minCovers s
  | .setTransit p tag building t0 t1 t2 t3 => Sys2Proof.Machine.execSetTransit p tag building t0 t1 t2 t3 s
  | .readKitchenSetup p tag sel => Sys2Proof.Machine.execReadKitchenSetup p tag sel s
  | .kitchenLoad p tag kitchen first count => Sys2Proof.Machine.execKitchenLoad p tag kitchen first count s
  | .caterOrder p tag h expected request => Sys2Proof.Machine.execCaterOrder p tag h expected request s
  | .caterChange p tag h expected args => Sys2Proof.Machine.execCaterChange p tag h expected args s
  | .caterCancel p tag h expected => Sys2Proof.Machine.execCaterCancel p tag h expected s
  | .caterDelivered p tag h expected => Sys2Proof.Machine.execCaterDelivered p tag h expected s
  | .queryOrder p tag sel => Sys2Proof.Machine.execQueryOrder p tag sel s
  | .snapshot p tag => Sys2Proof.Machine.execSnapshot p tag s
  | .setAutoSnapshot p tag value => Sys2Proof.Machine.execSetAutoSnapshot p tag value s
  | .readUsage p tag sel => Sys2Proof.Machine.execReadUsage p tag sel s
  | .configRoute p tag args => Sys2Proof.Machine.execConfigRoute p tag args s
  | .readRoutes p tag first => Sys2Proof.Machine.execReadRoutes p tag first s
  | .status p tag => Sys2Proof.Machine.execStatus p tag s
  | .narrowRoles p tag letter mask => Sys2Proof.Machine.execNarrowRoles p tag letter mask s
  | .unknownCommand p tag why => Sys2Proof.Machine.execUnknownCommand p tag why s
  | .commandSyncByte p => Sys2Proof.Machine.execCommandSyncByte p s
  | .voidTransaction p first => Sys2Proof.Machine.execVoidTransaction p first s
  | .commandFrameLengthFault p length => Sys2Proof.Machine.execCommandFrameLengthFault p length s
  | .commandFrameCompletes p frame => Sys2Proof.Machine.execCommandFrameCompletes p frame s
  | .selRaisedEarly p => Sys2Proof.Machine.execSelRaisedEarly p s
  | .stalledClock p => Sys2Proof.Machine.execStalledClock p s
  | .readByte p => Sys2Proof.Machine.execReadByte p s
  | .readCompletesWhole p => Sys2Proof.Machine.execReadCompletesWhole p s
  | .readCutShort p => Sys2Proof.Machine.execReadCutShort p s
  | .upstreamFrame chain elapsed frame => Sys2Proof.Machine.execUpstreamFrame chain elapsed frame s
  | .quietTimer chain => Sys2Proof.Machine.execQuietTimer chain s
  | .enumerationStart chain => Sys2Proof.Machine.execEnumerationStart chain s
  | .roundStart chain => Sys2Proof.Machine.execRoundStart chain s
  | .roundTimeout chain => Sys2Proof.Machine.execRoundTimeout chain s
  | .displayFrameSent chain elapsed => Sys2Proof.Machine.execDisplayFrameSent chain elapsed s
  | .errorWindowEnd chain => Sys2Proof.Machine.execErrorWindowEnd chain s

end Sys2Proof.Machine
end

