-- ==== Sys2Proof/Machine/Codes.lean ====
section
/-! DEFINITION. The numeric codes and payload layouts of read frames and of downstream panel frames that the manual gives
as named fields only (6.2, 11.2, R126, R194), as constants without a body: no proof can see what they are. Log entries 24
and 43. -/

namespace Sys2Proof.Machine

/-- The frame kinds of a read frame (R194). -/
inductive ReadKind where
  | response | notice | empty
deriving DecidableEq, Repr

/-- The downstream frame kinds (6.2). -/
inductive DownKind where
  | enumerate | rollcall | display
deriving DecidableEq, Repr

end Sys2Proof.Machine

namespace Sys2Proof.Config

open Sys2Proof.Machine

/-- FREE VALUE. The code of a frame kind (R194). -/
opaque frameKindCode : ReadKind → Byte

/-- FREE VALUE. The code of a result (00_scope, Responses; R194). -/
opaque resultCode : Code → Byte

/-- FREE VALUE. The flags byte, from CLAMPED and the four port flags, whose places in it are not listed (R194). -/
opaque flagsByte : Bool → PortFlags → Byte

/-- FREE VALUE. The payload bytes of a response, from the values its rule names (R194). -/
opaque responseBytes : Payload → List Byte

/-- FREE VALUE. The condition state byte of a condition notice (R194). -/
opaque conditionCode : Condition → Byte

/-- FREE VALUE. The code of a detail byte that a rule uses (11.2). -/
opaque detailCode : DetailByte → Byte

/-- FREE VALUE. The byte that says whether a notice carries a tag (R194). -/
opaque tagPresentCode : Bool → Byte

/-- FREE VALUE. The tag value byte of a notice without a tag (R194). -/
opaque absentTag : Byte

/-- FREE VALUE. The four subject bytes of a notice (R194). -/
opaque subjectBytes : Subject → BitVec 32

/-- FREE VALUE. The data bytes of a notice (R194). -/
opaque dataBytes : List Datum → List Byte

/-- FREE VALUE. The byte on a selected port's SDO line where R188 gives none, after a number of bytes of the transaction
(log entry 24). -/
opaque sdoOpen : State → Port → Nat → Byte

/-- FREE VALUE. The header of a downstream frame: its kind code, with RERR clear (6.2). -/
opaque downHeader : DownKind → Byte

/-- FREE VALUE. The state byte of a DISPLAY payload (R126). -/
opaque displayStateCode : DisplayState → Byte

/-- FREE VALUE. The presence bits of a DISPLAY payload, from whether the current and the next item are present (R126). -/
opaque presenceBits : Bool → Bool → Byte

/-- FREE VALUE. The badge byte of a DISPLAY payload (R126). -/
opaque badgeCode : Badge → Byte

end Sys2Proof.Config
end

