-- ==== Sys2Proof/Machine/ReadFrames.lean ====
section
/-! DEFINITION. What a port sends on SDO: the bytes of a read frame, the fill bytes, and high impedance (12.1, R188, R194,
R197). A read frame's bytes are a view of the frame the read has chosen. -/

namespace Sys2Proof.Machine

/-- A 16-bit value, most significant byte first (R194). -/
def bytes16 (w : BitVec 16) : List Byte := [(w >>> 8).setWidth 8, w.setWidth 8]

/-- A 32-bit value, most significant byte first (R194). -/
def bytes32 (w : BitVec 32) : List Byte :=
  [(w >>> 24).setWidth 8, (w >>> 16).setWidth 8, (w >>> 8).setWidth 8, w.setWidth 8]

/-- The greatest payload length of a read frame (R194). -/
def readPayloadMax : Nat := 250

/-- A byte of a notice's detail: 0 where the rule does not use it (11.2). -/
def DetailByte.code : DetailByte → Byte
  | .unused => 0
  | d => Config.detailCode d

/-- The bytes tag present and tag value of a notice (R194). -/
def Notice.tagBytes (n : Notice) : List Byte :=
  [Config.tagPresentCode n.tag.isSome, n.tag.getD Config.absentTag]

/-- The fixed part of a NOTICE frame, 19 bytes (R194). -/
def Notice.fixedBytes (n : Notice) : List Byte :=
  [BitVec.ofNat 8 n.kind.number, BitVec.ofNat 8 n.priority, n.cond.elim 0 Config.conditionCode,
    BitVec.ofNat 8 n.transitions, n.hi.code, n.lo.code] ++
  n.tagBytes ++ bytes32 (BitVec.ofNat 32 n.rev) ++
  BitVec.ofNat 8 n.day :: bytes16 (BitVec.ofNat 16 n.minute) ++ bytes32 (Config.subjectBytes n.subject)

/-- The kind of a read frame (R194). -/
def ReadFrame.kind : ReadFrame → ReadKind
  | .response _ => .response
  | .notice _ => .notice
  | .empty => .empty

/-- The tag echo: the command's tag, the notice marker, or 0 (R194). -/
def ReadFrame.tagEcho : ReadFrame → Byte
  | .response r => r.tag
  | .notice _ => 0xFF
  | .empty => 0

/-- The result code: OK in NOTICE and EMPTY frames (R194). -/
def ReadFrame.result : ReadFrame → Code
  | .response r => r.reply.code
  | _ => .ok

/-- The payload bytes: the response's values, the notice's fixed part and its data, or none (R194). -/
def ReadFrame.payload : ReadFrame → List Byte
  | .response r => (Config.responseBytes r.reply.payload).take readPayloadMax
  | .notice n => (n.fixedBytes ++ Config.dataBytes n.data).take readPayloadMax
  | .empty => []

/-- The flags byte: the flags fixed in a response, with the port flags pending when the read byte was taken (R193,
R195). -/
def ReadFrame.flags (carried : PortFlags) : ReadFrame → Byte
  | .response r => Config.flagsByte r.reply.clamped { carried with overrun := carried.overrun || r.reply.overrun }
  | _ => Config.flagsByte false carried

/-- The bytes of a read frame between its sync byte and its check (R194). -/
def Reading.body (r : Reading) : List Byte :=
  BitVec.ofNat 8 r.frame.payload.length :: Config.frameKindCode r.frame.kind :: r.frame.tagEcho ::
    Config.resultCode r.frame.result :: r.frame.flags r.carried :: r.frame.payload

/-- The bytes of a read frame: sync, body, and the check over the body (R194). -/
def Reading.bytes (r : Reading) : List Byte := 0xC3 :: r.body ++ bytes16 (crc16 r.body)

/-- What stands on a port's SDO line while one byte is clocked. -/
inductive SdoLine where
  | highImpedance
  | byte (b : Byte)
deriving DecidableEq, Repr

/-- What a port's SEL, SCK and SDI lines have shown (12.1): SEL is inactive; SEL has fallen and no byte has been clocked;
or the transaction's first byte has been clocked in, and `k` bytes after it. -/
inductive Lines where
  | deselected
  | selected
  | clocked (first : Byte) (k : Nat)
deriving DecidableEq, Repr

/-- The byte a port sends on SDO (12.1, R188, R197): in a command transaction the fill byte, until SEL rises; in a read
transaction the chosen frame from the byte after the read byte on, and then fill bytes; high impedance while SEL is
inactive and while RESET is low. During the first byte, in a void transaction and after a read that a stall has cut
short, R188 gives no byte, and a free value stands (log entry 24). -/
def State.sdo (s : State) (p : Port) (l : Lines) : SdoLine :=
  if s.resetLow then .highImpedance
  else match l with
    | .deselected => .highImpedance
    | .selected => .byte (Config.sdoOpen s p 0)
    | .clocked first k =>
      if first = 0x5A then .byte 0
      else match (s.port p).reading with
        | none => .byte (Config.sdoOpen s p (k + 1))
        | some r => if first = 0xA5 then .byte (r.bytes.getD k 0) else .byte (Config.sdoOpen s p (k + 1))

end Sys2Proof.Machine
end

