-- ==== Sys2Proof/Machine/PanelFrames.lean ====
section
/-! DEFINITION. The bytes of the downstream frames that a chain port sends (6.2, R126): a view of the frames a chain has
sent. -/

namespace Sys2Proof.Machine

/-- The current item in a DISPLAY payload, 8 bytes: label, organizer and end minute, all zero where absent (R126). -/
def currentItemBytes : Option CurrentItem → List Byte
  | none => List.replicate 8 0
  | some c => bytes16 c.label ++ bytes32 c.organizer ++ bytes16 (BitVec.ofNat 16 c.endMinute)

/-- The next item in a DISPLAY payload, 5 bytes: day, start minute and label, all zero where absent (R126). -/
def nextItemBytes : Option NextItem → List Byte
  | none => List.replicate 5 0
  | some n => BitVec.ofNat 8 n.day :: bytes16 (BitVec.ofNat 16 n.startMinute) ++ bytes16 n.label

/-- The DISPLAY payload, 17 bytes (R126). -/
def Content.payload (revision : BitVec 8) (c : Content) : List Byte :=
  [revision, Config.displayStateCode c.state, Config.presenceBits c.current.isSome c.next.isSome] ++
  currentItemBytes c.current ++ nextItemBytes c.next ++ [Config.badgeCode c.badge]

/-- The kind of a downstream frame (6.2). -/
def DownFrame.kind : DownFrame → DownKind
  | .enumerate _ => .enumerate
  | .rollcall _ => .rollcall
  | .display _ _ _ => .display

/-- The address of a downstream frame: a position, or 0 to all (6.2). -/
def DownFrame.address : DownFrame → Byte
  | .enumerate _ | .rollcall _ => 0
  | .display address _ _ => BitVec.ofNat 8 address

/-- The payload of a downstream frame (6.2, R126). -/
def DownFrame.payload : DownFrame → List Byte
  | .enumerate nextAddress => [BitVec.ofNat 8 nextAddress]
  | .rollcall round => [round]
  | .display _ revision content => content.payload revision

/-- The bytes of a downstream frame that its check is taken over: header, address, length and payload (6.2). -/
def DownFrame.body (f : DownFrame) : List Byte :=
  Config.downHeader f.kind :: f.address :: BitVec.ofNat 8 f.payload.length :: f.payload

/-- The bytes of a downstream frame after its start marker (6.2). -/
def DownFrame.bytes (f : DownFrame) : List Byte := f.body ++ bytes16 (crc16 f.body)

end Sys2Proof.Machine
end

