-- ==== Sys2Proof/Safety.lean ====
section
/-! DEFINITION. What a safe run of the part is, in the terms the statements use: which parts of the state a command
leaves alone, a port ready for a command, which role and mode each command needs, and the invariants. -/

namespace Sys2Proof.Machine

/-! ### The parts of the state, for frames -/

/-- The parts of the state that a frame speaks of, together the whole of it. -/
inductive Part where
  | pending | choices | resetLow | clock | mode | buildings | rooms | displayRevs | records | revision | ring
  | clearMark | listings | vacancy | waitlist | chains | locations | displays | kitchens | profile | classes | transit
  | load | orders | roomUsage | kitchenUsage | chronic | bank | autoSnapshot | routes | roles | portStates | flags
  | queues | readings
deriving DecidableEq, Repr

/-- A room's record less its display revision. -/
def Room.settings (r : Room) : Room := { r with displayRev := 0 }

/-- Two states agree on a part. -/
def Part.agree (s t : State) : Part → Prop
  | .pending => t.pending = s.pending
  | .choices => t.choices = s.choices
  | .resetLow => t.resetLow = s.resetLow
  | .clock => t.clock = s.clock
  | .mode => t.site.mode = s.site.mode
  | .buildings => t.site.buildings = s.site.buildings
  | .rooms => ∀ r, (t.room r).settings = (s.room r).settings
  | .displayRevs => ∀ r, (t.room r).displayRev = (s.room r).displayRev
  | .records => t.book.pool = s.book.pool
  | .revision => t.book.rev = s.book.rev
  | .ring => t.book.ring = s.book.ring ∧ t.book.wrapped = s.book.wrapped
  | .clearMark => t.book.clearMark = s.book.clearMark
  | .listings => t.book.listings = s.book.listings
  | .vacancy => t.book.vacancy = s.book.vacancy
  | .waitlist => t.wait = s.wait
  | .chains => t.link.chains = s.link.chains
  | .locations => t.link.locations = s.link.locations
  | .displays => t.link.displays = s.link.displays
  | .kitchens => t.plan.kitchens = s.plan.kitchens
  | .profile => t.plan.profile = s.plan.profile
  | .classes => t.plan.classes = s.plan.classes
  | .transit => t.plan.transit = s.plan.transit
  | .load => t.plan.load = s.plan.load
  | .orders => t.plan.orders = s.plan.orders
  | .roomUsage => t.monitor.rooms = s.monitor.rooms
  | .kitchenUsage => t.monitor.kitchens = s.monitor.kitchens
  | .chronic => t.monitor.chronic = s.monitor.chronic
  | .bank => t.monitor.bank = s.monitor.bank
  | .autoSnapshot => t.monitor.autoSnapshot = s.monitor.autoSnapshot
  | .routes => t.routes = s.routes
  | .roles => ∀ p, (t.port p).roles = (s.port p).roles
  | .portStates => ∀ p, (t.port p).receiving = (s.port p).receiving ∧ (t.port p).base = (s.port p).base ∧
      (t.port p).slot = (s.port p).slot ∧ (t.port p).inHand = (s.port p).inHand
  | .flags => ∀ p, (t.port p).flags = (s.port p).flags
  | .queues => ∀ p, (t.port p).queue = (s.port p).queue
  | .readings => ∀ p, (t.port p).reading = (s.port p).reading

/-- `t` agrees with `s` on every part but those named. -/
def sameBut (changed : List Part) (s t : State) : Prop := ∀ q, q ∉ changed → q.agree s t

/-- The parts that the raising of a notice may change. -/
def noticeParts : List Part := [.flags, .queues, .readings]

/-- The parts that follow a change of a room's records (R92, R123). -/
def displayParts : List Part := [.displayRevs, .displays, .vacancy]

/-- The rooms other than one show and time what they did. -/
def sameOtherRooms (room : Nat) (s t : State) : Prop :=
  ∀ r, r ≠ room → t.display r = s.display r ∧ (t.room r).displayRev = (s.room r).displayRev ∧
    t.vacancy r = s.vacancy r

/-- The booking pool entries other than one are as they were, record and generation. -/
def sameOtherRecords (i : Nat) (s t : State) : Prop :=
  ∀ j, j ≠ i → Pool.entry t.book.pool j = Pool.entry s.book.pool j

/-- The order pool entries other than one are as they were, order and generation. -/
def sameOtherOrders (i : Nat) (s t : State) : Prop :=
  ∀ j, j ≠ i → Pool.entry t.plan.orders j = Pool.entry s.plan.orders j

/-- The waitlist positions other than one are as they were, entry and generation. -/
def sameOtherEntries (i : Nat) (s t : State) : Prop :=
  ∀ j, j ≠ i → Pool.entry t.wait.pool j = Pool.entry s.wait.pool j

/-- The chains other than one are as they were. -/
def sameOtherChains (c : Nat) (s t : State) : Prop := ∀ d, d ≠ c → t.chain d = s.chain d

/-- The ports as they are once a notice has been raised at a book revision. -/
def State.portsAfter (s : State) (rev : Nat) (e : Raised) : PerPort AgentPort :=
  (State.raise { s with book := { s.book with rev := rev } } e).ports

/-! ### A command at a port -/

/-- A port that will take a command frame (R191): RESET is high, the port is IDLE, or RECEIVING and IDLE when the
frame began, and no read is in progress. -/
def State.canTake (s : State) (p : Port) : Prop :=
  s.resetLow = false ∧ (s.port p).base = .idle ∧ (s.port p).inHand = none ∧ (s.port p).reading = none

/-- The state in which a port's command runs: the port is EXECUTING it (R191). -/
def State.taking (s : State) (p : Port) (tag : Byte) (cmd : Command) : State :=
  s.setPort p { s.port p with receiving := false, base := .executing, inHand := some (s.takenNow p tag cmd) }

/-- The state in which a port's response has been placed (R191, R193). -/
def State.placed (s : State) (p : Port) (tag : Byte) (r : Reply) : State :=
  s.setPort p { s.port p with slot := some ⟨tag, r⟩, base := .answerReady, inHand := none }

/-- The answer to a command refused with a code and nothing else. -/
def Reply.refusal (c : Code) : Reply := { code := c }

/-- The answer to a command refused with a code and what the code carries. -/
def Reply.refusalWith (c : Code) (data : Payload) : Reply := { code := c, payload := data }

/-- The answer to a command carried out as asked. -/
def Reply.okWith (data : Payload) : Reply := { code := .ok, payload := data }

/-- The port, tag and command of a row that is an agent command, with what a command of 12.6 names. -/
def commandOf? : Instr → Option (Port × Byte × Command)
  | .readRoom p tag r => some (p, tag, .readRoom r)
  | .configSite p tag n => some (p, tag, .configSite n)
  | .configRoom p tag a => some (p, tag, .configRoom a)
  | .openRoom p tag r => some (p, tag, .openRoom r)
  | .closeRoom p tag r => some (p, tag, .closeRoom r)
  | .closeRoomForce p tag r => some (p, tag, .closeRoomForce r)
  | .openDevice p tag => some (p, tag, .openDevice)
  | .reconfigure p tag => some (p, tag, .reconfigure)
  | .setMinuteSync p tag e => some (p, tag, .setMinuteSync e)
  | .setTime p tag d m n => some (p, tag, .setTime d m n)
  | .adjustTimeForward p tag n => some (p, tag, .adjustTimeForward n)
  | .adjustTimeBackward p tag n => some (p, tag, .adjustTimeBackward n)
  | .hold p tag a => some (p, tag, .hold a)
  | .confirm p tag h e => some (p, tag, .confirm h e)
  | .modify p tag h e a => some (p, tag, .modify h e a)
  | .move p tag h e a => some (p, tag, .move h e a)
  | .cancel p tag h e => some (p, tag, .cancel h e)
  | .block p tag a => some (p, tag, .block a)
  | .unblock p tag h e => some (p, tag, .unblock h e)
  | .queryBooking p tag h => some (p, tag, .queryBooking h)
  | .queryRoomDay p tag r d i => some (p, tag, .queryRoomDay r d i)
  | .listChanges p tag n => some (p, tag, .listChanges n)
  | .listNext p tag => some (p, tag, .listNext)
  | .waitAdd p tag a => some (p, tag, .waitAdd a)
  | .waitRemove p tag h => some (p, tag, .waitRemove h)
  | .queryWaitlist p tag i => some (p, tag, .queryWaitlist i)
  | .checkIn p tag h e => some (p, tag, .checkIn h e)
  | .extend p tag h e => some (p, tag, .extend h e)
  | .readLinkCounters p tag c => some (p, tag, .readLinkCounters c)
  | .chainReset p tag c _ => some (p, tag, .chainReset c)
  | .readPanels p tag c i => some (p, tag, .readPanels c i)
  | .configKitchen p tag k o n => some (p, tag, .configKitchen k o n)
  | .setCapacity p tag k w l => some (p, tag, .setCapacity k w l)
  | .defineClass p tag m w l n => some (p, tag, .defineClass m w l n)
  | .setTransit p tag b t0 t1 t2 t3 => some (p, tag, .setTransit b t0 t1 t2 t3)
  | .readKitchenSetup p tag x => some (p, tag, .readKitchenSetup x)
  | .kitchenLoad p tag k w n => some (p, tag, .kitchenLoad k w n)
  | .caterOrder p tag h e q => some (p, tag, .caterOrder h e q)
  | .caterChange p tag h e a => some (p, tag, .caterChange h e a)
  | .caterCancel p tag h e => some (p, tag, .caterCancel h e)
  | .caterDelivered p tag h e => some (p, tag, .caterDelivered h e)
  | .queryOrder p tag x => some (p, tag, .queryOrder x)
  | .snapshot p tag => some (p, tag, .snapshot)
  | .setAutoSnapshot p tag v => some (p, tag, .setAutoSnapshot v)
  | .readUsage p tag x => some (p, tag, .readUsage x)
  | .configRoute p tag a => some (p, tag, .configRoute a)
  | .readRoutes p tag n => some (p, tag, .readRoutes n)
  | .status p tag => some (p, tag, .status)
  | .narrowRoles p tag l m => some (p, tag, .narrowRoles l m)
  | .unknownCommand p tag w => some (p, tag, .bad w)
  | .resetAsserted | .coldReset _ _ _ | .secondTick | .minuteAdvance | .dayRollover | .minuteSync | .holdEnd _
  | .arrival _ | .graceEnd _ | .unverifiedEnd _ | .endDeadline _ | .waitExpiry _ | .autoEnd _ | .displayDeadline _
  | .cutoffDeadline _ | .dispatchDeadline _ | .lateDeadline _ | .commandSyncByte _ | .voidTransaction _ _
  | .commandFrameLengthFault _ _ | .commandFrameCompletes _ _ | .selRaisedEarly _ | .stalledClock _ | .readByte _
  | .readCompletesWhole _ | .readCutShort _ | .upstreamFrame _ _ _ | .quietTimer _ | .enumerationStart _
  | .roundStart _ | .roundTimeout _ | .displayFrameSent _ _ | .errorWindowEnd _ => none

/-- The port of a row that is an event of a port's lines. -/
def portEventOf? : Instr → Option Port
  | .commandSyncByte p | .voidTransaction p _ | .commandFrameLengthFault p _ | .commandFrameCompletes p _
  | .selRaisedEarly p | .readByte p | .readCompletesWhole p | .readCutShort p => some p
  | .stalledClock p => some p.port
  | _ => none

/-- A mask holds any one role. -/
def RoleMask.any (m : RoleMask) : Bool := m.sched || m.cater || m.facil

/-- A mask lets a port issue a command (R189, the table of 12.6; NARROW_ROLES by R190, a command that names none by
R193). -/
def permits (p : Port) (m : RoleMask) : Command → Bool
  | .readRoom _ | .status | .bad _ => true
  | .configSite _ | .configRoom _ | .openRoom _ | .closeRoom _ | .closeRoomForce _ | .openDevice | .reconfigure
  | .setMinuteSync _ | .setTime _ _ _ | .adjustTimeForward _ | .adjustTimeBackward _ | .block _ | .unblock _ _
  | .readLinkCounters _ | .chainReset _ | .readPanels _ _ | .configKitchen _ _ _ | .defineClass _ _ _ _
  | .setTransit _ _ _ _ _ | .setAutoSnapshot _ | .configRoute _ => m.facil
  | .hold _ | .confirm _ _ | .modify _ _ _ | .move _ _ _ | .cancel _ _ | .waitAdd _ | .waitRemove _ | .checkIn _ _
  | .extend _ _ => m.sched
  | .caterOrder _ _ _ | .caterChange _ _ _ | .caterCancel _ _ | .caterDelivered _ _ => m.cater
  | .setCapacity _ _ _ | .snapshot => m.facil || m.cater
  | .queryBooking _ | .queryRoomDay _ _ _ | .listChanges _ | .listNext | .queryWaitlist _ | .readKitchenSetup _
  | .kitchenLoad _ _ _ | .queryOrder _ | .readUsage _ | .readRoutes _ => RoleMask.any m
  | .narrowRoles letter _ => if portOfLetter letter = some p then RoleMask.any m else m.facil

/-- The commands refused with NOT_OPEN while the device is CONFIGURING (R8). -/
def needsServing : Command → Bool
  | .hold _ | .confirm _ _ | .modify _ _ _ | .move _ _ _ | .cancel _ _ | .block _ | .unblock _ _ | .checkIn _ _
  | .extend _ _ | .waitAdd _ | .waitRemove _ | .caterOrder _ _ _ | .caterChange _ _ _ | .caterCancel _ _
  | .caterDelivered _ _ => true
  | _ => false

/-- The commands refused with REV_EXHAUSTED before their other checks while the book revision is exhausted (R33);
CLOSE_ROOM with FORCE makes that check after its range check and its test for live records. -/
def needsRevision : Command → Bool
  | .hold _ | .confirm _ _ | .modify _ _ _ | .move _ _ _ | .cancel _ _ | .block _ | .unblock _ _ | .checkIn _ _
  | .extend _ _ | .caterOrder _ _ _ | .caterChange _ _ _ | .caterCancel _ _ | .caterDelivered _ _ => true
  | _ => false

/-- A command's own operands lie in the ranges its rules give, for the commands that name a booking or an order and
are answered by the handle checks of R40 and R159. -/
def State.fieldsInRange (s : State) : Command → Bool
  | .modify h _ a => !bookIndexOut h && !modifyOut a
  | .move h _ a => !bookIndexOut h && !moveOut a
  | .caterOrder h _ q => !bookIndexOut h && !s.requestOut q
  | .confirm h _ | .cancel h _ | .unblock h _ | .checkIn h _ | .extend h _ => !bookIndexOut h
  | .caterChange h _ a => !orderIndexOut h && !s.caterChangeOut a
  | .caterCancel h _ | .caterDelivered h _ => !orderIndexOut h
  | _ => true

/-- The booking or block that a command changes: handle, kind and expected revision (R40). -/
def changesRecord? : Command → Option (Handle × RecKind × Nat)
  | .confirm h e | .modify h e _ | .move h e _ | .cancel h e | .checkIn h e | .extend h e | .caterOrder h e _ =>
    some (h, .booking, e)
  | .unblock h e => some (h, .block, e)
  | _ => none

/-- The order that a command changes: handle and expected revision (R159). -/
def changesOrder? : Command → Option (Handle × Nat)
  | .caterChange h e _ | .caterCancel h e | .caterDelivered h e => some (h, e)
  | _ => none

/-- A port will take a command, its mask lets it issue it, and neither mode nor exhaustion refuses it (R8, R33, R189,
R191): the command's own checks come next. -/
def State.ready (s : State) (p : Port) (cmd : Command) : Prop :=
  s.canTake p ∧ permits p (s.port p).roles cmd = true ∧ (needsServing cmd = true → s.serving = true) ∧
  (needsRevision cmd = true → s.exhausted = false)

/-- The lowest free entry of a pool of `cap` entries (R20, R62, R154). -/
def isLowestFree {α : Type} (p : Pool α) (cap i : Nat) : Prop :=
  i < cap ∧ Pool.item? p i = none ∧ ∀ j, j < i → Pool.item? p j ≠ none

/-- No live record of a room and plane has a padded interval that overlaps a half-open run of slots (R24); a record's
own entry is left out of its test. -/
def State.freeRun (s : State) (room plane lo hi : Nat) (own : Option Nat) : Prop :=
  ∀ e, e ∈ s.liveRecs → e.2.room = room → e.2.plane = plane → own ≠ some e.1 →
    ¬ (lo < e.2.padEnd ∧ e.2.padStart < hi)

/-- A room's display stands as the book and the tables give it, and its revision has advanced by one from `s` if its
content differs from the one held then (R121 to R124). -/
def displayFollows (s u : State) (room : Nat) : Prop :=
  u.display room = ⟨u.contentOf room, u.displayDeadlineOf room⟩ ∧
  (u.room room).displayRev =
    if u.contentOf room = (s.display room).content then (s.room room).displayRev else (s.room room).displayRev + 1

/-- A room's vacancy timer has the subject the book gives, with its minutes kept if the subject is that of `s` and 0 if
not (R92). -/
def timerFollows (s u : State) (room : Nat) : Prop :=
  (u.vacancy room).subject = u.vacancySubject room ∧
  (u.vacancy room).minutes =
    if (u.vacancy room).subject = (s.vacancy room).subject then (s.vacancy room).minutes else 0

/-- What follows a change of one room's records, other rooms being left as they are (R92, R123). -/
def roomFollows (s u : State) (room : Nat) : Prop :=
  displayFollows s u room ∧ timerFollows s u room ∧ sameOtherRooms room s u

/-- Every room's display follows (R123). -/
def allDisplaysFollow (s u : State) : Prop := ∀ room, room < Config.roomCount → displayFollows s u room

/-- The share of an order in a window of a kitchen (R140, R143). -/
def Order.shareIn (o : Order) (k g : Nat) : Nat :=
  if o.kitchen = k then ((o.shares.filter (fun w => w.1 = (g : Int))).map Prod.snd).sum else 0

/-- The counters a room has after the finish of record `r`, as it stands at its finish (R169). Where the arrival slot lies
after the end slot the manual gives no difference and the occupied slots take a free value (log entry 5). -/
def usageAfter (u : RoomUsage) (r : Rec) (fin : FinState) (actor : Actor) : RoomUsage :=
  { booked := min (u.booked + (r.stop - r.start)) 65535
    occupied := match r.arrival with
      | none => min u.occupied 65535
      | some a => min (u.occupied + if a ≤ r.stop then r.stop - a else Config.occupiedOpen r.stop a) 65535
    noShows := if fin = .released then min (u.noShows + 1) 255 else min u.noShows 255
    earlyEnds := if fin = .ended ∧ actor = .panel then min (u.earlyEnds + 1) 255 else min u.earlyEnds 255
    walkups := if r.flags.walkup then min (u.walkups + 1) 255 else min u.walkups 255
    extensions := min (u.extensions + r.extensions) 255
    unverified := if fin = .ended ∧ r.flags.unverified = true then min (u.unverified + 1) 255 else min u.unverified 255 }

/-- A finish of record `r` of entry `i`, as it stands at its finish, seen from before and after it (R30, R31, R35, R169):
the entry is freed with its generation advanced, one revision advance is stamped into a tombstone at the ring's tail,
and the Usage Monitor counts a booking. -/
def finished (s u : State) (i : Nat) (r : Rec) (fin : FinState) (actor : Actor) : Prop :=
  Pool.entry u.book.pool i = ⟨(Pool.entry s.book.pool i).gen + 1, none⟩ ∧ sameOtherRecords i s u ∧
  u.book.rev = satAdd 4294967295 s.book.rev 1 ∧
  u.book.ring = (if s.book.ring.length < 256 then s.book.ring else s.book.ring.tail) ++
    [⟨s.recHandle i, tombKind r.kind, fin, satAdd 4294967295 s.book.rev 1⟩] ∧
  u.book.wrapped = (s.book.wrapped || decide (256 ≤ s.book.ring.length)) ∧
  u.roomUsage r.room = (if r.kind = .block then s.roomUsage r.room else usageAfter (s.roomUsage r.room) r fin actor) ∧
  (∀ q, q ≠ r.room → u.roomUsage q = s.roomUsage q ∧ u.chronicState q = s.chronicState q) ∧
  u.chronicState r.room = (if r.kind = .block then s.chronicState r.room else { s.chronicState r.room with
    dayNoShows := min ((s.chronicState r.room).dayNoShows + if fin = .released then 1 else 0) 255 })

/-- The parts a finish may change, the order of the record apart. -/
def finishParts : List Part :=
  [.displayRevs, .records, .revision, .ring, .displays, .vacancy, .roomUsage, .chronic] ++ noticeParts

/-- The parts an act on an order may change (R156). -/
def orderParts : List Part := [.orders, .revision, .ring, .load] ++ noticeParts

/-- The parts a check-in may change (R77). -/
def checkInParts : List Part := [.records, .revision, .displayRevs, .displays, .vacancy] ++ noticeParts

/-- The finishing facts that a notice carries (11.2). -/
def factsDatum (r : Rec) (fin : FinState) : Datum := .facts r.room r.plane r.start r.stop fin r.owner r.flags

/-- The ports once a change of a booking or block by an actor has raised BOOKING_CHANGED, which it does for an actor
other than the owner (R55). -/
def State.portsAfterChange (s : State) (rev : Nat) (h : Handle) (owner : Owner) (actor : Actor) (cause : Cause)
    (data : List Datum) : PerPort AgentPort :=
  if actorIsOther owner actor then
    s.portsAfter rev { kind := .bookingChanged, subject := .booking h, owner := ownerPort owner, hi := .actor actor,
                       lo := .cause cause, data := data }
  else s.ports

/-- A deadline row that finishes record `r` of entry `i` by the clock, with the finishing state it gives (R27 to R29,
R82). -/
def clockFinish (s : State) (i : Nat) (r : Rec) (c : Instr) (fin : FinState) : Prop :=
  (c = .holdEnd i ∧ r.deadline.kind = .holdEnd ∧ fin = .expired) ∨
  (c = .graceEnd i ∧ r.deadline.kind = .graceEnd ∧ s.graceReleases r.room = true ∧ fin = .released) ∨
  (c = .unverifiedEnd i ∧ r.deadline.kind = .unverifiedEnd ∧ fin = .ended) ∨
  (c = .endDeadline i ∧ r.deadline.kind = .endAt ∧ fin = if r.kind = .block then .removed else .ended)

/-- A finished booking's order, as it has followed the finish (R164): an ACCEPTED order is withdrawn with its tombstone and
its load, a PREPARING or DISPATCHED one is forfeited and unlinked with its load kept, another is unlinked. -/
def orderFollowed (s u : State) (h : Handle) (o : Order) : Prop :=
  u.book.rev = satAdd 4294967295 s.book.rev 2 ∧ sameOtherOrders h.index s u ∧
  (o.state = .accepted →
    Pool.entry u.plan.orders h.index = ⟨(Pool.entry s.plan.orders h.index).gen + 1, none⟩ ∧
    u.book.ring.getLast? = some ⟨h, .order, .withdrawn, satAdd 4294967295 s.book.rev 2⟩ ∧
    ∀ k g, g < Config.windowCount → (u.loadEntry k g).load = (s.loadEntry k g).load - o.shareIn k g) ∧
  (o.state = .preparing ∨ o.state = .dispatched →
    u.order? h.index = some { o with state := .forfeit, deadline := none, booking := none
                                     rev := satAdd 4294967295 s.book.rev 2 } ∧ Part.agree s u .load) ∧
  (o.state = .delivered ∨ o.state = .forfeit →
    u.order? h.index = some { o with booking := none, rev := satAdd 4294967295 s.book.rev 2 } ∧
    Part.agree s u .load)

/-- A batch of a listing (R59, R60): the up to four candidates of lowest revision, ascending, and whether it carries END,
no candidate remaining above its last item or, for an empty batch, above the cursor. -/
def isBatch (s : State) (l : Listing) (items : List ListItem) (final : Bool) : Prop :=
  (∃ rest, (items ++ rest).Perm (s.candidates l) ∧ ∀ x y, x ∈ items → y ∈ rest → x.rev ≤ y.rev) ∧
  items.length = min 4 (s.candidates l).length ∧ items.Pairwise (fun x y => x.rev ≤ y.rev) ∧
  (final = true ↔ ∀ x, x ∈ s.candidates l → x.rev ≤ cursorAfter l.cursor items)

/-- The listing a batch leaves open, or none after END (R59, R60). -/
def listingLeft (l : Listing) (items : List ListItem) (final : Bool) : Option Listing :=
  if final then none else some { ceiling := l.ceiling, cursor := cursorAfter l.cursor items, gapToReport := false }

/-- A placement of a waitlist entry fits, as the five items of R71 have it. -/
def placementFits (s : State) (e : WaitEntry) (room start : Nat) : Prop :=
  (s.room room).isOpen = true ∧ e.attendees ≤ (s.room room).seats ∧ ¬ (e.plane = 0 ∧ start < s.currentSlot) ∧
  start + e.length ≤ 288 ∧
  s.freeRun room e.plane (start - (s.room room).setup) (min (start + e.length + (s.room room).clear) 288) none

/-- The booking a promotion creates (R72), with the order link and the CATER_LOST flag of R73. -/
def promotedBooking (s : State) (e : WaitEntry) (room start : Nat) (order : Option Handle) (lost : Bool) : Rec :=
  { kind := .booking, room := room, plane := e.plane, start := start, stop := start + e.length,
    setup := (s.room room).setup, clear := (s.room room).clear, state := .held, owner := .port e.requester,
    organizer := e.organizer, label := e.label, attendees := some e.attendees,
    deadline := ⟨.holdEnd, min (s.now + 10) ((e.plane : Int) * 1440 + 5 * (start : Int)), false⟩, arrival := none,
    rev := satAdd 4294967295 s.book.rev 1, order := order,
    flags := { unverified := false, caterLost := lost, walkup := false, promoted := true }, extensions := 0 }

/-- What a promotion does beside its booking and its order (R72): the entry is freed with its fate, and the booking takes
entry `i`. -/
def promotedEntry (s t : State) (w i : Nat) : Prop :=
  Pool.entry t.wait.pool w = ⟨(Pool.entry s.wait.pool w).gen + 1, none⟩ ∧ sameOtherEntries w s t ∧
  t.wait.order = s.wait.order.filter (fun v => !(v == w)) ∧
  Table.read none t.wait.fates w = some ⟨(Pool.entry s.wait.pool w).gen, .promoted (s.recHandle i)⟩ ∧
  t.recHandle i = s.recHandle i ∧ sameOtherRecords i s t

/-- An order as an admission stores it at its creation, or a re-admission changes it to (R145, R147, R157). -/
def admittedOrder (o : Order) (q : CaterRequest) (m : Admission) : Order :=
  { o with kitchen := m.kitchen, cls := q.cls, covers := m.covers, offset := q.offset, load := m.load, lead := m.lead
           last := m.last, cutoff := m.cutoff, dispatch := m.dispatch, delivery := m.delivery
           deadline := some ⟨.cutoff, m.cutoff, false⟩, clamped := m.clamped }

/-- The load table with an order's shares added and every OVER mark as it stood (R145). -/
def loadAdded (s u : State) (o : Order) : Prop :=
  ∀ k g, g < Config.windowCount →
    u.loadEntry k g = { s.loadEntry k g with load := (s.loadEntry k g).load + o.shareIn k g }

/-- The record of a position after an enumeration that noted `noted` for it (R105, R132), its due mark apart. -/
def enumeratedPosition (q : Position) (noted : Option (BitVec 32)) : Position :=
  match noted with
  | none => { Position.cold with due := false }
  | some u =>
    if q.unitId = some u ∧ q.presence ≠ .absent then
      { q with good := 0, miss := 0, answered := false, pendingSensor := none, lastSeq := none, due := false }
    else { Position.cold with unitId := some u, presence := .seeking
                              faults := if q.unitId = some u then q.faults else ⟨false, false, false⟩ }

/-- What the end of a chain's enumeration leaves, `b` being the chain before it (R104 to R106): the positions rebuilt from
the unit ids noted, the rooms located, and a round begun where panels were found. -/
def enumerationEnded (s u : State) (c : Nat) (b : Chain) : Prop :=
  (∀ p, p ≤ 40 → { u.position c p with due := false } = enumeratedPosition (b.position p) (b.notedAt p)) ∧
  (u.chain c).count = b.highest ∧
  ((u.chain c).gap = true ↔ ∃ p, 1 ≤ p ∧ p ≤ b.highest ∧ b.notedAt p = none) ∧
  (u.chain c).activity = (if 0 < b.highest then .rollcall else .wait) ∧ (u.chain c).quietAt = none ∧
  (0 < b.highest → (u.chain c).sent = [.rollcall b.round] ∧ (u.chain c).roundNow = b.round ∧
    (u.chain c).round = b.round + 1 ∧ (u.chain c).lastAnswered = 0) ∧
  (∀ room v, (s.room room).unitId = some v →
    u.location room =
      match (((List.range 41).filter (fun p => decide (b.notedAt p = some v))).head?) with
      | some p => some ⟨c, p⟩
      | none => if (s.location room).map Location.chain = some c then none else s.location room) ∧
  (∀ room, (s.room room).unitId = none →
    u.location room = if (s.location room).map Location.chain = some c then none else s.location room) ∧
  (∀ d, d ≠ c → { u.chain d with positions := [] } = { s.chain d with positions := [] } ∧
    ∀ p, { u.position d p with due := false } = { s.position d p with due := false }) ∧
  sameBut ([.chains, .locations, .displayRevs, .displays] ++ noticeParts) s u

/-- An upstream frame passes the checks of R99 that do not look at the chain: it is not malformed (R98), its check
matches and its RERR bit is clear. -/
def frameGood (f : UpFrame) : Prop :=
  f.cut = false ∧ f.payload.length = f.length.toNat ∧ f.kind ≠ none ∧ f.address.toNat ≤ 40 ∧ f.length.toNat ≤ 48 ∧
  (f.kind = some .enumReply → f.length = 4) ∧ (f.kind = some .rollReply → f.length = 6) ∧
  f.check = crc16 (f.header :: f.address :: f.length :: f.payload) ∧ f.rerr = false

/-- A reply of the kind the chain's activity waits for, in its turn (R99, R103, R109). -/
def frameDue (ch : Chain) (f : UpFrame) : Prop :=
  (f.kind = some .enumReply ∧ ch.activity = .enumerating ∧ ch.highest < f.address.toNat) ∨
  (f.kind = some .rollReply ∧ ch.activity = .rollcall ∧ ch.lastAnswered < f.address.toNat ∧
    f.address.toNat ≤ ch.count ∧ f.payload.head? = some ch.roundNow)

/-- A chain after a good, due ENUM_REPLY that reports a unit id (R99, R100, R103). -/
def Chain.afterEnumReply (ch : Chain) (address : Nat) (v : BitVec 32) : Chain :=
  { ch with valid := min (ch.valid + 1) 65535, noted := Table.write none ch.noted address (some v), highest := address
            quietAt := some (ch.time + 10) }

/-- No unit id is bound to two rooms (R3). -/
def State.unitsDistinct (s : State) : Prop :=
  ∀ r q v, (s.room r).unitId = some v → (s.room q).unitId = some v → r = q

/-- A position's record after a good reply, its due mark apart: presence (R110), the two-reply debounce (R130), the key
sequence (R128) and the shown revision (R127). -/
def repliedPosition (q : Position) (f : UpFrame) (seq : BitVec 4) (shown : Byte) : Position :=
  let value := if f.faults.sensor then none else match f.sensor with
    | .occupied => some Occupancy.occupied
    | .vacant => some Occupancy.vacant
    | .none => none
  { q with
    miss := 0, good := min (q.good + 1) 2, answered := true, faults := f.faults
    presence := if (q.presence = .seeking ∨ q.presence = .lost) ∧ 2 ≤ q.good + 1 then .linked else q.presence
    debounced := if value ≠ none ∧ q.pendingSensor = value ∧ q.debounced ≠ value then value else q.debounced
    pendingSensor := if value = none ∨ q.debounced = value ∨ q.pendingSensor = value then none else value
    lastSeq := if f.key = .none then q.lastSeq else some seq
    shown := shown, due := false }

/-- A good, due ROLL_REPLY, with its sequence number and its shown revision (R109, R110). -/
def rollReply (s : State) (c : Nat) (f : UpFrame) (seq : BitVec 4) (shown : Byte) : Prop :=
  c < 4 ∧ frameGood f ∧ f.kind = some .rollReply ∧ frameDue (s.chain c) f ∧
  f.payload[3]?.map (fun b => b.setWidth 4) = some seq ∧ f.payload[4]? = some shown

/-- The state once a good reply from position `p`, which holds a unit id, has been taken in full (R109, R110, R125 to
R131): `u` is that state, before the end of the round that a reply from the last position makes. -/
def replyTaken (s u : State) (c elapsed p : Nat) (f : UpFrame) (seq : BitVec 4) (shown : Byte) : Prop :=
  { u.position c p with due := false } = repliedPosition (s.position c p) f seq shown ∧
  (∀ k, k ≠ p → u.position c k = s.position c k) ∧
  { u.chain c with positions := [] } = { s.chain c with
    time := (s.chain c).time + elapsed, valid := min ((s.chain c).valid + 1) 65535, lastAnswered := p
    positions := [] } ∧
  sameOtherChains c s u ∧
  (u.position c p).due = ((s.position c p).due || !(shown == (match s.boundRoom c p with
    | none => 0
    | some room => (u.room room).displayRev))) ∧
  (s.boundRoom c p = none → sameBut ([.chains] ++ noticeParts) s u) ∧
  ((u.position c p).presence = (s.position c p).presence →
    ¬ ((u.position c p).debounced = some .occupied ∧ (s.position c p).debounced ≠ some .occupied) →
    (f.key = .none ∨ (s.position c p).lastSeq = none ∨ (s.position c p).lastSeq = some seq ∨
      s.boundRoom c p = none ∨ s.serving = false ∨ (u.position c p).presence ≠ .linked → sameBut [.chains] s u) ∧
    (∀ room k, f.key ≠ .none → (s.position c p).lastSeq = some k → k ≠ seq → s.boundRoom c p = some room →
      s.serving = true → (u.position c p).presence = .linked →
      ∃ t, sameBut [.chains] s t ∧ sameBut [.chains] (t.press room f.key) u))

/-- A good reply from a gap position, which holds no unit id, only advances the turn (R110, log entry 12). -/
def gapReplyTaken (s u : State) (c elapsed p : Nat) : Prop :=
  u.chain c = { s.chain c with
    time := (s.chain c).time + elapsed, valid := min ((s.chain c).valid + 1) 65535, lastAnswered := p } ∧
  sameOtherChains c s u ∧ sameBut [.chains] s u

/-- A chain whose next round must wait: an enumeration is pending, no panel is enumerated, or the next round start is not
reached by the chain's timer (R101, R108). -/
def Chain.mustWait (ch : Chain) (time : Nat) : Prop :=
  ch.enumPending = true ∨ ch.count = 0 ∨ ∀ t, ch.nextRoundStart = some t → time < t

/-! ### Invariants -/

/-- A queue in priority order, highest first (R183). -/
def priorityOrdered : List Notice → Bool
  | [] => true
  | n :: l => l.all (fun m => decide (m.priority ≤ n.priority)) && priorityOrdered l

/-- No two notices of a queue have the same kind and subject (R183). -/
def topicsDistinct : List Notice → Bool
  | [] => true
  | n :: l => !l.any (Notice.sameTopic n) && topicsDistinct l

/-- A queue as R183 keeps it. -/
def queueOk (q : List Notice) : Bool :=
  decide (q.length ≤ Config.queueCap) && topicsDistinct q && priorityOrdered q

/-- Every port's queue is as R183 keeps it. -/
def State.queuesOk (s : State) : Prop := ∀ p, queueOk (s.port p).queue = true

/-- A port's slot and command agree with its state, as the table of 12.3 has them: the slot is full exactly in
ANSWER_READY, a command is in hand exactly in EXECUTING, and no read runs while a frame is received. -/
def AgentPort.consistent (a : AgentPort) : Prop :=
  (a.slot.isSome ↔ a.base = .answerReady) ∧ (a.inHand.isSome ↔ a.base = .executing) ∧
  (a.receiving = true → a.reading = none)

/-- A read of a response is a read of the response in the slot (R195). -/
def AgentPort.readsSlot (a : AgentPort) : Prop :=
  ∀ r x, a.reading = some r → r.frame = .response x → a.slot = some x

/-- Every port's parts agree. -/
def State.portsOk (s : State) : Prop := ∀ p, (s.port p).consistent ∧ (s.port p).readsSlot

/-- Every live record and tombstone carries a revision no greater than the counter, which fits 32 bits (R32, R33). -/
def State.revisionsOk (s : State) : Prop :=
  s.book.rev ≤ Config.revMax ∧ (∀ i r, s.rec? i = some r → r.rev ≤ s.book.rev) ∧
  (∀ j o, s.order? j = some o → o.rev ≤ s.book.rev) ∧ (∀ t, t ∈ s.book.ring → t.rev ≤ s.book.rev)

/-- The ring holds at most 256 tombstones, in non-decreasing revision (R35). -/
def State.ringOk (s : State) : Prop :=
  s.book.ring.length ≤ Config.ringCap ∧ s.book.ring.Pairwise (fun a b => a.rev ≤ b.rev)

/-- Room counters within their widths (10.1). -/
def RoomUsage.fits (u : RoomUsage) : Bool :=
  decide (u.booked ≤ 65535) && decide (u.occupied ≤ 65535) && decide (u.noShows ≤ 255) && decide (u.earlyEnds ≤ 255) &&
  decide (u.walkups ≤ 255) && decide (u.extensions ≤ 255) && decide (u.unverified ≤ 255)

/-- Kitchen counters within their widths (10.1). -/
def KitchenUsage.fits (u : KitchenUsage) : Bool :=
  decide (u.ordersDelivered ≤ 65535) && decide (u.coversDelivered ≤ 65535) && decide (u.ordersForfeited ≤ 65535) &&
  decide (u.coversForfeited ≤ 65535)

/-- A chain's counters within their widths (R100, R115). -/
def Chain.countersFit (ch : Chain) : Bool :=
  decide (ch.valid ≤ 65535) && decide (ch.discards ≤ 255) && decide (ch.windowDiscards ≤ 255) && decide (ch.streak ≤ 5)

/-- Every usage counter, live and banked, every chronic count, link counter and position streak, every room's vacancy
minutes, every record's extensions and every queued notice's transitions stay within their stated widths (R88, R93,
R100, R109, R111, R115, R168, R184). -/
def State.countersOk (s : State) : Prop :=
  (∀ r, (s.roomUsage r).fits = true) ∧ (∀ k, (s.kitchenUsage k).fits = true) ∧
  (∀ r, (Table.read RoomUsage.zero s.monitor.bank.rooms r).fits = true) ∧
  (∀ k, (Table.read KitchenUsage.zero s.monitor.bank.kitchens k).fits = true) ∧
  (∀ r, (s.chronicState r).dayNoShows ≤ 255 ∧ (s.chronicState r).streak ≤ 3) ∧
  (∀ c, (s.chain c).countersFit = true) ∧ (∀ c p, (s.position c p).good ≤ 2 ∧ (s.position c p).miss ≤ 3) ∧
  (∀ r, (s.vacancy r).minutes ≤ 20) ∧ (∀ i r, s.rec? i = some r → r.extensions ≤ 8) ∧
  (∀ p n, n ∈ (s.port p).queue → 1 ≤ n.transitions ∧ n.transitions ≤ 15)

/-- A live record's room, plane, slots and length (R19). -/
def Rec.inPlane (r : Rec) : Prop :=
  r.room < Config.roomCount ∧ r.plane ≤ 7 ∧ r.start < r.stop ∧ r.stop ≤ 288 ∧
  (r.kind = .booking → r.stop - r.start ≤ 144)

/-- A waitlist entry's rooms, plane and length (R64). -/
def WaitEntry.inPlane (e : WaitEntry) : Prop :=
  (∀ r, r ∈ e.rooms → r < Config.roomCount) ∧ e.plane ≤ 7 ∧ 1 ≤ e.length ∧ e.length ≤ 144

/-- Two records stand in different rooms or planes, or their padded intervals are disjoint (R24). -/
def Rec.apart (r q : Rec) : Prop :=
  r.room ≠ q.room ∨ r.plane ≠ q.plane ∨ r.padEnd ≤ q.padStart ∨ q.padEnd ≤ r.padStart

/-- Only rooms that exist are open, every live record lies within one plane, every entry that may be promoted too, and
within each room and plane the padded intervals are pairwise disjoint (R5, R19, R24). -/
def State.bookSound (s : State) : Prop :=
  (∀ r, (s.room r).isOpen = true → r < Config.roomCount) ∧
  (∀ i r, s.rec? i = some r → r.inPlane) ∧ (∀ w e, s.waitEntry? w = some e → e.inPlane) ∧
  (∀ i j r q, s.rec? i = some r → s.rec? j = some q → i ≠ j → r.apart q)

/-- The sum of a window's shares over the live orders (R140). -/
def State.sharesIn (s : State) (k g : Nat) : Nat :=
  ((List.range Config.orderCap).map (fun j => match s.order? j with
    | none => 0
    | some o => o.shareIn k g)).sum

/-- The orders held lie in the order pool and end their preparation inside the load table (R142, R154). -/
def State.ordersPlaced (s : State) : Prop :=
  ∀ j o, s.order? j = some o → j < Config.orderCap ∧ o.last < (Config.windowCount : Int)

/-- For every kitchen and every window in the horizon, the committed load equals the sum of the window's shares over
the live orders (R140). -/
def State.loadOk (s : State) : Prop :=
  s.ordersPlaced ∧ ∀ k g, g < Config.windowCount → (s.loadEntry k g).load = s.sharesIn k g

/-- A window's committed load exceeds its limit only while it is marked OVER (R149). -/
def State.overOk (s : State) : Prop :=
  ∀ k g, g < Config.windowCount → s.limit k g < (s.loadEntry k g).load → (s.loadEntry k g).isOver = true

/-- While the device is CONFIGURING it holds no record, no entry, no order and no load (R8, R10). -/
def State.emptyWhileConfiguring (s : State) : Prop :=
  s.serving = false → (∀ i, s.rec? i = none) ∧ s.wait.order = [] ∧ (∀ w, s.waitEntry? w = none) ∧
    (∀ j, s.order? j = none) ∧ (∀ k g, s.loadEntry k g = LoadEntry.cold)

/-- Every table and pool is in its one canonical form. -/
def State.tablesOk (s : State) : Prop :=
  Table.wf Room.cold s.site.rooms = true ∧ Table.wf PoolEntry.fresh s.book.pool = true ∧
  Table.wf Vacancy.cold s.book.vacancy = true ∧ Table.wf PoolEntry.fresh s.wait.pool = true ∧
  Table.wf none s.wait.fates = true ∧ Table.wf Chain.cold s.link.chains = true ∧
  Table.wf none s.link.locations = true ∧ Table.wf Display.cold s.link.displays = true ∧
  Table.wf Kitchen.cold s.plan.kitchens = true ∧ Table.wf 0 s.plan.profile = true ∧
  Table.wf none s.plan.classes = true ∧ Table.wf 0 s.plan.transit = true ∧
  Table.wf LoadEntry.cold s.plan.load = true ∧ Table.wf PoolEntry.fresh s.plan.orders = true ∧
  Table.wf RoomUsage.zero s.monitor.rooms = true ∧ Table.wf KitchenUsage.zero s.monitor.kitchens = true ∧
  Table.wf RoomUsage.zero s.monitor.bank.rooms = true ∧ Table.wf KitchenUsage.zero s.monitor.bank.kitchens = true ∧
  Table.wf ChronicState.cold s.monitor.chronic = true ∧ Table.wf Route.cold s.routes = true ∧
  ∀ c, Table.wf Position.cold (s.chain c).positions = true ∧ Table.wf none (s.chain c).noted = true

end Sys2Proof.Machine
end

