-- ==== Sys2Proof/Certificates/Slice0/Obligations.lean ====
section
/-! DEFINITION. The statements for the provers: what the rules of spec/ say that the part does, in the terms of
Safety.lean. A statement `∃ u, exec … = .next …` says that the command or event completes, and from what state `u` its
answer is placed or its scan is run. -/

open Sys2Proof Sys2Proof.Machine

/-! ### The step and the ports -/

/-- A step runs the command at the front of the queue with the queue's rest; on an empty queue the part idles (the
model's choice, log entry 1). -/
def Obligations.StepRunsFrontCommand : Prop :=
  (∀ (s : State) (c : Instr) (rest : List Instr), s.pending = c :: rest → step s = exec c (s.withPending rest)) ∧
  (∀ s : State, s.pending = [] → step s = .next s)

/-- R193: every command and event answers a next state, and none touches the queue of waiting commands. The queue is the
model's own (log entry 1); that nothing faults or is refused outside a response is log entry 13; that COLD_RESET keeps
the queue is log entry 21. -/
def Obligations.QueueIsUntouched : Prop :=
  ∀ (c : Instr) (s : State), ∃ t, exec c s = .next t ∧ t.pending = s.pending

/-- R191: a command frame that arrives at a port whose state, or remembered state, is not IDLE is ignored with
COLLISION; one the port has taken is answered as it would have been on arrival. Where the manual is silent it follows
the model's choice (log entry 7). -/
def Obligations.CommandTakenOnlyWhenIdle : Prop :=
  (∀ (c : Instr) (p : Port) (tag : Byte) (cmd : Command) (s : State), commandOf? c = some (p, tag, cmd) →
    s.resetLow = false → (s.port p).base ≠ .idle → (s.port p).reading = none →
    (s.port p).holdsCommand tag cmd = false →
    exec c s = .next (s.setPort p { s.port p with
      receiving := false, flags := { (s.port p).flags with collision := true } })) ∧
  (∀ (c : Instr) (p : Port) (tag : Byte) (cmd : Command) (s : State), commandOf? c = some (p, tag, cmd) →
    s.canTake p → exec c (s.taking p tag cmd) = exec c s)

/-- R197: the RESET line held low makes every port inactive: no attention line is active, every SDO line is at high
impedance, and no command or event of a port has an effect. Where the manual is silent it follows the model's choice
(log entry 21). -/
def Obligations.ResetLineHoldsPorts : Prop :=
  (∀ s : State, exec .resetAsserted s = .next { s with resetLow := true }) ∧
  (∀ (s : State) (p : Port), s.resetLow = true → s.attention p = false) ∧
  (∀ (s : State) (p : Port) (l : Lines), s.resetLow = true → s.sdo p l = .highImpedance) ∧
  (∀ (c : Instr) (p : Port) (tag : Byte) (cmd : Command) (s : State), s.resetLow = true →
    commandOf? c = some (p, tag, cmd) → exec c s = .next s) ∧
  (∀ (c : Instr) (p : Port) (s : State), s.resetLow = true → portEventOf? c = some p → exec c s = .next s)

/-- R197, R189: at the release of RESET every port is IDLE with nothing in its slot, queue and flags and the mask its
straps give, and every block holds its cold-reset values. Where the manual is silent it follows the model's choice
(log entries 21 (what the model keeps) and 26). -/
def Obligations.ColdResetGivesColdState : Prop :=
  ∀ (a b c : RoleMask) (s : State), ∃ t, exec (.coldReset a b c) s = .next t ∧
    t.pending = s.pending ∧ t.resetLow = false ∧
    t.clock = ⟨0, 0, 0, false, false, false⟩ ∧ t.site.mode = .configuring ∧ t.site.buildings = 0 ∧
    (∀ r, t.room r = Room.cold) ∧
    t.book.rev = 0 ∧ t.book.ring = [] ∧ t.book.wrapped = false ∧ t.book.clearMark = none ∧
    (∀ p, t.book.listings.at p = none) ∧ (∀ r, t.vacancy r = ⟨none, 0⟩) ∧
    (∀ i, Pool.entry t.book.pool i = ⟨0, none⟩) ∧ (∀ i, Pool.entry t.wait.pool i = ⟨0, none⟩) ∧
    t.wait.order = [] ∧ (∀ w, Table.read none t.wait.fates w = none) ∧
    (∀ i, Pool.entry t.plan.orders i = ⟨0, none⟩) ∧
    (∀ d, (t.chain d).activity = .enumerating ∧ (t.chain d).count = 0 ∧ (t.chain d).gap = false ∧
      (t.chain d).highest = 0 ∧ (t.chain d).valid = 0 ∧ (t.chain d).discards = 0 ∧
      (t.chain d).windowDiscards = 0 ∧ (t.chain d).degraded = false ∧ (t.chain d).fault = false ∧
      (t.chain d).streak = 0 ∧ (t.chain d).enumPending = false ∧ (t.chain d).round = 0 ∧
      (t.chain d).sent = [.enumerate 1]) ∧
    (∀ d p, t.position d p = { unitId := none, presence := .absent, good := 0, miss := 0, answered := false
                               faults := ⟨false, false, false⟩, lastSeq := none, debounced := none
                               pendingSensor := none, shown := 0, due := false }) ∧
    (∀ r, t.location r = none ∧ (t.display r).content = ⟨.closed, none, none, .none⟩ ∧
      (t.display r).deadline = none) ∧
    (∀ k, t.kitchen k = ⟨false, 0⟩) ∧ (∀ k g, t.capacity k g = 0 ∧ t.loadEntry k g = ⟨0, false⟩) ∧
    (∀ m, t.menuClass m = none) ∧ (∀ d k, t.transit d k = 0) ∧
    (∀ r, t.roomUsage r = RoomUsage.zero ∧ t.chronicState r = ⟨0, 0, false⟩) ∧
    (∀ k, t.kitchenUsage k = KitchenUsage.zero) ∧ t.monitor.bank.seq = 0 ∧ t.monitor.bank.kind = .none ∧
    t.monitor.bank.day = 0 ∧ t.monitor.bank.minute = 0 ∧
    (∀ r, Table.read RoomUsage.zero t.monitor.bank.rooms r = RoomUsage.zero) ∧
    (∀ k, Table.read KitchenUsage.zero t.monitor.bank.kitchens k = KitchenUsage.zero) ∧
    t.monitor.autoSnapshot = true ∧ (∀ n, t.route n = ⟨false, .fixed, ⟨false, false, false⟩, 0⟩) ∧
    (t.port .a).roles = a ∧ (t.port .b).roles = b ∧ (t.port .c).roles = c ∧
    (∀ p, (t.port p).base = .idle ∧ (t.port p).receiving = false ∧ (t.port p).slot = none ∧
      (t.port p).inHand = none ∧ (t.port p).queue = [] ∧ (t.port p).flags = ⟨false, false, false, false⟩ ∧
      (t.port p).reading = none)

/-- R8, R33, R189: the role check comes first and is answered ROLE; then NOT_OPEN while the device is CONFIGURING;
then REV_EXHAUSTED while the book revision is exhausted, for CLOSE_ROOM with FORCE only on a room with live records.
A command so refused changes nothing. -/
def Obligations.CommandsAreGuarded : Prop :=
  (∀ (c : Instr) (p : Port) (tag : Byte) (cmd : Command) (s : State), commandOf? c = some (p, tag, cmd) →
    s.canTake p → permits p (s.port p).roles cmd = false →
    exec c s = .next ((s.taking p tag cmd).placed p tag (Reply.refusal .role))) ∧
  (∀ (c : Instr) (p : Port) (tag : Byte) (cmd : Command) (s : State), commandOf? c = some (p, tag, cmd) →
    s.canTake p → permits p (s.port p).roles cmd = true → needsServing cmd = true → s.serving = false →
    exec c s = .next ((s.taking p tag cmd).placed p tag (Reply.refusal .notOpen))) ∧
  (∀ (c : Instr) (p : Port) (tag : Byte) (cmd : Command) (s : State), commandOf? c = some (p, tag, cmd) →
    s.canTake p → permits p (s.port p).roles cmd = true → needsRevision cmd = true → s.serving = true →
    s.exhausted = true →
    exec c s = .next ((s.taking p tag cmd).placed p tag (Reply.refusal .revExhausted))) ∧
  (∀ (p : Port) (tag : Byte) (room : Nat) (s : State), s.canTake p → (s.port p).roles.facil = true → room ≤ 159 →
    s.roomRecs room ≠ [] → s.exhausted = true →
    exec (.closeRoomForce p tag room) s =
      .next ((s.taking p tag (.closeRoomForce room)).placed p tag (Reply.refusal .revExhausted)))

/-- R188, R191, R192: the events of a command transaction. The sync byte opens it, remembering the present state; a
void first byte, a length above 60, a bad check and an early SEL set INCOMPLETE, a stalled clock sets TIMEOUT, each
returning the port to the remembered state; a well-formed frame is taken by a port that was IDLE and ignored with
COLLISION by one that was EXECUTING or ANSWER_READY; SDO carries the fill byte throughout a command transaction, until
SEL rises, and is at high impedance while SEL is inactive. Where the manual is silent it follows the model's choice (log
entries 23 and 24). -/
def Obligations.CommandTransactions : Prop :=
  (∀ (p : Port) (s : State), s.resetLow = false → (s.port p).quiet = true →
    exec (.commandSyncByte p) s = .next (s.setPort p { s.port p with receiving := true })) ∧
  (∀ (p : Port) (first : Byte) (s : State), s.resetLow = false → (s.port p).quiet = true → first ≠ 0x5A →
    first ≠ 0xA5 → exec (.voidTransaction p first) s =
      .next (s.setPort p { s.port p with flags := { (s.port p).flags with incomplete := true } })) ∧
  (∀ (p : Port) (length : Byte) (s : State), s.resetLow = false → (s.port p).receiving = true →
    (s.port p).reading = none → 60 < length.toNat → exec (.commandFrameLengthFault p length) s =
      .next (s.setPort p { s.port p with
        receiving := false, flags := { (s.port p).flags with incomplete := true } })) ∧
  (∀ (p : Port) (f : CommandFrame) (s : State), s.resetLow = false → (s.port p).receiving = true →
    (s.port p).reading = none → f.length.toNat ≤ 60 → f.payload.length = f.length.toNat →
    f.check = crc16 (f.length :: f.tag :: f.ident :: f.payload) → (s.port p).base = .idle →
    exec (.commandFrameCompletes p f) s = .next (s.taking p f.tag f.cmd)) ∧
  (∀ (p : Port) (f : CommandFrame) (s : State), s.resetLow = false → (s.port p).receiving = true →
    (s.port p).reading = none → f.length.toNat ≤ 60 → f.payload.length = f.length.toNat →
    f.check = crc16 (f.length :: f.tag :: f.ident :: f.payload) →
    (s.port p).base = .executing ∨ (s.port p).base = .answerReady →
    exec (.commandFrameCompletes p f) s = .next (s.setPort p { s.port p with
      receiving := false, flags := { (s.port p).flags with collision := true } })) ∧
  (∀ (p : Port) (f : CommandFrame) (s : State), s.resetLow = false → (s.port p).receiving = true →
    (s.port p).reading = none → f.check ≠ crc16 (f.length :: f.tag :: f.ident :: f.payload) →
    exec (.commandFrameCompletes p f) s =
      .next (s.setPort p { s.port p with
        receiving := false, flags := { (s.port p).flags with incomplete := true } })) ∧
  (∀ (p : Port) (s : State), s.resetLow = false → (s.port p).receiving = true → (s.port p).reading = none →
    exec (.selRaisedEarly p) s =
      .next (s.setPort p { s.port p with
        receiving := false, flags := { (s.port p).flags with incomplete := true } })) ∧
  (∀ (p : Port) (b : Bool) (s : State), s.resetLow = false → (s.port p).reading = none →
    exec (.stalledClock ⟨p, b⟩) s =
      .next (s.setPort p { s.port p with
        receiving := false, flags := { (s.port p).flags with timeout := true } })) ∧
  (∀ (p : Port) (k : Nat) (s : State), s.resetLow = false →
    s.sdo p .deselected = .highImpedance ∧ s.sdo p (.clocked 0x5A k) = .byte 0)

/-- R186, R195: a read chooses the response, else the head notice, else an EMPTY frame, with the flags then pending;
completing whole, it clears the flags it carried and removes the item it read; cut short by SEL or by a stalled clock,
it removes and clears nothing and sets INCOMPLETE or TIMEOUT; once its last check byte is out no stall is timed. R194:
SDO sends the frame's bytes, the check over all between the sync byte and the check, and then fill bytes; codes and
payload layouts that the manual does not number are free values (log entry 43). -/
def Obligations.ReadTransactions : Prop :=
  (∀ (p : Port) (s : State), s.resetLow = false → (s.port p).quiet = true →
    exec (.readByte p) s = .next (s.setPort p { s.port p with
      reading := some ⟨match (s.port p).slot, (s.port p).queue with
        | some r, _ => .response r
        | none, n :: _ => .notice n
        | none, [] => .empty, (s.port p).flags, ⟨false, false, false, false⟩, false⟩ })) ∧
  (∀ (p : Port) (s : State) (r : Response) (f : PortFlags) (b : Bool), s.resetLow = false →
    (s.port p).reading = some ⟨.response r, f, ⟨false, false, false, false⟩, b⟩ →
    exec (.readCompletesWhole p) s = .next (s.setPort p { s.port p with
      reading := none, slot := none, base := .idle, flags := (s.port p).flags.without f })) ∧
  (∀ (p : Port) (s : State) (n : Notice) (l : List Notice) (f : PortFlags), s.resetLow = false →
    (s.port p).reading = some ⟨.notice n, f, ⟨false, false, false, false⟩, false⟩ → (s.port p).queue = n :: l →
    exec (.readCompletesWhole p) s = .next (s.setPort p { s.port p with
      reading := none, queue := l, flags := (s.port p).flags.without f })) ∧
  (∀ (p : Port) (s : State) (n : Notice) (f : PortFlags), s.resetLow = false →
    (s.port p).reading = some ⟨.notice n, f, ⟨false, false, false, false⟩, true⟩ →
    exec (.readCompletesWhole p) s = .next (s.setPort p { s.port p with
      reading := none, flags := (s.port p).flags.without f })) ∧
  (∀ (p : Port) (s : State) (f g : PortFlags) (b : Bool), s.resetLow = false →
    (s.port p).reading = some ⟨.empty, f, g, b⟩ →
    exec (.readCompletesWhole p) s = .next (s.setPort p { s.port p with
      reading := none, flags := ((s.port p).flags.without f).join g })) ∧
  (∀ (p : Port) (s : State) (r : Reading), s.resetLow = false → (s.port p).reading = some r →
    exec (.readCutShort p) s = .next (s.setPort p { s.port p with
      reading := none, flags := { (s.port p).flags with incomplete := true } })) ∧
  (∀ (p : Port) (s : State) (r : Reading), s.resetLow = false → (s.port p).reading = some r →
    exec (.stalledClock ⟨p, true⟩) s = .next s ∧
    exec (.stalledClock ⟨p, false⟩) s = .next (s.setPort p { s.port p with
      receiving := false, reading := none, flags := { (s.port p).flags with timeout := true } })) ∧
  (∀ (p : Port) (s : State) (r : Reading) (body payload : List Byte) (k : Nat), s.resetLow = false →
    (s.port p).reading = some r →
    payload = (match r.frame with
      | .response x => (Config.responseBytes x.reply.payload).take 250
      | .notice n => ([BitVec.ofNat 8 n.kind.number, BitVec.ofNat 8 n.priority,
            (match n.cond with | none => 0 | some c => Config.conditionCode c), BitVec.ofNat 8 n.transitions,
            n.hi.code, n.lo.code] ++
          [Config.tagPresentCode n.tag.isSome, (match n.tag with | none => Config.absentTag | some t => t)] ++
          [(BitVec.ofNat 32 n.rev).extractLsb' 24 8, (BitVec.ofNat 32 n.rev).extractLsb' 16 8,
            (BitVec.ofNat 32 n.rev).extractLsb' 8 8, (BitVec.ofNat 32 n.rev).extractLsb' 0 8] ++
          [BitVec.ofNat 8 n.day, (BitVec.ofNat 16 n.minute).extractLsb' 8 8, (BitVec.ofNat 16 n.minute).extractLsb' 0 8] ++
          [(Config.subjectBytes n.subject).extractLsb' 24 8, (Config.subjectBytes n.subject).extractLsb' 16 8,
            (Config.subjectBytes n.subject).extractLsb' 8 8, (Config.subjectBytes n.subject).extractLsb' 0 8] ++
          Config.dataBytes n.data).take 250
      | .empty => []) →
    body = BitVec.ofNat 8 payload.length :: (match r.frame with
      | .response x => [Config.frameKindCode .response, x.tag, Config.resultCode x.reply.code,
          Config.flagsByte x.reply.clamped { r.carried with overrun := r.carried.overrun || x.reply.overrun }]
      | .notice _ => [Config.frameKindCode .notice, 0xFF, Config.resultCode .ok, Config.flagsByte false r.carried]
      | .empty => [Config.frameKindCode .empty, 0, Config.resultCode .ok, Config.flagsByte false r.carried]) ++
        payload →
    payload.length ≤ 250 ∧
    s.sdo p (.clocked 0xA5 k) = .byte ((([0xC3] ++ body ++ [(crc16 body).extractLsb' 8 8, (crc16 body).extractLsb' 0 8])[k]?).getD 0))

/-- R190, R193: NARROW_ROLES leaves the named port the roles it holds that are also in the mask given, and changes
nothing else; a frame that names no command is answered RANGE with the identifier. Where the manual is silent it
follows the model's choice (log entries 27 and 31). -/
def Obligations.NarrowingAndUnknownCommands : Prop :=
  (∀ (p q : Port) (tag : Byte) (letter mask : Nat) (s : State), s.canTake p → portOfLetter letter = some q →
    (if q = p then RoleMask.any (s.port p).roles else (s.port p).roles.facil) = true → mask ≤ 7 →
    ∃ u, exec (.narrowRoles p tag letter mask) s = .next (u.placed p tag (Reply.okWith (.mask (u.port q).roles))) ∧
      (u.port q).roles = ⟨(s.port q).roles.sched && mask.testBit 0, (s.port q).roles.cater && mask.testBit 1,
        (s.port q).roles.facil && mask.testBit 2⟩ ∧
      (∀ r, r ≠ q → (u.port r).roles = (s.port r).roles) ∧
      sameBut [.roles] (s.taking p tag (.narrowRoles letter mask)) u) ∧
  (∀ (p : Port) (tag : Byte) (ident : Byte) (s : State), s.canTake p →
    exec (.unknownCommand p tag (.unknownIdentifier ident)) s =
      .next ((s.taking p tag (.bad (.unknownIdentifier ident))).placed p tag
        (Reply.refusalWith .range (.badIdentifier ident)))) ∧
  (∀ (p : Port) (tag : Byte) (ident : Byte) (s : State), s.canTake p →
    exec (.unknownCommand p tag (.badPayloadLength ident)) s =
      .next ((s.taking p tag (.bad (.badPayloadLength ident))).placed p tag (Reply.refusal .range)))

/-- R8 to R10, R189, R190, R197: no command or event but NARROW_ROLES and COLD_RESET changes a port's role mask, and none
but COLD_RESET adds a role to one; the device mode changes only by OPEN, RECONFIGURE and COLD_RESET. -/
def Obligations.OnlyTheirCommandsChangeMasksAndMode : Prop :=
  (∀ (c : Instr) (s t : State) (p : Port) (r : Role), exec c s = .next t →
     (∀ a b d, c ≠ .coldReset a b d) →
     (roleIn (t.port p).roles r = true → roleIn (s.port p).roles r = true) ∧
     ((∀ q tag l m, c ≠ .narrowRoles q tag l m) → (t.port p).roles = (s.port p).roles)) ∧
  (∀ (c : Instr) (s t : State), exec c s = .next t → (∀ a b d, c ≠ .coldReset a b d) →
     (∀ p tag, c ≠ .openDevice p tag) → (∀ p tag, c ≠ .reconfigure p tag) → t.site.mode = s.site.mode)

/-! ### Handles, lists and reads -/

/-- R21, R36, R40, R41, R159: a command that changes a booking, a block or an order is answered NO_SUCH with the
newest tombstone of its handle, alone where the handle has the present generation of a free entry, STATE for a record of
the other kind, and STALE with the record's revision; a command so refused changes nothing. -/
def Obligations.HandlesAreChecked : Prop :=
  (∀ (c : Instr) (p : Port) (tag : Byte) (cmd : Command) (h : Handle) (k : RecKind) (e : Nat) (s : State),
    commandOf? c = some (p, tag, cmd) → changesRecord? cmd = some (h, k, e) → s.ready p cmd →
    s.fieldsInRange cmd = true →
    (Pool.named? s.book.pool h = none → exec c s = .next ((s.taking p tag cmd).placed p tag
      (Reply.refusalWith .noSuch (.noSuch (if (Pool.entry s.book.pool h.index).gen = h.gen then none
        else (s.book.ring.filter (fun t => t.handle = h && !(t.kind == .order))).getLast?))))) ∧
    (∀ r, Pool.named? s.book.pool h = some r → r.kind ≠ k →
      exec c s = .next ((s.taking p tag cmd).placed p tag (Reply.refusal .state))) ∧
    (∀ r, Pool.named? s.book.pool h = some r → r.kind = k → r.rev ≠ e →
      exec c s = .next ((s.taking p tag cmd).placed p tag (Reply.refusalWith .stale (.stale r.rev))))) ∧
  (∀ (c : Instr) (p : Port) (tag : Byte) (cmd : Command) (h : Handle) (e : Nat) (s : State),
    commandOf? c = some (p, tag, cmd) → changesOrder? cmd = some (h, e) → s.ready p cmd →
    s.fieldsInRange cmd = true →
    (Pool.named? s.plan.orders h = none → exec c s = .next ((s.taking p tag cmd).placed p tag
      (Reply.refusalWith .noSuch (.noSuch (if (Pool.entry s.plan.orders h.index).gen = h.gen then none
        else (s.book.ring.filter (fun t => t.handle = h && (t.kind == .order))).getLast?))))) ∧
    (∀ o, Pool.named? s.plan.orders h = some o → o.rev ≠ e →
      exec c s = .next ((s.taking p tag cmd).placed p tag (Reply.refusalWith .stale (.stale o.rev)))))

/-- R20, R22, R23, R24: `lowestFree` finds the lowest-numbered free entry of a pool, and none only when every entry is
live; a day list holds exactly the live records of its room and plane, in order of padded start, and `firstConflict`
gives the first of them whose padded interval overlaps the candidate's, its own entry left out. -/
def Obligations.FreeEntriesAndDayLists : Prop :=
  (∀ (q : Pool Rec) (cap i : Nat), Pool.lowestFree q cap = some i ↔ isLowestFree q cap i) ∧
  (∀ (q : Pool Rec) (cap : Nat), Pool.lowestFree q cap = none ↔ ∀ i, i < cap → Pool.item? q i ≠ none) ∧
  (∀ (s : State) (room plane lo hi : Nat) (own : Option Nat),
     (∀ e, e ∈ s.dayList room plane ↔ e ∈ s.liveRecs ∧ e.2.room = room ∧ e.2.plane = plane) ∧
     (s.dayList room plane).Pairwise (fun e f => e.2.padStart ≤ f.2.padStart) ∧
     (s.firstConflict room plane lo hi own = none ↔ s.freeRun room plane lo hi own) ∧
     (∀ i, s.firstConflict room plane lo hi own = some i → ∃ r pre post,
       s.dayList room plane = pre ++ (i, r) :: post ∧ own ≠ some i ∧ lo < r.padEnd ∧ r.padStart < hi ∧
       ∀ e, e ∈ pre → own ≠ some e.1 → ¬ (lo < e.2.padEnd ∧ e.2.padStart < hi)))

/-- R1, R138, R151, R175, R196: the reads of the site tables, the kitchens, the usage bank and the device; each
changes nothing. A STATUS whose frame was taken earlier answers the values of that moment. -/
def Obligations.ReadsOfTables : Prop :=
  (∀ (p : Port) (tag : Byte) (room : Nat) (s : State), s.canTake p → room ≤ 159 →
    exec (.readRoom p tag room) s = .next ((s.taking p tag (.readRoom room)).placed p tag
      (Reply.okWith (.room (s.room room) (s.location room) (s.chronicState room).chronic)))) ∧
  (∀ (p : Port) (tag : Byte) (s : State), s.canTake p →
    exec (.status p tag) s = .next ((s.taking p tag .status).placed p tag
      (Reply.okWith (.status
              { mode := s.site.mode, day := s.clock.day, minute := s.clock.minute, seconds := s.clock.seconds,
                clockSet := s.clock.set, syncEnabled := s.clock.syncEnabled, rev := s.book.rev,
                exhausted := decide (s.book.rev = 4294967295), buildings := s.site.buildings, roles := (s.port p).roles,
                depths := ⟨(s.port .a).queue.length, (s.port .b).queue.length, (s.port .c).queue.length⟩,
                bookings := s.liveRecs.length, waiting := (Pool.live s.wait.pool).length,
                orders := (Pool.live s.plan.orders).length })))) ∧
  (∀ (p : Port) (f : CommandFrame) (s u : State) (v : StatusReading), s.resetLow = false → u.resetLow = false →
    v =
      { mode := s.site.mode, day := s.clock.day, minute := s.clock.minute, seconds := s.clock.seconds,
        clockSet := s.clock.set, syncEnabled := s.clock.syncEnabled, rev := s.book.rev,
        exhausted := decide (s.book.rev = 4294967295), buildings := s.site.buildings, roles := (s.port p).roles,
        depths := ⟨(s.port .a).queue.length, (s.port .b).queue.length, (s.port .c).queue.length⟩,
        bookings := s.liveRecs.length, waiting := (Pool.live s.wait.pool).length,
        orders := (Pool.live s.plan.orders).length } →
    (u.port p).inHand = some ⟨f.tag, .status, (s.port p).roles, some v⟩ →
    ((s.port p).receiving = true → (s.port p).base = .idle → wellFormedFrame f = true → f.cmd = .status →
      ∃ t, exec (.commandFrameCompletes p f) s = .next t ∧ (t.port p).inHand = (u.port p).inHand) ∧
    exec (.status p f.tag) u = .next (u.placed p f.tag (Reply.okWith (.status v)))) ∧
  (∀ (p : Port) (tag : Byte) (first : Nat) (s : State), s.ready p (.readUsage (.rooms first)) → first ≤ 159 →
    exec (.readUsage p tag (.rooms first)) s = .next ((s.taking p tag (.readUsage (.rooms first))).placed p tag
      (Reply.okWith (.usageRooms
              ((List.range (min 4 (160 - first))).map (fun j => ⟨first + j,
                Table.read RoomUsage.zero s.monitor.bank.rooms (first + j), s.chronicState (first + j)⟩))
              s.monitor.bank.seq s.monitor.bank.kind s.monitor.bank.day s.monitor.bank.minute s.monitor.autoSnapshot)))) ∧
  (∀ (p : Port) (tag : Byte) (k : Nat) (s : State), s.ready p (.readUsage (.kitchen k)) → k ≤ 3 →
    exec (.readUsage p tag (.kitchen k)) s = .next ((s.taking p tag (.readUsage (.kitchen k))).placed p tag
      (Reply.okWith (.usageKitchen (Table.read KitchenUsage.zero s.monitor.bank.kitchens k)
        s.monitor.bank.seq s.monitor.bank.kind s.monitor.bank.day s.monitor.bank.minute s.monitor.autoSnapshot)))) ∧
  (∀ (p : Port) (tag : Byte) (s : State), s.ready p (.readKitchenSetup .classes) →
    exec (.readKitchenSetup p tag .classes) s = .next ((s.taking p tag (.readKitchenSetup .classes)).placed p tag
      (Reply.okWith (.classes ((List.range 16).map s.menuClass))))) ∧
  (∀ (p : Port) (tag : Byte) (k : Nat) (s : State), s.ready p (.readKitchenSetup (.kitchen k)) → k ≤ 3 →
    exec (.readKitchenSetup p tag (.kitchen k)) s =
      .next ((s.taking p tag (.readKitchenSetup (.kitchen k))).placed p tag
        (Reply.okWith (.kitchenSetup (s.kitchen k) ((List.range 12).map (fun b => s.transit b k)))))) ∧
  (∀ (p : Port) (tag : Byte) (k first count : Nat) (s : State), s.ready p (.kitchenLoad k first count) → k ≤ 3 →
    1 ≤ count → count ≤ 16 → first + count ≤ 768 →
    exec (.kitchenLoad p tag k first count) s = .next ((s.taking p tag (.kitchenLoad k first count)).placed p tag
      (Reply.okWith (.load
              ((List.range count).map (fun j => ⟨(s.loadEntry k (first + j)).load, s.capacity k (first + j),
                s.limit k (first + j), (s.loadEntry k (first + j)).isOver⟩))
              (s.kitchen k) s.currentWindow (s.overWindows k).length))))

/-- R56, R57, R68, R167: the reads of the book, the waitlist and the orders; each changes nothing. That returned start and
end minutes are horizon minutes is the model's choice (log entry 34). -/
def Obligations.ReadsOfRecords : Prop :=
  (∀ (p : Port) (tag : Byte) (h : Handle) (s : State), s.ready p (.queryBooking h) → h.index ≤ 2047 →
    exec (.queryBooking p tag h) s = .next ((s.taking p tag (.queryBooking h)).placed p tag
      (match Pool.named? s.book.pool h with
       | some r => (Reply.okWith (.record
           { handle := h, kind := r.kind, state := r.state, room := r.room, plane := r.plane,
             startMinute := (r.plane : Int) * 1440 + 5 * (r.start : Int),
             endMinute := (r.plane : Int) * 1440 + 5 * (r.stop : Int), setup := r.setup, clear := r.clear,
             padStart := r.start - r.setup, padEnd := min (r.stop + r.clear) 288, owner := r.owner,
             organizer := r.organizer, label := r.label, attendees := r.attendees, deadlineKind := r.deadline.kind,
             deadlineMinute := r.deadline.minute, arrival := r.arrival, order := r.order, flags := r.flags,
             extensions := r.extensions, rev := r.rev }))
       | none => (Reply.refusalWith .noSuch (.noSuch (if (Pool.entry s.book.pool h.index).gen = h.gen then none
           else (s.book.ring.filter (fun t => t.handle = h && !(t.kind == .order))).getLast?)))))) ∧
  (∀ (p : Port) (tag : Byte) (room plane start : Nat) (s : State), s.ready p (.queryRoomDay room plane start) →
    room ≤ 159 → plane ≤ 7 → start ≤ (s.dayList room plane).length →
    exec (.queryRoomDay p tag room plane start) s =
      .next ((s.taking p tag (.queryRoomDay room plane start)).placed p tag
        (Reply.okWith (.dayPage ((((s.dayList room plane).drop start).take 6).map (fun e =>
            { handle := s.recHandle e.1, kind := e.2.kind, state := e.2.state,
              startMinute := (e.2.plane : Int) * 1440 + 5 * (e.2.start : Int),
              endMinute := (e.2.plane : Int) * 1440 + 5 * (e.2.stop : Int), padStart := e.2.start - e.2.setup,
              padEnd := min (e.2.stop + e.2.clear) 288, owner := e.2.owner, label := e.2.label, flags := e.2.flags,
              order := e.2.order, rev := e.2.rev }))
            (s.dayList room plane).length s.book.rev)))) ∧
  (∀ (p : Port) (tag : Byte) (start : Nat) (s : State), s.ready p (.queryWaitlist start) → start ≤ 63 →
    (∀ w, w ∈ s.wait.order → (s.waitEntry? w).isSome = true) →
    ∃ items, exec (.queryWaitlist p tag start) s = .next ((s.taking p tag (.queryWaitlist start)).placed p tag
        (Reply.okWith (.waitPage items (Pool.live s.wait.pool).length))) ∧
      items.length = min 4 (s.wait.order.length - start) ∧
      ∀ (j : Nat) (x : WaitReading), items[j]? = some x →
        x.position = start + j ∧ s.wait.order[start + j]? = some x.handle.index ∧
        ∃ e, Pool.named? s.wait.pool x.handle = some e ∧
          x = { position := start + j, handle := x.handle, rooms := e.rooms, plane := e.plane, earliest := e.earliest
                length := e.length, flex := e.flex, attendees := e.attendees, organizer := e.organizer
                label := e.label, cater := e.cater, expiry := e.expiry, requester := e.requester, tag := e.tag }) ∧
  (∀ (p : Port) (tag : Byte) (h : Handle) (s : State), s.ready p (.queryOrder (.order h)) → h.index ≤ 511 →
    exec (.queryOrder p tag (.order h)) s = .next ((s.taking p tag (.queryOrder (.order h))).placed p tag
      (match Pool.named? s.plan.orders h with
       | some o => (Reply.okWith (.order (some
           { handle := h, placing := o.placing, booking := o.booking, kitchen := o.kitchen, cls := o.cls, covers := o.covers,
             offset := o.offset, load := o.load, lead := o.lead, last := o.last, cutoff := o.cutoff,
             dispatch := o.dispatch, delivery := o.delivery, state := o.state,
             deadline := match o.deadline with | none => none | some d => some (d.kind, d.minute)
             rev := o.rev, clamped := o.clamped, lateSent := o.lateSent,
             servicePlane := (o.delivery - o.offset) / 1440 }) s.currentWindow))
       | none => (Reply.refusalWith .noSuch (.noSuch (if (Pool.entry s.plan.orders h.index).gen = h.gen then none
           else (s.book.ring.filter (fun t => t.handle = h && (t.kind == .order))).getLast?)))))) ∧
  (∀ (p : Port) (tag : Byte) (h : Handle) (r : Rec) (s : State), s.ready p (.queryOrder (.booking h)) →
    h.index ≤ 2047 → Pool.named? s.book.pool h = some r → r.kind = .booking →
    exec (.queryOrder p tag (.booking h)) s = .next ((s.taking p tag (.queryOrder (.booking h))).placed p tag
      (Reply.okWith (.order (r.order.bind (fun k =>
          (Pool.named? s.plan.orders k).map (fun o =>
           { handle := k, placing := o.placing, booking := o.booking, kitchen := o.kitchen, cls := o.cls, covers := o.covers,
             offset := o.offset, load := o.load, lead := o.lead, last := o.last, cutoff := o.cutoff,
             dispatch := o.dispatch, delivery := o.delivery, state := o.state,
             deadline := match o.deadline with | none => none | some d => some (d.kind, d.minute)
             rev := o.rev, clamped := o.clamped, lateSent := o.lateSent,
             servicePlane := (o.delivery - o.offset) / 1440 }))) s.currentWindow))))

/-- R120: READ_PANELS returns up to eight position records from the start position on, ending at position 40, with the
chain's count, activity and gap flag, and changes nothing. -/
def Obligations.PanelsAreRead : Prop :=
  (∀ (p : Port) (tag : Byte) (chain start : Nat) (s : State), s.ready p (.readPanels chain start) →
    (chain ≤ 3 → 1 ≤ start → start ≤ 40 →
      exec (.readPanels p tag chain start) s = .next ((s.taking p tag (.readPanels chain start)).placed p tag
        (Reply.okWith (.panels
                ((List.range (min 8 (41 - start))).map (fun j =>
                  { pos := start + j, unitId := (s.position chain (start + j)).unitId,
                    presence := (s.position chain (start + j)).presence, good := (s.position chain (start + j)).good,
                    miss := (s.position chain (start + j)).miss, faults := (s.position chain (start + j)).faults,
                    debounced := (s.position chain (start + j)).debounced, shown := (s.position chain (start + j)).shown,
                    room := s.boundRoom chain (start + j) }))
          (s.chain chain).count (s.chain chain).activity (s.chain chain).gap)))) ∧
    (3 < chain ∨ start < 1 ∨ 40 < start →
      exec (.readPanels p tag chain start) s =
        .next ((s.taking p tag (.readPanels chain start)).placed p tag (Reply.refusal .range)))) ∧
  (∀ (p : Port) (tag : Byte) (chain start : Nat) (s : State), s.canTake p → (s.port p).roles.facil = false →
    exec (.readPanels p tag chain start) s =
      .next ((s.taking p tag (.readPanels chain start)).placed p tag (Reply.refusal .role))) ∧
  (∀ (p : Port) (tag : Byte) (room : Nat) (s : State), s.canTake p → room ≤ 159 →
    exec (.readRoom p tag room) s = .next ((s.taking p tag (.readRoom room)).placed p tag
      (Reply.okWith (.room (s.room room) (s.location room) (s.chronicState room).chronic))))

/-- R179: READ_ROUTES returns up to ten entries from the first kind on, ending at kind 20, each with its kind number
and its four fields; it needs any one role, is accepted in both modes and changes nothing. -/
def Obligations.RoutesAreRead : Prop :=
  ∀ (p : Port) (tag : Byte) (first : Nat) (s : State), s.canTake p →
    (RoleMask.any (s.port p).roles = true → 1 ≤ first → first ≤ 20 →
      exec (.readRoutes p tag first) s = .next ((s.taking p tag (.readRoutes first)).placed p tag
        (Reply.okWith (.routes
                ((List.range (min 10 (21 - first))).map (fun j => (first + j, s.route (first + j)))))))) ∧
    (RoleMask.any (s.port p).roles = true → first < 1 ∨ 20 < first →
      exec (.readRoutes p tag first) s =
        .next ((s.taking p tag (.readRoutes first)).placed p tag (Reply.refusal .range))) ∧
    (RoleMask.any (s.port p).roles = false →
      exec (.readRoutes p tag first) s =
        .next ((s.taking p tag (.readRoutes first)).placed p tag (Reply.refusal .role)))

/-! ### Site tables and device modes -/

/-- R2, R5, R6, R7: CONFIG_SITE stores the building count while the device is CONFIGURING; OPEN_ROOM and CLOSE_ROOM set
the room's openness and its display follows; each refusal of these rules changes nothing: RANGE for a count outside
1..12, for one that leaves out a configured room's building and for a room above 159, and STATE. -/
def Obligations.SiteAndRoomStates : Prop :=
  (∀ (p : Port) (tag : Byte) (n : Nat) (s : State), s.ready p (.configSite n) → n < 1 ∨ 12 < n →
    exec (.configSite p tag n) s = .next ((s.taking p tag (.configSite n)).placed p tag (Reply.refusal .range))) ∧
  (∀ (p : Port) (tag : Byte) (room : Nat) (s : State), s.canTake p → (s.port p).roles.facil = true → 159 < room →
    exec (.openRoom p tag room) s =
      .next ((s.taking p tag (.openRoom room)).placed p tag (Reply.refusal .range)) ∧
    exec (.closeRoom p tag room) s =
      .next ((s.taking p tag (.closeRoom room)).placed p tag (Reply.refusal .range)) ∧
    exec (.closeRoomForce p tag room) s =
      .next ((s.taking p tag (.closeRoomForce room)).placed p tag (Reply.refusal .range))) ∧
  (∀ (p : Port) (tag : Byte) (n : Nat) (s : State), s.ready p (.configSite n) → 1 ≤ n → n ≤ 12 →
    (s.serving = true → exec (.configSite p tag n) s =
      .next ((s.taking p tag (.configSite n)).placed p tag (Reply.refusal .state))) ∧
    (s.serving = false → (∀ e, e ∈ s.site.rooms → e.2.configured = true → e.2.building < n) →
      ∃ u, exec (.configSite p tag n) s = .next (u.placed p tag (Reply.okWith .none)) ∧ u.site.buildings = n ∧
        sameBut [.buildings] (s.taking p tag (.configSite n)) u) ∧
    (∀ e, e ∈ s.site.rooms → s.serving = false → Table.wf Room.cold s.site.rooms = true →
      e.2.configured = true → n ≤ e.2.building →
      ∃ room, exec (.configSite p tag n) s =
          .next ((s.taking p tag (.configSite n)).placed p tag (Reply.refusalWith .range (.number room))) ∧
        (s.room room).configured = true ∧ n ≤ (s.room room).building ∧
        ∀ q, q < room → (s.room q).configured = true → (s.room q).building < n)) ∧
  (∀ (p : Port) (tag : Byte) (room : Nat) (s : State), s.ready p (.openRoom room) → room ≤ 159 →
    ((s.room room).configured = false → exec (.openRoom p tag room) s =
      .next ((s.taking p tag (.openRoom room)).placed p tag (Reply.refusal .state))) ∧
    ((s.room room).configured = true →
      ∃ u, exec (.openRoom p tag room) s = .next (u.placed p tag (Reply.okWith .none)) ∧
        (u.room room).settings = { (s.room room).settings with isOpen := true } ∧
        (∀ q, q ≠ room → (u.room q).settings = (s.room q).settings) ∧ displayFollows s u room ∧
        sameOtherRooms room s u ∧ sameBut [.rooms, .displayRevs, .displays] (s.taking p tag (.openRoom room)) u)) ∧
  (∀ (p : Port) (tag : Byte) (room : Nat) (s : State), s.ready p (.closeRoom room) → room ≤ 159 →
    (∀ e l, s.roomRecs room = e :: l → exec (.closeRoom p tag room) s =
      .next ((s.taking p tag (.closeRoom room)).placed p tag
        (Reply.refusalWith .state (.booking (s.recHandle e.1))))) ∧
    ((∀ e, e ∈ s.liveRecs → e.2.room ≠ room) →
      ∃ u, exec (.closeRoom p tag room) s = .next (u.placed p tag (Reply.okWith .none)) ∧
        (u.room room).settings = { (s.room room).settings with isOpen := false } ∧
        (∀ q, q ≠ room → (u.room q).settings = (s.room q).settings) ∧ displayFollows s u room ∧
        sameOtherRooms room s u ∧ sameBut [.rooms, .displayRevs, .displays] (s.taking p tag (.closeRoom room)) u))

/-- R3, R4, R107: CONFIG_ROOM is refused RANGE for a field out of its range, CONFLICT with the other room that a given
unit id is bound to, STATE for another building and CAPACITY with the first live booking that has more attendees than
the seats while the device is SERVING; otherwise it stores the room's fields, an absent grace or threshold at 10 or 3 for
a new room; the grace is brought into 5..30 with CLAMPED; with its unit id unchanged nothing else changes, and with
another unit id the room's location is where the link controller holds that unit: on the lowest chain, and in it at the
lowest position, that holds it and is not ABSENT. -/
def Obligations.ConfigRoomStoresAndBinds : Prop :=
  (∀ (p : Port) (tag : Byte) (a : ConfigRoomArgs) (s : State), s.ready p (.configRoom a) →
     159 < a.room ∨ s.site.buildings ≤ a.building ∨ a.seats < 1 ∨ 400 < a.seats ∨ 6 < a.setup ∨ 6 < a.clear ∨
       (∃ t, a.threshold = some t ∧ (t < 1 ∨ 15 < t)) →
     exec (.configRoom p tag a) s = .next ((s.taking p tag (.configRoom a)).placed p tag (Reply.refusal .range))) ∧
  (∀ (p : Port) (tag : Byte) (a : ConfigRoomArgs) (s : State), s.ready p (.configRoom a) →
     Table.wf Room.cold s.site.rooms = true →
     a.room ≤ 159 → a.building < s.site.buildings → 1 ≤ a.seats → a.seats ≤ 400 → a.setup ≤ 6 → a.clear ≤ 6 →
     (∀ t, a.threshold = some t → 1 ≤ t ∧ t ≤ 15) →
     (∀ v q, a.unitChoice = .bind v → q ≠ a.room → (s.room q).unitId = some v →
       ∃ other, exec (.configRoom p tag a) s =
           .next ((s.taking p tag (.configRoom a)).placed p tag (Reply.refusalWith .conflict (.number other))) ∧
         other ≠ a.room ∧ (s.room other).unitId = some v) ∧
     ((∀ v, a.unitChoice = .bind v → ∀ q, q ≠ a.room → (s.room q).unitId ≠ some v) → s.serving = true →
       ((s.room a.room).configured = true → a.building ≠ (s.room a.room).building →
         exec (.configRoom p tag a) s =
           .next ((s.taking p tag (.configRoom a)).placed p tag (Reply.refusal .state))) ∧
       (((s.room a.room).configured = true → a.building = (s.room a.room).building) →
         ∀ pre e post n, s.roomRecs a.room = pre ++ e :: post → e.2.attendees = some n → a.seats < n →
           (∀ f m, f ∈ pre → f.2.attendees = some m → m ≤ a.seats) →
           exec (.configRoom p tag a) s = .next ((s.taking p tag (.configRoom a)).placed p tag
             (Reply.refusalWith .capacity (.booking (s.recHandle e.1))))))) ∧
  (∀ (p : Port) (tag : Byte) (a : ConfigRoomArgs) (s : State), s.ready p (.configRoom a) →
     a.room ≤ 159 → a.building < s.site.buildings → 1 ≤ a.seats → a.seats ≤ 400 → a.setup ≤ 6 → a.clear ≤ 6 →
     (∀ t, a.threshold = some t → 1 ≤ t ∧ t ≤ 15) →
     (∀ v, a.unitChoice = .bind v → ∀ e, e ∈ s.site.rooms → e.1 ≠ a.room → e.2.unitId ≠ some v) →
     (s.serving = true → (s.room a.room).configured = true → a.building = (s.room a.room).building) →
     (s.serving = true → ∀ e n, e ∈ s.liveRecs → e.2.room = a.room → e.2.attendees = some n → n ≤ a.seats) →
     ∃ u, exec (.configRoom p tag a) s = .next (u.placed p tag
         { code := .ok
           clamped := a.grace.any (fun g => decide (g < 5) || decide (30 < g))
           payload := match a.grace with
             | none => .none
             | some g => if g < 5 ∨ 30 < g then .number (max 5 (min g 30)) else .none }) ∧
       (u.room a.room).settings =
         { configured := true, isOpen := (s.room a.room).isOpen, building := a.building, seats := a.seats,
           setup := a.setup, clear := a.clear
           grace := match a.grace with
             | some g => max 5 (min g 30)
             | none => if (s.room a.room).configured then (s.room a.room).grace else 10
           options := a.options
           threshold := match a.threshold with
             | some t => t
             | none => if (s.room a.room).configured then (s.room a.room).threshold else 3
           unitId := match a.unitChoice with
             | .bind v => some v
             | .remove => none
             | .absent => (s.room a.room).unitId
           displayRev := 0 } ∧
       (∀ q, q ≠ a.room → (u.room q).settings = (s.room q).settings) ∧
       ((u.room a.room).unitId = (s.room a.room).unitId →
         sameBut [.rooms] (s.taking p tag (.configRoom a)) u) ∧
       ((u.room a.room).unitId ≠ (s.room a.room).unitId →
         u.location a.room = (u.room a.room).unitId.bind s.findUnit ∧
         (∀ q, q ≠ a.room → u.location q = s.location q) ∧
         (∀ c k, u.position c k = { s.position c k with
           due := (s.position c k).due || (!(s.location a.room == u.location a.room) &&
             (s.location a.room == some ⟨c, k⟩ || u.location a.room == some ⟨c, k⟩) &&
             (s.position c k).unitId.isSome) }) ∧
         u.display a.room = ⟨u.contentOf a.room, u.displayDeadlineOf a.room⟩ ∧
         ((u.linkedPosition? a.room).isSome = false →
           sameBut [.rooms, .displayRevs, .locations, .chains, .displays] (s.taking p tag (.configRoom a)) u) ∧
         sameBut ([.rooms, .displayRevs, .locations, .chains, .displays, .records, .revision, .vacancy] ++ noticeParts)
           (s.taking p tag (.configRoom a)) u)) ∧
  (∀ (s : State) (v : BitVec 32), s.tablesOk →
     (∀ l, s.findUnit v = some l → l.chain < 4 ∧ (s.position l.chain l.pos).unitId = some v ∧
       (s.position l.chain l.pos).presence ≠ .absent ∧
       ∀ c k, c < 4 → c < l.chain ∨ (c = l.chain ∧ k < l.pos) →
         (s.position c k).unitId = some v → (s.position c k).presence = .absent) ∧
     (s.findUnit v = none → ∀ c k, c < 4 → (s.position c k).unitId = some v → (s.position c k).presence = .absent))

/-- R7, R31, R70: CLOSE_ROOM with FORCE closes the room and finishes each of its live records in day list order, plane
by plane, each finish with its own advance and tombstone, and one scan follows. Stated for records without orders;
what an order does at a finish is OrderFollowsFinish. Where the manual is silent it follows the model's choice (log
entries 17 and 19). -/
def Obligations.ForcedCloseFinishesRecords : Prop :=
  ∀ (p : Port) (tag : Byte) (room : Nat) (s : State), s.ready p (.closeRoomForce room) → room ≤ 159 →
    Table.wf PoolEntry.fresh s.book.pool = true →
    (∀ i r, s.rec? i = some r → r.room = room → r.order = none ∧ r.plane ≤ 7) →
    s.book.ring.length ≤ 256 →
    (s.roomRecs room = [] →
      ∃ u, exec (.closeRoomForce p tag room) s = .next (u.placed p tag (Reply.okWith .none)) ∧
        (u.room room).settings = { (s.room room).settings with isOpen := false } ∧ displayFollows s u room ∧
        (∀ q, q ≠ room → (u.room q).settings = (s.room q).settings) ∧ sameOtherRooms room s u ∧
        sameBut [.rooms, .displayRevs, .displays] (s.taking p tag (.closeRoomForce room)) u) ∧
    (s.roomRecs room ≠ [] → s.exhausted = false →
      ∃ u, exec (.closeRoomForce p tag room) s =
          .next (u.promotionScan.placed p tag (Reply.okWith (.number (s.roomRecs room).length))) ∧
        (u.room room).settings = { (s.room room).settings with isOpen := false } ∧
        (∀ q, q ≠ room → (u.room q).settings = (s.room q).settings) ∧
        (∀ i r, s.rec? i = some r → r.room = room →
          Pool.entry u.book.pool i = ⟨(Pool.entry s.book.pool i).gen + 1, none⟩) ∧
        (∀ i, (∀ r, s.rec? i = some r → r.room ≠ room) → Pool.entry u.book.pool i = Pool.entry s.book.pool i) ∧
        u.book.rev = satAdd 4294967295 s.book.rev (s.roomRecs room).length ∧
        u.book.ring = (s.book.ring ++ (s.roomRecs room).zipIdx.map (fun e =>
            (⟨s.recHandle e.1.1, tombKind e.1.2.kind, if e.1.2.kind = .block then .removed else .cancelled,
              satAdd 4294967295 s.book.rev (e.2 + 1)⟩ : Tombstone))).drop
          (s.book.ring.length + (s.roomRecs room).length - 256) ∧
        roomFollows s u room ∧
        sameBut ([.rooms, .displayRevs, .records, .revision, .ring, .displays, .vacancy, .roomUsage, .chronic] ++
          noticeParts) (s.taking p tag (.closeRoomForce room)) u)

/-- R9, R10, R39, R74, R153: OPEN brings the device to SERVING once its clock is set and a room is open; RECONFIGURE
brings it to CONFIGURING, frees every record, entry and order with its generation advanced, and empties load table,
ring, listings and notice queues. -/
def Obligations.DeviceModes : Prop :=
  (∀ (p : Port) (tag : Byte) (s : State), s.ready p .openDevice →
    (s.serving = true → exec (.openDevice p tag) s =
      .next ((s.taking p tag .openDevice).placed p tag (Reply.refusal .state))) ∧
    (s.serving = false → s.clock.set = false → exec (.openDevice p tag) s =
      .next ((s.taking p tag .openDevice).placed p tag (Reply.refusal .noTime))) ∧
    (s.serving = false → s.clock.set = true → (∀ e, e ∈ s.site.rooms → e.2.isOpen = false) →
      exec (.openDevice p tag) s = .next ((s.taking p tag .openDevice).placed p tag (Reply.refusal .state))) ∧
    (∀ room, s.serving = false → s.clock.set = true → (s.room room).isOpen = true →
      ∃ u, exec (.openDevice p tag) s = .next (u.placed p tag (Reply.okWith .none)) ∧ u.site.mode = .serving ∧
        allDisplaysFollow s u ∧ sameBut [.mode, .displayRevs, .displays] (s.taking p tag .openDevice) u)) ∧
  (∀ (p : Port) (tag : Byte) (s : State), s.ready p .reconfigure →
    (s.serving = false → exec (.reconfigure p tag) s =
      .next ((s.taking p tag .reconfigure).placed p tag (Reply.refusal .state))) ∧
    (s.serving = true →
      ∃ u, exec (.reconfigure p tag) s = .next (u.placed p tag (Reply.okWith .none)) ∧ u.site.mode = .configuring ∧
        (∀ i, i < 2048 → Pool.entry u.book.pool i = ⟨(Pool.entry s.book.pool i).gen + 1, none⟩) ∧
        (∀ w, w < 64 → Pool.entry u.wait.pool w = ⟨(Pool.entry s.wait.pool w).gen + 1, none⟩) ∧
        (∀ j, j < 512 → Pool.entry u.plan.orders j = ⟨(Pool.entry s.plan.orders j).gen + 1, none⟩) ∧
        u.wait.order = [] ∧ u.wait.fates = [] ∧ (∀ k g, u.loadEntry k g = ⟨0, false⟩) ∧ u.book.ring = [] ∧
        u.book.wrapped = false ∧ u.book.clearMark = some s.book.rev ∧ (∀ q, u.book.listings.at q = none) ∧
        (∀ r, u.vacancy r = ⟨none, 0⟩) ∧ (∀ q, (u.port q).queue = []) ∧ allDisplaysFollow s u ∧
        (∀ r, r < 160 → (u.display r).content = ⟨.closed, none, none, .none⟩) ∧
        sameBut [.mode, .displayRevs, .records, .ring, .clearMark, .listings, .vacancy, .waitlist, .displays, .load,
          .orders, .queues, .readings] (s.taking p tag .reconfigure) u))

/-! ### The clock -/

/-- R15, R16, R17: SET_TIME with a day, minute or seconds out of range and ADJUST_TIME by 0 or more than 15 minutes are
refused RANGE; SET_MINUTE_SYNC stores its flag; SET_TIME sets the clock running and every display follows;
ADJUST_TIME forward makes that many minute advances, backward lowers the minute and takes no deadline. What the present
minute still owes is settled first (the model's choice, log entry 3); where nothing has fallen due it owes nothing. -/
def Obligations.ClockCommands : Prop :=
  (∀ s : State, s.outstanding = [] → s.clock.oldDay = false → s.settle = s) ∧
  (∀ (p : Port) (tag : Byte) (d m n : Nat) (s : State), s.ready p (.setTime d m n) → 6 < d ∨ 1439 < m ∨ 59 < n →
    exec (.setTime p tag d m n) s =
      .next ((s.taking p tag (.setTime d m n)).placed p tag (Reply.refusal .range))) ∧
  (∀ (p : Port) (tag : Byte) (n : Nat) (s : State), n = 0 ∨ 15 < n →
    (s.ready p (.adjustTimeForward n) → exec (.adjustTimeForward p tag n) s =
      .next ((s.taking p tag (.adjustTimeForward n)).placed p tag (Reply.refusal .range))) ∧
    (s.ready p (.adjustTimeBackward n) → exec (.adjustTimeBackward p tag n) s =
      .next ((s.taking p tag (.adjustTimeBackward n)).placed p tag (Reply.refusal .range)))) ∧
  (∀ (p : Port) (tag : Byte) (e : Bool) (s : State), s.ready p (.setMinuteSync e) →
    ∃ u, exec (.setMinuteSync p tag e) s = .next (u.placed p tag (Reply.okWith .none)) ∧
      u.clock = { s.clock with syncEnabled := e } ∧ sameBut [.clock] (s.taking p tag (.setMinuteSync e)) u) ∧
  (∀ (p : Port) (tag : Byte) (d m n : Nat) (s t : State), s.ready p (.setTime d m n) → d ≤ 6 → m ≤ 1439 → n ≤ 59 →
    (s.serving = true → exec (.setTime p tag d m n) s =
      .next ((s.taking p tag (.setTime d m n)).placed p tag (Reply.refusal .state))) ∧
    (s.serving = false → t = (s.taking p tag (.setTime d m n)).settle →
      ∃ u, exec (.setTime p tag d m n) s = .next (u.placed p tag (Reply.okWith .none)) ∧
        u.clock = { day := d, minute := m, seconds := n, set := true, syncEnabled := t.clock.syncEnabled,
                    oldDay := false } ∧
        allDisplaysFollow t u ∧ sameBut [.clock, .displayRevs, .displays] t u)) ∧
  (∀ (p : Port) (tag : Byte) (n : Nat) (s : State), s.ready p (.adjustTimeForward n) → 1 ≤ n → n ≤ 15 →
    (s.clock.set = false → exec (.adjustTimeForward p tag n) s =
      .next ((s.taking p tag (.adjustTimeForward n)).placed p tag (Reply.refusal .noTime))) ∧
    (s.clock.set = true → s.clock.minute < 1440 → s.clock.oldDay = false →
      ∃ u, u = ((s.taking p tag (.adjustTimeForward n)).advanceMinutes n).settle ∧
        exec (.adjustTimeForward p tag n) s =
          .next (u.placed p tag (Reply.okWith (.time u.clock.day u.clock.minute))) ∧
        u.clock = { s.clock with
          minute := (s.clock.minute + n) % 1440
          day := if s.clock.minute + n < 1440 then s.clock.day else (s.clock.day + 1) % 7 })) ∧
  (∀ (p : Port) (tag : Byte) (n : Nat) (s t : State), s.ready p (.adjustTimeBackward n) → 1 ≤ n → n ≤ 15 →
    (s.clock.set = false → exec (.adjustTimeBackward p tag n) s =
      .next ((s.taking p tag (.adjustTimeBackward n)).placed p tag (Reply.refusal .noTime))) ∧
    (s.clock.set = true → t = (s.taking p tag (.adjustTimeBackward n)).settle →
      (t.clock.minute < n → exec (.adjustTimeBackward p tag n) s =
        .next (t.placed p tag (Reply.refusal .range))) ∧
      (n ≤ t.clock.minute →
        ∃ u, exec (.adjustTimeBackward p tag n) s =
            .next (u.placed p tag (Reply.okWith (.minute ((t.clock.minute - n : Nat) : Int)))) ∧
          u.clock = { t.clock with minute := t.clock.minute - n } ∧
          allDisplaysFollow t u ∧ sameBut [.clock, .displayRevs, .displays] t u)))

/-- R12, R13, R15: a second counts to 59 and then makes a minute advance; a MINUTE_SYNC pulse sets the seconds to 0,
with a minute advance from 30 on; while the clock is not set nothing counts. Where the manual is silent it follows the
model's choice (log entries 3 and 15). -/
def Obligations.ClockTicks : Prop :=
  (∀ s : State, s.clock.set = false → exec .secondTick s = .next s ∧ exec .minuteAdvance s = .next s ∧
    exec .minuteSync s = .next s) ∧
  (∀ s : State, s.clock.set = true → s.clock.seconds < 59 →
    exec .secondTick s = .next { s with clock := { s.clock with seconds := s.clock.seconds + 1 } }) ∧
  (∀ s : State, s.clock.set = true → 59 ≤ s.clock.seconds →
    exec .secondTick s = exec .minuteAdvance { s with clock := { s.clock with seconds := 0 } }) ∧
  (∀ s : State, s.clock.syncEnabled = false → exec .minuteSync s = .next s) ∧
  (∀ s : State, s.clock.set = true → s.clock.syncEnabled = true → s.clock.seconds < 30 →
    exec .minuteSync s = .next { s with clock := { s.clock with seconds := 0 } }) ∧
  (∀ s : State, s.clock.set = true → s.clock.syncEnabled = true → 30 ≤ s.clock.seconds →
    ∃ t, exec .minuteAdvance s = .next t ∧
      exec .minuteSync s = .next { t with clock := { t.clock with seconds := 0 } })

/-- R13, R14, R92, R93: a minute advance moves now on by one, each deadline at or before it falls due, and a room's
vacancy minutes follow its panel. Stated where nothing was owed and no room has sensor check-in; the sensor test is
DoorActs. The subject of a room's vacancy timer is its ARRIVED booking that covers the current slot on plane 0, or none;
that a subject stays so at its end minute, until its end is taken, is the model's choice (log entry 10). Where the
manual is silent it follows the model's choice (log entry 3). -/
def Obligations.MinuteAdvanceMarksDeadlines : Prop :=
  (∀ (s : State) (room : Nat) (subject : Nat × Rec → Prop),
    (∀ e, subject e ↔ e ∈ s.liveRecs ∧ e.2.room = room ∧ e.2.kind = .booking ∧ e.2.state = .arrived ∧
      e.2.plane = 0 ∧ e.2.start ≤ s.currentSlot ∧ s.currentSlot < e.2.stop) →
    (∀ e, subject e → (∀ f, subject f → f = e) → s.vacancySubject room = some (s.recHandle e.1)) ∧
    ((∀ e, ¬ subject e) → (s.vacancy room).subject = none → s.vacancySubject room = none) ∧
    (∀ h, (∀ e, ¬ subject e) → (s.vacancy room).subject = some h →
      (∀ r, Pool.named? s.book.pool h = some r → r.room = room → r.plane = 0 → r.state = .arrived →
        r.stop = s.currentSlot → s.vacancySubject room = some h) ∧
      ((∀ r, Pool.named? s.book.pool h = some r →
        ¬ (r.room = room ∧ r.plane = 0 ∧ r.state = .arrived ∧ r.stop = s.currentSlot)) →
        s.vacancySubject room = none))) ∧
  (∀ (s : State) (room : Nat) (q : Position), s.linkedPosition? room = some q ↔
    ∃ l, s.location room = some l ∧ s.position l.chain l.pos = q ∧ q.presence = .linked) ∧
  ∀ s : State, s.clock.set = true → s.clock.minute < 1440 → s.clock.oldDay = false → s.outstanding = [] →
    s.tablesOk → (∀ r, (s.room r).options.sensorCheckin = false) →
    ∃ t, exec .minuteAdvance s = .next t ∧
      t.clock = { s.clock with
        minute := s.clock.minute + 1, oldDay := decide (s.clock.minute = 1439) } ∧
      (∀ i r, s.rec? i = some r → t.rec? i = some { r with
        deadline := { r.deadline with due := decide (r.deadline.minute ≤ (s.clock.minute : Int) + 1) } }) ∧
      (∀ j o, s.order? j = some o → t.order? j = some { o with
        deadline := o.deadline.map (fun d =>
          { d with due := decide (d.minute ≤ (s.clock.minute : Int) + 1) }) }) ∧
      (∀ w e, s.waitEntry? w = some e → t.waitEntry? w = some { e with
        due := decide (e.expiry ≤ (s.clock.minute : Int) + 1) }) ∧
      (∀ room, t.display room = { s.display room with
        deadline := (s.display room).deadline.map (fun d =>
          { d with due := decide (d.minute ≤ (s.clock.minute : Int) + 1) }) }) ∧
      (∀ room h, room < 160 → (s.vacancy room).subject = some h → (t.vacancy room).subject = some h →
        (t.vacancy room).minutes =
          if (s.room room).options.autoEnd = false then 0
          else match s.linkedPosition? room with
            | none => (s.vacancy room).minutes
            | some q => match q.debounced with
              | none => (s.vacancy room).minutes
              | some .vacant => min ((s.vacancy room).minutes + 1) 20
              | some .occupied => 0) ∧
      sameBut [.clock, .records, .orders, .waitlist, .displays, .vacancy] s t

/-- R14, R38, R74, R152, R173, R174: the day rollover, with nothing left on plane 0, raises the day and sets the
minute to 0, lowers every plane and minute, drops the load of plane 0, takes the automatic snapshot and decides each
room's chronic flag; the deadlines of minute 0 fall due. Before midnight is reached there is no rollover. Where the
manual is silent it follows the model's choice (log entries 3, 14 and 16). -/
def Obligations.RolloverRenumbers : Prop :=
  (∀ s : State, s.clock.oldDay = false → exec .dayRollover s = .next s) ∧
  (∀ s : State, s.clock.oldDay = true → s.outstanding = [] → s.tablesOk →
    (∀ r, (s.room r).options.sensorCheckin = false) → (∀ i r, s.rec? i = some r → 1 ≤ r.plane) →
    s.servedOrders = [] →
    ∃ t, exec .dayRollover s = .next t ∧
      t.clock = { s.clock with day := (s.clock.day + 1) % 7, minute := 0, oldDay := false } ∧
      (∀ i r, s.rec? i = some r → t.rec? i = some { r with
        plane := r.plane - 1
        deadline := { r.deadline with
          minute := r.deadline.minute - 1440, due := decide (r.deadline.minute ≤ 1440) } }) ∧
      (∀ j o, s.order? j = some o → t.order? j = some { o with
        last := o.last - 96, cutoff := o.cutoff - 1440, dispatch := o.dispatch - 1440, delivery := o.delivery - 1440
        deadline := o.deadline.map (fun d =>
          { d with minute := d.minute - 1440, due := decide (d.minute ≤ 1440) }) }) ∧
      (∀ w e, s.waitEntry? w = some e → t.waitEntry? w = some { e with
        plane := e.plane - 1, expiry := e.expiry - 1440, due := decide (e.expiry ≤ 1440) }) ∧
      (∀ k g, k < 4 → g < 768 → t.loadEntry k g = if g < 672 then s.loadEntry k (g + 96) else ⟨0, false⟩) ∧
      (s.monitor.autoSnapshot = true →
        t.monitor.bank = { rooms := s.monitor.rooms, kitchens := s.monitor.kitchens, seq := s.monitor.bank.seq + 1,
                           kind := .auto, day := (s.clock.day + 1) % 7, minute := 0 } ∧
        t.monitor.rooms = [] ∧ t.monitor.kitchens = []) ∧
      (s.monitor.autoSnapshot = false → t.monitor.bank = s.monitor.bank ∧ t.monitor.rooms = s.monitor.rooms ∧
        t.monitor.kitchens = s.monitor.kitchens) ∧
      (∀ room, room < 160 → t.chronicState room =
        (if (s.room room).threshold ≤ (s.chronicState room).dayNoShows then
          ⟨0, min ((s.chronicState room).streak + 1) 3,
            decide (3 ≤ (s.chronicState room).streak + 1) || (s.chronicState room).chronic⟩
        else if (s.chronicState room).dayNoShows = 0 then ⟨0, 0, false⟩
        else ⟨0, 0, (s.chronicState room).chronic⟩)) ∧
      sameBut ([.clock, .displayRevs, .records, .vacancy, .waitlist, .displays, .load, .orders, .roomUsage,
        .kitchenUsage, .chronic, .bank] ++ noticeParts) s t)

/-- R37, R38, R166, R170: the day rollover finishes every record still live on plane 0 with the state of the table of
R37, and renumbers the records of later planes (stated where no order and no waitlist entry is live); it frees every
DELIVERED and FORFEIT order of service plane 0 (stated for one such order with nothing left on plane 0 and
AUTO_SNAPSHOT clear, so that the kitchen's live counters show it). Where the manual is silent it follows the model's
choice (log entries 14, 16 and 41). -/
def Obligations.RolloverFinishesAndFrees : Prop :=
  (∀ s : State, s.clock.oldDay = true → s.outstanding = [] → s.tablesOk →
     (∀ r, (s.room r).options.sensorCheckin = false) → s.wait.order = [] → (∀ j, s.order? j = none) →
     (∀ i r, s.rec? i = some r → r.room < 160 ∧ r.order = none) → s.entriesOfToday.length ≤ 256 →
     ∃ t, exec .dayRollover s = .next t ∧
       t.book.rev = satAdd 4294967295 s.book.rev s.entriesOfToday.length ∧
       (∀ i r, s.rec? i = some r → r.plane = 0 →
         Pool.entry t.book.pool i = ⟨(Pool.entry s.book.pool i).gen + 1, none⟩ ∧
         ∃ rev, (⟨s.recHandle i, tombKind r.kind, match r.state with
           | .held => .expired
           | .confirmed => if r.flags.unverified = false ∧ s.graceReleases r.room = true then .released else .ended
           | .arrived => .ended
           | .blocked => .removed, rev⟩ : Tombstone) ∈ t.book.ring) ∧
       (∀ i r, s.rec? i = some r → 1 ≤ r.plane → t.rec? i = some { r with
         plane := r.plane - 1
         deadline := { r.deadline with
           minute := r.deadline.minute - 1440, due := decide (r.deadline.minute ≤ 1440) } })) ∧
  (∀ (s : State) (j : Nat) (o : Order), s.clock.oldDay = true → s.outstanding = [] → s.tablesOk →
     (∀ r, (s.room r).options.sensorCheckin = false) → (∀ i r, s.rec? i = some r → 1 ≤ r.plane) →
     s.monitor.autoSnapshot = false → s.servedOrders = [j] → s.order? j = some o → s.book.ring.length < 256 →
     ∃ t, exec .dayRollover s = .next t ∧
       Pool.entry t.plan.orders j = ⟨(Pool.entry s.plan.orders j).gen + 1, none⟩ ∧
       t.book.ring = s.book.ring ++ [⟨Pool.handle s.plan.orders j, .order,
         if o.state = .delivered then .delivered else .forfeit, satAdd 4294967295 s.book.rev 1⟩] ∧
       t.kitchenUsage o.kitchen =
         (if o.state = .delivered then
           { s.kitchenUsage o.kitchen with
             ordersDelivered := satAdd 65535 (s.kitchenUsage o.kitchen).ordersDelivered 1
             coversDelivered := satAdd 65535 (s.kitchenUsage o.kitchen).coversDelivered o.covers }
         else
           { s.kitchenUsage o.kitchen with
             ordersForfeited := satAdd 65535 (s.kitchenUsage o.kitchen).ordersForfeited 1
             coversForfeited := satAdd 65535 (s.kitchenUsage o.kitchen).coversForfeited o.covers }) ∧
       (∀ h r, o.booking = some h → Pool.named? s.book.pool h = some r →
         (t.rec? h.index).map Rec.order = some none ∧
         (t.rec? h.index).map Rec.rev = some (satAdd 4294967295 s.book.rev 2)))

/-! ### Deadlines -/

/-- R27 to R31, R35, R82, R83, R169: a hold deadline, a grace end that releases, an UNVERIFIED_END and an END deadline
that have fallen due finish the record; a grace end releases where the room has no panel bound, or its location is a
LINKED position; HOLD_EXPIRED or NO_SHOW is raised where the table of R31 names it, the room
follows, and one scan follows. Stated for a record without an order; see OrderFollowsFinish. Where the manual is
silent it follows the model's choice (log entries 3 and 17). -/
def Obligations.DeadlinesThatFinish : Prop :=
  (∀ (s : State) (room : Nat), s.graceReleases room = true ↔ (s.room room).unitId = none ∨
    ∃ l, s.location room = some l ∧ (s.position l.chain l.pos).presence = .linked) ∧
  ∀ (s : State) (i : Nat) (r : Rec) (c : Instr) (fin : FinState), s.rec? i = some r → r.deadline.due = true →
    r.order = none → clockFinish s i r c fin →
    ∃ u, exec c s = .next u.promotionScan ∧ finished s u i r fin .clock ∧ roomFollows s u r.room ∧
      u.ports = (if fin = .expired then
          s.portsAfter (satAdd 4294967295 s.book.rev 1)
            { kind := .holdExpired, subject := .booking (s.recHandle i), owner := ownerPort r.owner
              data := [factsDatum r fin] }
        else if fin = .released then
          s.portsAfter (satAdd 4294967295 s.book.rev 1)
            { kind := .noShow, subject := .booking (s.recHandle i), owner := ownerPort r.owner
              data := [factsDatum r fin] }
        else s.ports) ∧
      sameBut finishParts s u

/-- R148, R156, R164: the order of a booking that is finished follows it, whether a deadline, CANCEL, CLOSE_ROOM with
FORCE, an END_NOW press or the vacancy timer finishes it: ACCEPTED is withdrawn, PREPARING and DISPATCHED are forfeited
and unlinked, DELIVERED and FORFEIT are unlinked. Where the manual is silent it follows the model's choice (log entry
17). -/
def Obligations.OrderFollowsFinish : Prop :=
  (∀ (s : State) (i : Nat) (r : Rec) (c : Instr) (fin : FinState) (h : Handle) (o : Order), s.rec? i = some r →
    r.deadline.due = true → clockFinish s i r c fin → r.order = some h →
    Pool.named? s.plan.orders h = some o →
    ∃ u, exec c s = .next u.promotionScan ∧
      Pool.entry u.book.pool i = ⟨(Pool.entry s.book.pool i).gen + 1, none⟩ ∧ sameOtherRecords i s u ∧
      orderFollowed s u h o ∧ roomFollows s u r.room ∧ sameBut (finishParts ++ orderParts) s u) ∧
  (∀ (p : Port) (tag : Byte) (h k : Handle) (r : Rec) (o : Order) (s : State), s.ready p (.cancel h r.rev) →
    h.index ≤ 2047 → Pool.named? s.book.pool h = some r → r.kind = .booking → r.order = some k →
    Pool.named? s.plan.orders k = some o →
    ∃ u, exec (.cancel p tag h r.rev) s = .next (u.promotionScan.placed p tag
        (Reply.okWith (.revision (satAdd 4294967295 s.book.rev 1)))) ∧
      Pool.entry u.book.pool h.index = ⟨h.gen + 1, none⟩ ∧ sameOtherRecords h.index s u ∧
      orderFollowed s u k o ∧ roomFollows s u r.room ∧
      sameBut (finishParts ++ orderParts) (s.taking p tag (.cancel h r.rev)) u) ∧
  (∀ (p : Port) (tag : Byte) (room i : Nat) (k : Handle) (r : Rec) (o : Order) (s : State),
    s.ready p (.closeRoomForce room) → room ≤ 159 → s.exhausted = false →
    Table.wf PoolEntry.fresh s.book.pool = true → s.roomRecs room = [(i, r)] → r.order = some k →
    Pool.named? s.plan.orders k = some o →
    ∃ u, exec (.closeRoomForce p tag room) s = .next (u.promotionScan.placed p tag (Reply.okWith (.number 1))) ∧
      (u.room room).settings = { (s.room room).settings with isOpen := false } ∧
      Pool.entry u.book.pool i = ⟨(Pool.entry s.book.pool i).gen + 1, none⟩ ∧ sameOtherRecords i s u ∧
      orderFollowed s u k o ∧ roomFollows s u room ∧
      sameBut (finishParts ++ orderParts ++ [.rooms]) (s.taking p tag (.closeRoomForce room)) u) ∧
  (∀ (s : State) (room i : Nat) (r : Rec) (k : Handle) (o : Order), s.coveringArrived room = some (i, r) →
    r.order = some k → Pool.named? s.plan.orders k = some o →
    ∃ u, s.press room .endNow = u.promotionScan ∧
      Pool.entry u.book.pool i = ⟨(Pool.entry s.book.pool i).gen + 1, none⟩ ∧ sameOtherRecords i s u ∧
      orderFollowed s u k o ∧ roomFollows s u room ∧ sameBut (finishParts ++ orderParts) s u) ∧
  (∀ (s : State) (room : Nat) (h k : Handle) (r : Rec) (o : Order), 20 ≤ (s.vacancy room).minutes →
    (s.vacancy room).subject = some h → Pool.named? s.book.pool h = some r → r.order = some k →
    Pool.named? s.plan.orders k = some o →
    ∃ u, exec (.autoEnd room) s = .next u.promotionScan ∧
      Pool.entry u.book.pool h.index = ⟨h.gen + 1, none⟩ ∧ sameOtherRecords h.index s u ∧
      orderFollowed s u k o ∧ roomFollows s u r.room ∧ sameBut (finishParts ++ orderParts) s u)

/-- R28, R81, R82, R84, R121, R122, R124: an arrival deadline makes the booking ARRIVED at its start slot, a grace end
without a LINKED panel marks it UNVERIFIED until its end, and a display deadline computes the display again; a deadline
that has not fallen due has no effect. What a room's display is: its state, the first of CLOSED, BLOCKED, BUSY,
CHECKIN_DUE, SOON and FREE whose condition holds; the current item, the next item and the catering badge; and the
display deadline, the least minute after now at which these could change. Where the manual is silent it follows the
model's choice (log entries 3 and 46). -/
def Obligations.DeadlinesThatGoOn : Prop :=
  (∀ (s : State) (i : Nat) (r : Rec), s.rec? i = some r → r.deadline.due = true → r.deadline.kind = .arrival →
    ∃ u, exec (.arrival i) s = .next u ∧
      u.rec? i = some { r with
        state := .arrived, arrival := some r.start
        deadline := ⟨.endAt, (r.plane : Int) * 1440 + 5 * (r.stop : Int), false⟩
        rev := satAdd 4294967295 s.book.rev 1 } ∧
      u.book.rev = satAdd 4294967295 s.book.rev 1 ∧ sameOtherRecords i s u ∧ roomFollows s u r.room ∧
      sameBut [.displayRevs, .records, .revision, .displays, .vacancy] s u) ∧
  (∀ (s : State) (i : Nat) (r : Rec), s.rec? i = some r → r.deadline.due = true → r.deadline.kind = .graceEnd →
    (s.room r.room).unitId ≠ none →
    (∀ l, s.location r.room = some l → (s.position l.chain l.pos).presence ≠ .linked) →
    ∃ u, exec (.graceEnd i) s = .next u ∧
      u.rec? i = some { r with
        flags := { r.flags with unverified := true }
        deadline := ⟨.unverifiedEnd, (r.plane : Int) * 1440 + 5 * (r.stop : Int), false⟩
        rev := satAdd 4294967295 s.book.rev 1 } ∧
      u.book.rev = satAdd 4294967295 s.book.rev 1 ∧ sameOtherRecords i s u ∧ roomFollows s u r.room ∧
      sameBut [.displayRevs, .records, .revision, .displays, .vacancy] s u) ∧
  (∀ (s : State) (room : Nat) (d : DisplayDeadline), (s.display room).deadline = some d → d.due = true →
    ∃ u, exec (.displayDeadline room) s = .next u ∧ displayFollows s u room ∧ sameOtherRooms room s u ∧
      sameBut [.displayRevs, .displays] s u) ∧
  (∀ (s : State) (i : Nat), (∀ r, s.rec? i = some r → r.deadline.due = false) →
    exec (.holdEnd i) s = .next s ∧ exec (.arrival i) s = .next s ∧ exec (.graceEnd i) s = .next s ∧
    exec (.unverifiedEnd i) s = .next s ∧ exec (.endDeadline i) s = .next s) ∧
  (∀ (s : State) (j : Nat), (∀ o d, s.order? j = some o → o.deadline = some d → d.due = false) →
    exec (.cutoffDeadline j) s = .next s ∧ exec (.dispatchDeadline j) s = .next s ∧
    exec (.lateDeadline j) s = .next s) ∧
  (∀ (s : State) (w : Nat), (∀ e, s.waitEntry? w = some e → e.due = false) → exec (.waitExpiry w) s = .next s) ∧
  (∀ (s : State) (room : Nat), (∀ d, (s.display room).deadline = some d → d.due = false) →
    exec (.displayDeadline room) s = .next s) ∧
  (∀ (s : State) (room : Nat), (s.vacancy room).minutes < 20 → exec (.autoEnd room) s = .next s) ∧
  (∀ (s : State) (room : Nat), s.serving = false →
    s.contentOf room = ⟨.closed, none, none, .none⟩ ∧ s.displayDeadlineOf room = none) ∧
  (∀ (s : State) (room : Nat) (blocked busy checkinDue soon : Prop), s.serving = true →
    (blocked ↔ ∃ i r, (i, r) ∈ s.liveRecs ∧ r.room = room ∧ r.kind = .block ∧ r.plane = 0 ∧
      r.start ≤ s.currentSlot ∧ s.currentSlot < r.stop) →
    (busy ↔ ∃ i r, (i, r) ∈ s.liveRecs ∧ r.room = room ∧ r.kind = .booking ∧ r.state = .arrived ∧ r.plane = 0 ∧
      r.start ≤ s.currentSlot ∧ s.currentSlot < r.stop) →
    (checkinDue ↔ ∃ i r, (i, r) ∈ s.liveRecs ∧ r.room = room ∧ r.kind = .booking ∧ r.state = .confirmed ∧
      r.startMinute - 10 ≤ s.now) →
    (soon ↔ ∃ i r, (i, r) ∈ s.liveRecs ∧ r.room = room ∧ r.kind = .booking ∧ r.startMinute ≤ s.now + 15 ∧
      s.now < r.endMinute) →
    ((s.room room).isOpen = false → s.displayState room = .closed) ∧
    ((s.room room).isOpen = true →
      (blocked → s.displayState room = .blocked) ∧
      (¬ blocked → busy → s.displayState room = .busy) ∧
      (¬ blocked → ¬ busy → checkinDue → s.displayState room = .checkinDue) ∧
      (¬ blocked → ¬ busy → ¬ checkinDue → soon → s.displayState room = .soon) ∧
      (¬ blocked → ¬ busy → ¬ checkinDue → ¬ soon → s.displayState room = .free))) ∧
  (∀ (s : State) (room : Nat) (current upcoming next : Nat × Rec → Prop), s.serving = true →
    (∀ e, current e ↔ e ∈ s.liveRecs ∧ e.2.room = room ∧ e.2.plane = 0 ∧ e.2.start ≤ s.currentSlot ∧
      s.currentSlot < e.2.stop) →
    (∀ e, upcoming e ↔ e ∈ s.liveRecs ∧ e.2.room = room ∧ e.2.plane ≤ 1 ∧ s.now < e.2.startMinute) →
    (∀ e, next e ↔ upcoming e ∧ ∀ f, upcoming f → f = e ∨ e.2.startMinute < f.2.startMinute) →
    ((s.room room).isOpen = false → s.contentOf room = ⟨.closed, none, none, .none⟩) ∧
    ((s.room room).isOpen = true →
      (s.contentOf room).state = s.displayState room ∧
      (∀ e, current e → (∀ f, current f → f = e) →
        (s.contentOf room).current = some ⟨e.2.label, e.2.organizer, 5 * e.2.stop⟩) ∧
      ((∀ e, ¬ current e) → (s.contentOf room).current = none) ∧
      (∀ e, next e → (s.contentOf room).next = some ⟨e.2.plane, 5 * e.2.start, e.2.label⟩) ∧
      ((∀ e, ¬ upcoming e) → (s.contentOf room).next = none) ∧
      (∀ e, e.2.kind = .booking →
        (current e ∧ ∀ f, current f → f = e) ∨ (next e ∧ ∀ f, current f → f.2.kind = .block) →
        (s.contentOf room).badge = match e.2.order with
          | none => .none
          | some h => match Pool.named? s.plan.orders h with
            | none => .none
            | some o => match o.state with
              | .accepted | .preparing | .dispatched => .due
              | .delivered => .delivered
              | .forfeit => .none) ∧
      ((∀ f, current f → f.2.kind = .block) → (∀ e, ¬ upcoming e) ∨ (∃ e, next e ∧ e.2.kind = .block) →
        (s.contentOf room).badge = .none))) ∧
  (∀ (s : State) (room : Nat) (candidate : Int → Prop), s.serving = true →
    (∀ m, candidate m ↔ s.now < m ∧ ∃ i r, (i, r) ∈ s.liveRecs ∧ r.room = room ∧ r.plane ≤ 1 ∧
      (m = r.startMinute - 15 ∨ m = r.startMinute - 10 ∨ m = r.startMinute ∨ m = r.endMinute)) →
    ((∀ m, ¬ candidate m) → s.displayDeadlineOf room = none) ∧
    (∀ m, candidate m → (∀ n, candidate n → m ≤ n) → s.displayDeadlineOf room = some ⟨m, false⟩))

/-- R69, R86, R94: a waitlist expiry frees the entry with its fate and WAIT_EXPIRED; twenty vacancy minutes end the
subject booking early, its end lowered to the slot after the current one, with EARLY_END and, for a port's booking,
BOOKING_CHANGED. The second is stated for a booking without an order; see OrderFollowsFinish. Where the manual is
silent it follows the model's choice (log entries 3 and 17). -/
def Obligations.ExpiryAndAutoEnd : Prop :=
  (∀ (s : State) (w : Nat) (e : WaitEntry), s.waitEntry? w = some e → e.due = true →
    ∃ u, exec (.waitExpiry w) s = .next u ∧
      Pool.entry u.wait.pool w = ⟨(Pool.entry s.wait.pool w).gen + 1, none⟩ ∧ sameOtherEntries w s u ∧
      u.wait.order = s.wait.order.filter (fun v => !(v == w)) ∧
      Table.read none u.wait.fates w = some ⟨(Pool.entry s.wait.pool w).gen, .expired⟩ ∧
      (∀ v, v ≠ w → Table.read none u.wait.fates v = Table.read none s.wait.fates v) ∧
      u.ports = s.portsAfter s.book.rev
        { kind := .waitExpired, subject := .wait (Pool.handle s.wait.pool w), owner := some e.requester
          hi := .cause .expired, tag := some e.tag } ∧
      sameBut ([.waitlist] ++ noticeParts) s u) ∧
  (∀ (s : State) (room : Nat) (h : Handle) (r n : Rec), 20 ≤ (s.vacancy room).minutes →
    (s.vacancy room).subject = some h → Pool.named? s.book.pool h = some r → r.order = none →
    n = { r with stop := min (s.currentSlot + 1) r.stop } →
    ∃ u, exec (.autoEnd room) s = .next u.promotionScan ∧ finished s u h.index n .ended .panel ∧
      roomFollows s u r.room ∧
      u.ports = State.portsAfterChange { s with ports := (s.portsAfter (satAdd 4294967295 s.book.rev 1)
            { kind := .earlyEnd, subject := .booking h, owner := ownerPort r.owner, hi := .cause .autoEnd
              data := [factsDatum n .ended] }) }
          (satAdd 4294967295 s.book.rev 1) h r.owner .panel .autoEnd [factsDatum n .ended] ∧
      sameBut finishParts s u)

/-- R148, R156, R162, R163: the deadlines of an order. The cut-off of a HELD booking's order withdraws it and marks
the booking CATER_LOST; another's makes it PREPARING with its dispatch deadline; the dispatch deadline makes it
DISPATCHED with its LATE deadline; the LATE deadline sets LATE_SENT and raises DELIVERY_LATE. Where the manual is
silent it follows the model's choice (log entry 3). -/
def Obligations.OrderDeadlines : Prop :=
  (∀ (s : State) (j : Nat) (o : Order) (m : Int) (h : Handle) (b : Rec), s.order? j = some o →
    o.deadline = some ⟨.cutoff, m, true⟩ → o.booking = some h → Pool.named? s.book.pool h = some b →
    b.state = .held →
    ∃ u, exec (.cutoffDeadline j) s = .next u ∧
      Pool.entry u.plan.orders j = ⟨(Pool.entry s.plan.orders j).gen + 1, none⟩ ∧ sameOtherOrders j s u ∧
      u.book.ring.getLast? = some ⟨Pool.handle s.plan.orders j, .order, .withdrawn, satAdd 4294967295 s.book.rev 1⟩ ∧
      (∀ k g, g < 768 → (u.loadEntry k g).load = (s.loadEntry k g).load - o.shareIn k g) ∧
      u.rec? h.index = some { b with
        order := none, flags := { b.flags with caterLost := true }, rev := satAdd 4294967295 s.book.rev 2 } ∧
      sameOtherRecords h.index s u ∧ u.book.rev = satAdd 4294967295 s.book.rev 2 ∧ displayFollows s u b.room ∧
      sameOtherRooms b.room s u ∧
      (s.overOk → (∀ k, s.overWindows k = []) → u.ports = s.portsAfter (satAdd 4294967295 s.book.rev 2)
        { kind := .caterLost, subject := .booking h, owner := ownerPort b.owner, hi := .cause .cutoff
          data := [.order (Pool.handle s.plan.orders j)] }) ∧
      sameBut (orderParts ++ [.records, .displayRevs, .displays]) s u) ∧
  (∀ (s : State) (j : Nat) (o : Order) (m : Int) (h : Handle) (b : Rec), s.order? j = some o →
    o.deadline = some ⟨.cutoff, m, true⟩ → o.booking = some h → Pool.named? s.book.pool h = some b →
    b.state ≠ .held →
    ∃ u, exec (.cutoffDeadline j) s = .next u ∧
      u.order? j = some { o with
        state := .preparing, deadline := some ⟨.dispatch, o.dispatch, false⟩
        rev := satAdd 4294967295 s.book.rev 1 } ∧
      sameOtherOrders j s u ∧ u.book.rev = satAdd 4294967295 s.book.rev 1 ∧ displayFollows s u b.room ∧
      sameOtherRooms b.room s u ∧
      u.ports = s.portsAfter (satAdd 4294967295 s.book.rev 1)
        { kind := .cutoff, subject := .order (Pool.handle s.plan.orders j), owner := some o.placing
          data := [.kitchen o.kitchen, .count o.covers, .minute o.dispatch] } ∧
      sameBut ([.orders, .revision, .displayRevs, .displays] ++ noticeParts) s u) ∧
  (∀ (s : State) (j : Nat) (o : Order) (m : Int) (h : Handle) (b : Rec), s.order? j = some o →
    o.deadline = some ⟨.dispatch, m, true⟩ → o.booking = some h → Pool.named? s.book.pool h = some b →
    ∃ u, exec (.dispatchDeadline j) s = .next u ∧
      u.order? j = some { o with
        state := .dispatched, deadline := some ⟨.late, o.delivery + 15, false⟩
        rev := satAdd 4294967295 s.book.rev 1 } ∧
      sameOtherOrders j s u ∧ u.book.rev = satAdd 4294967295 s.book.rev 1 ∧ displayFollows s u b.room ∧
      sameOtherRooms b.room s u ∧
      u.ports = s.portsAfter (satAdd 4294967295 s.book.rev 1)
        { kind := .dispatchDue, subject := .order (Pool.handle s.plan.orders j), owner := some o.placing
          data := [.kitchen o.kitchen, .building (s.room b.room).building, .minute o.delivery] } ∧
      sameBut ([.orders, .revision, .displayRevs, .displays] ++ noticeParts) s u) ∧
  (∀ (s : State) (j : Nat) (o : Order) (m : Int), s.order? j = some o → o.deadline = some ⟨.late, m, true⟩ →
    ∃ u, exec (.lateDeadline j) s = .next u ∧
      u.order? j = some { o with
        lateSent := true, deadline := none, rev := satAdd 4294967295 s.book.rev 1 } ∧
      sameOtherOrders j s u ∧ u.book.rev = satAdd 4294967295 s.book.rev 1 ∧
      u.ports = s.portsAfter (satAdd 4294967295 s.book.rev 1)
        { kind := .deliveryLate, subject := .order (Pool.handle s.plan.orders j), owner := some o.placing
          data := [.minute o.delivery, .booking o.booking] } ∧
      sameBut ([.orders, .revision] ++ noticeParts) s u)

/-! ### Booking commands -/

/-- R22, R24, R42 to R44: a HOLD without catering whose padded interval is free creates a HELD booking in the lowest
free entry, with its hold deadline the earlier of now + hold minutes and its start; a hold above 60 minutes is lowered
to 60 with CLAMPED. A closed room is refused STATE, a start that has passed TOO_LATE, too many attendees CAPACITY.
That returned minutes are horizon minutes is the model's choice (log entry 34). -/
def Obligations.HoldCreatesBooking : Prop :=
  ∀ (p : Port) (tag : Byte) (a : HoldArgs) (s : State) (st en : Nat), s.ready p (.hold a) → a.room ≤ 159 →
    a.plane ≤ 7 → a.start ≤ 1439 → a.stop ≤ 1440 → st = a.start / 5 → en = (a.stop + 4) / 5 → st < en →
    en - st ≤ 144 → 1 ≤ a.attendees → a.attendees ≤ 400 → a.holdMinutes ≤ 255 → a.cater = none →
    ((s.room a.room).isOpen = false →
      exec (.hold p tag a) s = .next ((s.taking p tag (.hold a)).placed p tag (Reply.refusal .state))) ∧
    ((s.room a.room).isOpen = true → a.plane = 0 → st < s.currentSlot →
      exec (.hold p tag a) s = .next ((s.taking p tag (.hold a)).placed p tag (Reply.refusal .tooLate))) ∧
    ((s.room a.room).isOpen = true → ¬ (a.plane = 0 ∧ st < s.currentSlot) →
      (s.room a.room).seats < a.attendees →
      exec (.hold p tag a) s = .next ((s.taking p tag (.hold a)).placed p tag (Reply.refusal .capacity))) ∧
    (∀ (i held : Nat) (deadline : Int), (s.room a.room).isOpen = true → ¬ (a.plane = 0 ∧ st < s.currentSlot) →
      a.attendees ≤ (s.room a.room).seats → isLowestFree s.book.pool 2048 i →
      s.freeRun a.room a.plane (st - (s.room a.room).setup) (min (en + (s.room a.room).clear) 288) none →
      held = (if a.holdMinutes = 0 then 10 else min a.holdMinutes 60) →
      deadline = min (s.now + (held : Int)) ((a.plane : Int) * 1440 + 5 * (st : Int)) →
      ∃ u, exec (.hold p tag a) s = .next (u.placed p tag
          { code := .ok, clamped := decide (60 < a.holdMinutes)
            payload := .held (s.recHandle i) (satAdd 4294967295 s.book.rev 1)
              ((a.plane : Int) * 1440 + 5 * (st : Int)) ((a.plane : Int) * 1440 + 5 * (en : Int)) deadline held none
              none }) ∧
        u.rec? i = some
          { kind := .booking, room := a.room, plane := a.plane, start := st, stop := en
            setup := (s.room a.room).setup, clear := (s.room a.room).clear, state := .held, owner := .port p
            organizer := a.organizer, label := a.label, attendees := some a.attendees
            deadline := ⟨.holdEnd, deadline, false⟩, arrival := none, rev := satAdd 4294967295 s.book.rev 1
            order := none, flags := ⟨false, false, false, false⟩, extensions := 0 } ∧
        u.recHandle i = s.recHandle i ∧ sameOtherRecords i s u ∧ u.book.rev = satAdd 4294967295 s.book.rev 1 ∧
        roomFollows s u a.room ∧
        sameBut ([.records, .revision] ++ displayParts) (s.taking p tag (.hold a)) u)

/-- R11, R24, R42, R43, R46, R53, R64, R66: HOLD, BLOCK and WAIT_ADD are refused RANGE where a room, plane, minute,
length, attendee count, flex or expiry is out of its range; a HOLD that conflicts, or finds the booking pool full, is
refused CONFLICT with the first conflicting record, or FULL; with WAIT_IF_BUSY it joins the waitlist instead, where that
has a free entry. Where the manual is silent it follows the model's choice (log entries 33 and 34). -/
def Obligations.RefusedPlacementsAndBusyHolds : Prop :=
  (∀ (p : Port) (tag : Byte) (a : HoldArgs) (s : State), s.ready p (.hold a) →
    159 < a.room ∨ 7 < a.plane ∨ 1439 < a.start ∨ 1440 < a.stop ∨ (a.stop + 4) / 5 ≤ a.start / 5 ∨
      144 < (a.stop + 4) / 5 - a.start / 5 ∨ a.attendees < 1 ∨ 400 < a.attendees →
    exec (.hold p tag a) s = .next ((s.taking p tag (.hold a)).placed p tag (Reply.refusal .range))) ∧
  (∀ (p : Port) (tag : Byte) (a : BlockArgs) (s : State), s.ready p (.block a) →
    159 < a.room ∨ 7 < a.plane ∨ 1439 < a.start ∨ 1440 < a.stop ∨ (a.stop + 4) / 5 ≤ a.start / 5 →
    exec (.block p tag a) s = .next ((s.taking p tag (.block a)).placed p tag (Reply.refusal .range))) ∧
  (∀ (p : Port) (tag : Byte) (a : WaitAddArgs) (s : State), s.ready p (.waitAdd a) →
    a.rooms = [] ∨ 4 < a.rooms.length ∨ (∃ r, r ∈ a.rooms ∧ 159 < r) ∨ ¬ a.rooms.Nodup ∨ 7 < a.plane ∨
      1439 < a.start ∨ 1440 < a.stop ∨ (a.stop + 4) / 5 ≤ a.start / 5 ∨ 144 < (a.stop + 4) / 5 - a.start / 5 ∨
      24 < a.flex ∨ a.attendees < 1 ∨ 400 < a.attendees ∨
      (∃ d m, a.expiry = some (d, m) ∧
        (7 < d ∨ 1439 < m ∨ a.plane * 1440 + 5 * (a.start / 5) < d * 1440 + m)) →
    exec (.waitAdd p tag a) s = .next ((s.taking p tag (.waitAdd a)).placed p tag (Reply.refusal .range))) ∧
  (∀ (p : Port) (tag : Byte) (a : HoldArgs) (s : State) (st en : Nat) (code : Code) (first : Option Handle),
     s.ready p (.hold a) → a.room ≤ 159 →
     a.plane ≤ 7 → a.start ≤ 1439 → a.stop ≤ 1440 → st = a.start / 5 → en = (a.stop + 4) / 5 → st < en →
     en - st ≤ 144 → 1 ≤ a.attendees → a.attendees ≤ 400 → a.holdMinutes ≤ 255 →
     (∀ q, a.cater = some q → s.requestOut q = false ∧
       (a.plane : Int) * 1440 + 5 * (st : Int) + q.offset ≤ 11519) →
     (s.room a.room).isOpen = true → ¬ (a.plane = 0 ∧ st < s.currentSlot) → a.attendees ≤ (s.room a.room).seats →
     ((∃ i, s.firstConflict a.room a.plane (st - (s.room a.room).setup)
         (min (en + (s.room a.room).clear) 288) none = some i ∧ code = .conflict ∧ first = some (s.recHandle i)) ∨
      (s.freeRun a.room a.plane (st - (s.room a.room).setup) (min (en + (s.room a.room).clear) 288) none ∧
         (∀ i, i < 2048 → s.rec? i ≠ none) ∧ code = .full ∧ first = none)) →
     (a.waitIfBusy = false → exec (.hold p tag a) s =
       .next ((s.taking p tag (.hold a)).placed p tag
         (Reply.refusalWith code (match first with | some h => .booking h | none => .full .bookingPool)))) ∧
     (a.waitIfBusy = true → (∀ w, w < 64 → s.waitEntry? w ≠ none) → exec (.hold p tag a) s =
       .next ((s.taking p tag (.hold a)).placed p tag (Reply.refusalWith .full (.full .waitlist)))) ∧
     (∀ w, a.waitIfBusy = true → isLowestFree s.wait.pool 64 w →
       ∃ u, exec (.hold p tag a) s = .next (u.placed p tag
           (Reply.okWith (.waitlisted (Pool.handle s.wait.pool w) ((a.plane : Int) * 1440 + 5 * (st : Int))
             ((a.plane : Int) * 1440 + 5 * (en : Int)) code first))) ∧
         u.waitEntry? w = some
           { rooms := [a.room], plane := a.plane, earliest := st, length := en - st, flex := 0
             attendees := a.attendees, organizer := a.organizer, label := a.label, cater := a.cater
             expiry := (a.plane : Int) * 1440 + 5 * (st : Int), due := false, requester := p, tag := tag } ∧
         Pool.handle u.wait.pool w = Pool.handle s.wait.pool w ∧ sameOtherEntries w s u ∧
         u.wait.order = s.wait.order ++ [w] ∧ u.wait.fates = s.wait.fates ∧
         sameBut [.waitlist] (s.taking p tag (.hold a)) u))

/-- R47, R48, R55, R75: CONFIRM makes a HELD booking CONFIRMED with its grace end or arrival deadline; MODIFY stores the
fields carried, and changes nothing where they equal those stored. An actor other than the owner raises
BOOKING_CHANGED. -/
def Obligations.ConfirmAndModify : Prop :=
  (∀ (p : Port) (tag : Byte) (h : Handle) (r : Rec) (d : Deadline) (s : State),
    s.ready p (.confirm h r.rev) → h.index ≤ 2047 → Pool.named? s.book.pool h = some r → r.kind = .booking →
    (r.state ≠ .held → exec (.confirm p tag h r.rev) s =
      .next ((s.taking p tag (.confirm h r.rev)).placed p tag (Reply.refusal .state))) ∧
    (r.state = .held →
      d = (if (s.room r.room).options.checkinRequired = true then
          ⟨.graceEnd, r.startMinute + ((if (s.chronicState r.room).chronic = true
            then max ((s.room r.room).grace / 2) 5 else (s.room r.room).grace : Nat) : Int), false⟩
        else ⟨.arrival, r.startMinute, false⟩) →
      ∃ u, exec (.confirm p tag h r.rev) s = .next (u.placed p tag
          (Reply.okWith (.confirmed (satAdd 4294967295 s.book.rev 1) d.kind d.minute))) ∧
        u.rec? h.index = some { r with
          state := .confirmed, deadline := d, rev := satAdd 4294967295 s.book.rev 1 } ∧
        u.recHandle h.index = h ∧ sameOtherRecords h.index s u ∧ u.book.rev = satAdd 4294967295 s.book.rev 1 ∧
        roomFollows s u r.room ∧
        u.ports = State.portsAfterChange (s.taking p tag (.confirm h r.rev)) (satAdd 4294967295 s.book.rev 1) h r.owner
          (.port p) .confirm [] ∧
        sameBut checkInParts (s.taking p tag (.confirm h r.rev)) u)) ∧
  (∀ (p : Port) (tag : Byte) (h : Handle) (r n : Rec) (a : ModifyArgs) (s : State),
    s.ready p (.modify h r.rev a) → h.index ≤ 2047 → Pool.named? s.book.pool h = some r → r.kind = .booking →
    (a.label ≠ none ∨ a.organizer ≠ none ∨ a.attendees ≠ none) →
    (∀ k, a.attendees = some k → 1 ≤ k ∧ k ≤ 400) →
    n = { r with
      label := a.label.getD r.label, organizer := a.organizer.getD r.organizer
      attendees := match a.attendees with | some k => some k | none => r.attendees } →
    (∀ k, a.attendees = some k → (s.room r.room).seats < k → exec (.modify p tag h r.rev a) s =
      .next ((s.taking p tag (.modify h r.rev a)).placed p tag (Reply.refusal .capacity))) ∧
    ((∀ k, a.attendees = some k → k ≤ (s.room r.room).seats) → n = r → exec (.modify p tag h r.rev a) s =
      .next ((s.taking p tag (.modify h r.rev a)).placed p tag (Reply.okWith (.revision r.rev)))) ∧
    ((∀ k, a.attendees = some k → k ≤ (s.room r.room).seats) → n ≠ r →
      ∃ u, exec (.modify p tag h r.rev a) s = .next (u.placed p tag
          (Reply.okWith (.revision (satAdd 4294967295 s.book.rev 1)))) ∧
        u.rec? h.index = some { n with rev := satAdd 4294967295 s.book.rev 1 } ∧
        u.recHandle h.index = h ∧ sameOtherRecords h.index s u ∧ u.book.rev = satAdd 4294967295 s.book.rev 1 ∧
        roomFollows s u r.room ∧
        u.ports = State.portsAfterChange (s.taking p tag (.modify h r.rev a)) (satAdd 4294967295 s.book.rev 1) h r.owner
          (.port p) .modify [] ∧
        sameBut checkInParts (s.taking p tag (.modify h r.rev a)) u))

/-- R49, R50, R51, R165: a MOVE is refused STATE for a state that does not move or a closed room, TOO_LATE, CAPACITY and
CONFLICT in that order; a move to where the booking stands changes nothing; a move without catering stores the
destination with its room's padding and the deadline of R50, and one scan follows. An ACCEPTED order is tested again for
the destination and takes what the test gives, or the move is refused with the test's failure; a PREPARING or DISPATCHED
one is kept where plane, start and building stay, and locks the booking otherwise; a DELIVERED or FORFEIT one stays
linked. With DROP_CATERING the link is cleared in the booking's own change and the order follows. Where the manual is
silent it follows the model's choice (log entries 17, 28, 34 and 44). -/
def Obligations.MoveRelocates : Prop :=
  ∀ (p : Port) (tag : Byte) (h : Handle) (r n : Rec) (a : MoveArgs) (d : Deadline) (s : State),
    s.ready p (.move h r.rev a) → h.index ≤ 2047 → Pool.named? s.book.pool h = some r → r.kind = .booking →
    (a.room ≠ none ∨ a.plane ≠ none ∨ a.times ≠ none) → (∀ k, a.room = some k → k ≤ 159) →
    (∀ k, a.plane = some k → k ≤ 7) →
    (∀ t, a.times = some t → t.1 ≤ 1439 ∧ t.2 ≤ 1440 ∧ t.1 / 5 < (t.2 + 4) / 5 ∧ (t.2 + 4) / 5 - t.1 / 5 ≤ 144) →
    n = { r with
      room := a.room.getD r.room, plane := a.plane.getD r.plane
      start := match a.times with | some t => t.1 / 5 | none => r.start
      stop := match a.times with | some t => (t.2 + 4) / 5 | none => r.stop
      setup := (s.room (a.room.getD r.room)).setup, clear := (s.room (a.room.getD r.room)).clear } →
    d = (if r.state = .held then { r.deadline with minute := min r.deadline.minute n.startMinute }
      else if (s.room n.room).options.checkinRequired = true then
        ⟨.graceEnd, n.startMinute + (s.effectiveGrace n.room : Int), false⟩
      else ⟨.arrival, n.startMinute, false⟩) →
    (r.state ≠ .held → (r.state ≠ .confirmed ∨ r.flags.unverified = true) → exec (.move p tag h r.rev a) s =
      .next ((s.taking p tag (.move h r.rev a)).placed p tag (Reply.refusal .state))) ∧
    (r.state = .held ∨ (r.state = .confirmed ∧ r.flags.unverified = false) → (s.room n.room).isOpen = false →
      exec (.move p tag h r.rev a) s =
        .next ((s.taking p tag (.move h r.rev a)).placed p tag (Reply.refusal .state))) ∧
    (r.state = .held ∨ (r.state = .confirmed ∧ r.flags.unverified = false) → (s.room n.room).isOpen = true →
      ¬ (n.plane = r.plane ∧ n.start = r.start) → n.plane = 0 → n.start < s.currentSlot →
      exec (.move p tag h r.rev a) s =
        .next ((s.taking p tag (.move h r.rev a)).placed p tag (Reply.refusal .tooLate))) ∧
    (r.state = .held ∨ (r.state = .confirmed ∧ r.flags.unverified = false) → (s.room n.room).isOpen = true →
      ((n.plane = r.plane ∧ n.start = r.start) ∨ ¬ (n.plane = 0 ∧ n.start < s.currentSlot)) →
      (∀ k, r.attendees = some k → (s.room n.room).seats < k → exec (.move p tag h r.rev a) s =
        .next ((s.taking p tag (.move h r.rev a)).placed p tag (Reply.refusal .capacity))) ∧
      (∀ i, (∀ k, r.attendees = some k → k ≤ (s.room n.room).seats) →
        s.firstConflict n.room n.plane n.padStart n.padEnd (some h.index) = some i →
        exec (.move p tag h r.rev a) s = .next ((s.taking p tag (.move h r.rev a)).placed p tag
          (Reply.refusalWith .conflict (.booking (s.recHandle i)))))) ∧
    (r.state = .held ∨ (r.state = .confirmed ∧ r.flags.unverified = false) → (s.room n.room).isOpen = true →
      ((n.plane = r.plane ∧ n.start = r.start) ∨ ¬ (n.plane = 0 ∧ n.start < s.currentSlot)) →
      (∀ k, r.attendees = some k → k ≤ (s.room n.room).seats) →
      s.freeRun n.room n.plane n.padStart n.padEnd (some h.index) →
      ((n.room = r.room ∧ n.plane = r.plane ∧ n.start = r.start ∧ n.stop = r.stop ∧ n.padStart = r.padStart ∧
          n.padEnd = r.padEnd) →
        exec (.move p tag h r.rev a) s = .next ((s.taking p tag (.move h r.rev a)).placed p tag
          (Reply.okWith (.moved r.rev r.room r.plane r.startMinute r.endMinute r.padStart r.padEnd r.deadline.kind
            r.deadline.minute none)))) ∧
      (¬ (n.room = r.room ∧ n.plane = r.plane ∧ n.start = r.start ∧ n.stop = r.stop ∧ n.padStart = r.padStart ∧
          n.padEnd = r.padEnd) →
        (∀ k o, r.order = some k → Pool.named? s.plan.orders k = some o →
          (o.state = .preparing ∨ o.state = .dispatched) → a.dropCatering = false →
          ¬ (n.plane = r.plane ∧ n.start = r.start ∧ (s.room n.room).building = (s.room r.room).building) →
          exec (.move p tag h r.rev a) s =
            .next ((s.taking p tag (.move h r.rev a)).placed p tag (Reply.refusal .caterLocked))) ∧
        (r.order = none →
          ∃ u, exec (.move p tag h r.rev a) s = .next (u.promotionScan.placed p tag
              (Reply.okWith (.moved (satAdd 4294967295 s.book.rev 1) n.room n.plane n.startMinute n.endMinute
                n.padStart n.padEnd d.kind d.minute none))) ∧
            u.rec? h.index = some { n with deadline := d, rev := satAdd 4294967295 s.book.rev 1 } ∧
            u.recHandle h.index = h ∧ sameOtherRecords h.index s u ∧ u.book.rev = satAdd 4294967295 s.book.rev 1 ∧
            displayFollows s u r.room ∧ displayFollows s u n.room ∧ timerFollows s u r.room ∧
            timerFollows s u n.room ∧
            u.ports = State.portsAfterChange (s.taking p tag (.move h r.rev a)) (satAdd 4294967295 s.book.rev 1) h
              r.owner (.port p) .move [] ∧
            sameBut checkInParts (s.taking p tag (.move h r.rev a)) u) ∧
        (∀ k o, r.order = some k → Pool.named? s.plan.orders k = some o →
          ((o.state = .delivered ∨ o.state = .forfeit) ∨ ((o.state = .preparing ∨ o.state = .dispatched) ∧
            n.plane = r.plane ∧ n.start = r.start ∧ (s.room n.room).building = (s.room r.room).building)) →
          a.dropCatering = false →
          ∃ u, exec (.move p tag h r.rev a) s = .next (u.promotionScan.placed p tag
              (Reply.okWith (.moved (satAdd 4294967295 s.book.rev 1) n.room n.plane n.startMinute n.endMinute
                n.padStart n.padEnd d.kind d.minute none))) ∧
            u.rec? h.index = some { n with deadline := d, order := some k, rev := satAdd 4294967295 s.book.rev 1 } ∧
            u.recHandle h.index = h ∧ sameOtherRecords h.index s u ∧ u.book.rev = satAdd 4294967295 s.book.rev 1 ∧
            displayFollows s u r.room ∧ displayFollows s u n.room ∧ timerFollows s u r.room ∧
            timerFollows s u n.room ∧
            sameBut checkInParts (s.taking p tag (.move h r.rev a)) u) ∧
        (∀ k o q, r.order = some k → Pool.named? s.plan.orders k = some o → o.state = .accepted →
          a.dropCatering = false →
          q = { kitchen := .kitchen o.kitchen, cls := o.cls, covers := o.covers, offset := o.offset } →
          (∀ e, (s.withoutShares o).admission false n.room n.startMinute q = .error e →
            exec (.move p tag h r.rev a) s =
              .next ((s.taking p tag (.move h r.rev a)).placed p tag (match e with
                | .orderPoolFull => Reply.refusalWith .full (.full .orderPool)
                | .tooSoon => Reply.refusal .tooSoon
                | .kitchenFull k g => Reply.refusalWith .kitchenFull (.kitchenFull k g)
                | .range => Reply.refusal .range))) ∧
          (∀ m, (s.withoutShares o).admission false n.room n.startMinute q = .ok m →
            ∃ u, exec (.move p tag h r.rev a) s = .next (u.promotionScan.placed p tag
                { code := .ok, clamped := m.clamped
                  payload := .moved (satAdd 4294967295 s.book.rev 1) n.room n.plane n.startMinute n.endMinute
                    n.padStart n.padEnd d.kind d.minute (if m.clamped then some m.covers else none) }) ∧
              u.rec? h.index = some { n with
                deadline := d, order := some k, rev := satAdd 4294967295 s.book.rev 1 } ∧
              u.recHandle h.index = h ∧ sameOtherRecords h.index s u ∧
              (admittedOrder o q m = o →
                u.book.rev = satAdd 4294967295 s.book.rev 1 ∧
                sameBut checkInParts (s.taking p tag (.move h r.rev a)) u) ∧
              (admittedOrder o q m ≠ o →
                u.order? k.index = some { admittedOrder o q m with rev := satAdd 4294967295 s.book.rev 2 } ∧
                Pool.handle u.plan.orders k.index = k ∧ sameOtherOrders k.index s u ∧
                (∀ w g, g < 768 → (u.loadEntry w g).load =
                  (s.loadEntry w g).load - o.shareIn w g + (admittedOrder o q m).shareIn w g) ∧
                u.book.rev = satAdd 4294967295 s.book.rev 2) ∧
              displayFollows s u r.room ∧ displayFollows s u n.room ∧ timerFollows s u r.room ∧
              timerFollows s u n.room ∧
              sameBut (checkInParts ++ [.orders, .load]) (s.taking p tag (.move h r.rev a)) u)) ∧
        (∀ k o, r.order = some k → Pool.named? s.plan.orders k = some o → a.dropCatering = true →
          ∃ u, exec (.move p tag h r.rev a) s = .next (u.promotionScan.placed p tag
              (Reply.okWith (.moved (satAdd 4294967295 s.book.rev 1) n.room n.plane n.startMinute n.endMinute
                n.padStart n.padEnd d.kind d.minute none))) ∧
            u.rec? h.index = some { n with
              deadline := d, order := none, rev := satAdd 4294967295 s.book.rev 1 } ∧
            u.recHandle h.index = h ∧ sameOtherRecords h.index s u ∧ orderFollowed s u k o ∧
            displayFollows s u r.room ∧ displayFollows s u n.room ∧ timerFollows s u r.room ∧
            timerFollows s u n.room ∧
            (o.state = .preparing ∨ o.state = .dispatched →
              u.ports = State.portsAfter { (s.taking p tag (.move h r.rev a)) with
                  ports := State.portsAfterChange (s.taking p tag (.move h r.rev a)) (satAdd 4294967295 s.book.rev 1)
                    h r.owner (.port p) .move [] }
                (satAdd 4294967295 s.book.rev 2)
                { kind := .caterForfeit, subject := .order k, owner := some o.placing, hi := .cause .dropCatering
                  lo := .actor (.port p), data := [.booking o.booking] }) ∧
            sameBut (checkInParts ++ orderParts) (s.taking p tag (.move h r.rev a)) u)))

/-- R31, R52, R54, R55, R70: CANCEL finishes a booking CANCELLED and UNBLOCK a block REMOVED, with BOOKING_CHANGED for an
actor other than the owner, and one scan follows. Stated for a booking without an order; see OrderFollowsFinish. -/
def Obligations.CancelAndUnblock : Prop :=
  (∀ (p : Port) (tag : Byte) (h : Handle) (r : Rec) (s : State), s.ready p (.cancel h r.rev) → h.index ≤ 2047 →
    Pool.named? s.book.pool h = some r → r.kind = .booking → r.order = none →
    ∃ u, exec (.cancel p tag h r.rev) s = .next (u.promotionScan.placed p tag
        (Reply.okWith (.revision (satAdd 4294967295 s.book.rev 1)))) ∧
      finished s u h.index r .cancelled (.port p) ∧ roomFollows s u r.room ∧
      u.ports = State.portsAfterChange (s.taking p tag (.cancel h r.rev)) (satAdd 4294967295 s.book.rev 1) h r.owner
        (.port p) .cancel [factsDatum r .cancelled] ∧
      sameBut finishParts (s.taking p tag (.cancel h r.rev)) u) ∧
  (∀ (p : Port) (tag : Byte) (h : Handle) (r : Rec) (s : State), s.ready p (.unblock h r.rev) → h.index ≤ 2047 →
    Pool.named? s.book.pool h = some r → r.kind = .block → r.order = none →
    ∃ u, exec (.unblock p tag h r.rev) s = .next (u.promotionScan.placed p tag
        (Reply.okWith (.revision (satAdd 4294967295 s.book.rev 1)))) ∧
      finished s u h.index r .removed (.port p) ∧ roomFollows s u r.room ∧
      u.ports = State.portsAfterChange (s.taking p tag (.unblock h r.rev)) (satAdd 4294967295 s.book.rev 1) h r.owner
        (.port p) .unblock [factsDatum r .removed] ∧
      sameBut finishParts (s.taking p tag (.unblock h r.rev)) u)

/-- R53: BLOCK creates a block of the room's slots without padding in the lowest free entry, ended by its END deadline;
it is refused CONFLICT with the first conflicting record, and FULL where the pool has no free entry. That the returned
start and end minutes are horizon minutes is the model's choice (log entry 34). -/
def Obligations.BlockCreatesBlock : Prop :=
  ∀ (p : Port) (tag : Byte) (a : BlockArgs) (s : State) (st en : Nat), s.ready p (.block a) → a.room ≤ 159 →
    a.plane ≤ 7 → a.start ≤ 1439 → a.stop ≤ 1440 → st = a.start / 5 → en = (a.stop + 4) / 5 → st < en →
    ((s.room a.room).isOpen = false →
      exec (.block p tag a) s = .next ((s.taking p tag (.block a)).placed p tag (Reply.refusal .state))) ∧
    ((s.room a.room).isOpen = true → a.plane = 0 → st < s.currentSlot →
      exec (.block p tag a) s = .next ((s.taking p tag (.block a)).placed p tag (Reply.refusal .tooLate))) ∧
    ((s.room a.room).isOpen = true → ¬ (a.plane = 0 ∧ st < s.currentSlot) →
      (∀ i, s.firstConflict a.room a.plane st en none = some i → exec (.block p tag a) s =
        .next ((s.taking p tag (.block a)).placed p tag
          (Reply.refusalWith .conflict (.booking (s.recHandle i))))) ∧
      (s.freeRun a.room a.plane st en none → (∀ i, i < 2048 → s.rec? i ≠ none) → exec (.block p tag a) s =
        .next ((s.taking p tag (.block a)).placed p tag (Reply.refusalWith .full (.full .bookingPool)))) ∧
      (∀ i, s.freeRun a.room a.plane st en none → isLowestFree s.book.pool 2048 i →
        ∃ u, exec (.block p tag a) s = .next (u.placed p tag
            (Reply.okWith (.blocked (s.recHandle i) (satAdd 4294967295 s.book.rev 1)
              ((a.plane : Int) * 1440 + 5 * (st : Int)) ((a.plane : Int) * 1440 + 5 * (en : Int))))) ∧
          u.rec? i = some
            { kind := .block, room := a.room, plane := a.plane, start := st, stop := en, setup := 0, clear := 0
              state := .blocked, owner := .port p, organizer := a.organizer, label := a.label, attendees := none
              deadline := ⟨.endAt, (a.plane : Int) * 1440 + 5 * (en : Int), false⟩, arrival := none
              rev := satAdd 4294967295 s.book.rev 1, order := none, flags := ⟨false, false, false, false⟩
              extensions := 0 } ∧
          u.recHandle i = s.recHandle i ∧ sameOtherRecords i s u ∧ u.book.rev = satAdd 4294967295 s.book.rev 1 ∧
          roomFollows s u a.room ∧ sameBut ([.records, .revision] ++ displayParts) (s.taking p tag (.block a)) u))

/-! ### The listing protocol and the waitlist -/

/-- R34, R58 to R60: LIST_CHANGES opens the port's listing at the present revision, LIST_NEXT continues it; each
answers a batch of the candidates of lowest revision, with GAP at the first and END at the last, and leaves the other
ports' listings as they stand. Where the manual is silent it follows the model's choice (log entries 4 and 34). -/
def Obligations.ListingBatches : Prop :=
  (∀ (s : State) (l : Listing) (x : ListItem), x ∈ s.candidates l ↔ l.cursor < x.rev ∧ x.rev ≤ l.ceiling ∧
    ((∃ i r, (i, r) ∈ s.liveRecs ∧ x = .record r.room r.plane
        { handle := s.recHandle i, kind := r.kind, state := r.state, startMinute := r.startMinute
          endMinute := r.endMinute, padStart := r.padStart, padEnd := r.padEnd, owner := r.owner, label := r.label
          flags := r.flags, order := r.order, rev := r.rev }) ∨
     (∃ j o, (j, o) ∈ Pool.live s.plan.orders ∧
        x = .order (Pool.handle s.plan.orders j) o.booking o.state o.rev) ∨
     ∃ t, t ∈ s.book.ring ∧ x = .tomb t)) ∧
  (∀ (p : Port) (tag : Byte) (s : State), s.ready p .listNext → s.book.listings.at p = none →
    exec (.listNext p tag) s = .next ((s.taking p tag .listNext).placed p tag (Reply.refusal .state))) ∧
  (∀ (p : Port) (tag : Byte) (s : State) (l : Listing), s.ready p .listNext → s.book.listings.at p = some l →
    ∃ items final u, isBatch s l items final ∧
      exec (.listNext p tag) s = .next (u.placed p tag (Reply.okWith (.batch none items l.gapToReport final))) ∧
      u.book.listings.at p = listingLeft l items final ∧
      (∀ q, q ≠ p → u.book.listings.at q = s.book.listings.at q) ∧
      (s.exhausted = false → u.choices = s.choices) ∧
      sameBut [.choices, .listings] (s.taking p tag .listNext) u) ∧
  (∀ (p : Port) (tag : Byte) (n : Nat) (s : State), s.ready p (.listChanges n) → s.book.rev < n →
    exec (.listChanges p tag n) s =
      .next ((s.taking p tag (.listChanges n)).placed p tag (Reply.refusal .range))) ∧
  (∀ (p : Port) (tag : Byte) (n : Nat) (s : State) (l : Listing), s.ready p (.listChanges n) → n ≤ s.book.rev →
    l = { ceiling := s.book.rev, cursor := n
          gapToReport := (s.book.wrapped && (match s.book.ring with
              | [] => false
              | t :: _ => decide (n < t.rev))) ||
            (match s.book.clearMark with
              | none => false
              | some m => decide (n ≤ m)) } →
    ∃ items final u, isBatch s l items final ∧
      exec (.listChanges p tag n) s = .next (u.placed p tag
        { code := .ok, overrun := (s.port p).flags.overrun
          payload := .batch (some s.book.rev) items l.gapToReport final }) ∧
      u.book.listings.at p = listingLeft l items final ∧
      (∀ q, q ≠ p → u.book.listings.at q = s.book.listings.at q) ∧
      (u.port p).flags = { (s.port p).flags with overrun := false } ∧
      (∀ q, q ≠ p → (u.port q).flags = (s.port q).flags) ∧
      (s.exhausted = false → u.choices = s.choices) ∧
      sameBut [.choices, .listings, .flags] (s.taking p tag (.listChanges n)) u)

/-- R64 to R67: WAIT_ADD puts an entry at the lowest free position and the tail of the arrival order, and tries that
entry at once; WAIT_REMOVE frees an entry with its fate, with WAIT_EXPIRED for another port's entry. That returned
minutes are horizon minutes is the model's choice (log entry 34). -/
def Obligations.WaitlistCommands : Prop :=
  (∀ (p : Port) (tag : Byte) (a : WaitAddArgs) (s : State) (st en : Nat) (expiry : Int), s.ready p (.waitAdd a) →
    a.rooms ≠ [] → a.rooms.length ≤ 4 → (∀ r, r ∈ a.rooms → r ≤ 159) → a.rooms.Nodup → a.plane ≤ 7 →
    a.start ≤ 1439 → a.stop ≤ 1440 → st = a.start / 5 → en = (a.stop + 4) / 5 → st < en → en - st ≤ 144 →
    a.flex ≤ 24 → 1 ≤ a.attendees → a.attendees ≤ 400 →
    (∀ d m, a.expiry = some (d, m) → d ≤ 7 ∧ m ≤ 1439) →
    expiry = (match a.expiry with
      | none => (a.plane : Int) * 1440 + 5 * (st : Int)
      | some (d, m) => (d : Int) * 1440 + (m : Int)) →
    expiry ≤ (a.plane : Int) * 1440 + 5 * (st : Int) →
    (∀ q, a.cater = some q → s.requestOut q = false ∧
      (a.plane : Int) * 1440 + 5 * ((min (st + a.flex) (288 - (en - st)) : Nat) : Int) + q.offset ≤ 11519) →
    (a.plane = 0 ∧ st < s.currentSlot → exec (.waitAdd p tag a) s =
      .next ((s.taking p tag (.waitAdd a)).placed p tag (Reply.refusal .tooLate))) ∧
    (¬ (a.plane = 0 ∧ st < s.currentSlot) → (∀ r, r ∈ a.rooms → (s.room r).seats < a.attendees) →
      exec (.waitAdd p tag a) s =
        .next ((s.taking p tag (.waitAdd a)).placed p tag (Reply.refusal .capacity))) ∧
    (∀ r, ¬ (a.plane = 0 ∧ st < s.currentSlot) → r ∈ a.rooms → a.attendees ≤ (s.room r).seats →
      ((∀ w, w < 64 → s.waitEntry? w ≠ none) → exec (.waitAdd p tag a) s =
        .next ((s.taking p tag (.waitAdd a)).placed p tag (Reply.refusalWith .full (.full .waitlist)))) ∧
      (∀ w, isLowestFree s.wait.pool 64 w →
        ∃ u pos dest, exec (.waitAdd p tag a) s = .next ((u.scan [w]).placed p tag (Reply.okWith
            (.waitAdded (Pool.handle s.wait.pool w) ((a.plane : Int) * 1440 + 5 * (st : Int))
              ((a.plane : Int) * 1440 + 5 * (en : Int)) a.flex expiry pos dest))) ∧
          u.waitEntry? w = some
            { rooms := a.rooms, plane := a.plane, earliest := st, length := en - st, flex := a.flex
              attendees := a.attendees, organizer := a.organizer, label := a.label, cater := a.cater
              expiry := expiry, due := false, requester := p, tag := tag } ∧
          Pool.handle u.wait.pool w = Pool.handle s.wait.pool w ∧ sameOtherEntries w s u ∧
          u.wait.order = s.wait.order ++ [w] ∧ u.wait.fates = s.wait.fates ∧
          (w ∈ (u.scan [w]).wait.order → pos = some ((u.scan [w]).wait.order.idxOf w) ∧ dest = none) ∧
          (w ∉ (u.scan [w]).wait.order → pos = none ∧ ∀ b r,
            Table.read none (u.scan [w]).wait.fates w = some ⟨(Pool.entry s.wait.pool w).gen, .promoted b⟩ →
            Pool.named? (u.scan [w]).book.pool b = some r → dest = some (b, r.rev, r.order.isSome)) ∧
          sameBut [.waitlist] (s.taking p tag (.waitAdd a)) u))) ∧
  (∀ (p : Port) (tag : Byte) (h : Handle) (s : State), s.ready p (.waitRemove h) → h.index ≤ 63 →
    (Pool.named? s.wait.pool h = none → exec (.waitRemove p tag h) s =
      .next ((s.taking p tag (.waitRemove h)).placed p tag (Reply.refusalWith .noSuch
        (.waitGone (match Table.read none s.wait.fates h.index with
          | none => none
          | some f => if f.gen = h.gen then some f.fate else none))))) ∧
    (∀ e, Pool.named? s.wait.pool h = some e →
      ∃ u, exec (.waitRemove p tag h) s = .next (u.placed p tag (Reply.okWith .none)) ∧
        Pool.entry u.wait.pool h.index = ⟨h.gen + 1, none⟩ ∧ sameOtherEntries h.index s u ∧
        u.wait.order = s.wait.order.filter (fun v => !(v == h.index)) ∧
        Table.read none u.wait.fates h.index = some ⟨h.gen, .removed⟩ ∧
        (∀ v, v ≠ h.index → Table.read none u.wait.fates v = Table.read none s.wait.fates v) ∧
        u.ports = (if e.requester = p then (s.taking p tag (.waitRemove h)).ports
          else State.portsAfter (s.taking p tag (.waitRemove h)) s.book.rev
            { kind := .waitExpired, subject := .wait h, owner := some e.requester, hi := .cause .removed
              lo := .actor (.port p), tag := some e.tag }) ∧
        sameBut ([.waitlist] ++ noticeParts) (s.taking p tag (.waitRemove h)) u))

/-- R70 to R73: a scan passes over an entry whose requester has lost SCHED and one that has no fitting placement, and
promotes an entry to the first placement that fits, in the order of its rooms and then of its starts; a fit with no
free pool entry ends the scan. A catering request that is admitted gives the booking its order, and one that fails
marks the booking CATER_LOST. Where the manual is silent it follows the model's choice (log entries 17 and 18). -/
def Obligations.PromotionTakesFirstFit : Prop :=
  (∀ s : State, s.scan [] = s ∧ s.promotionScan = s.scan s.wait.order) ∧
  (∀ (s : State) (e : WaitEntry) (room start : Nat), s.placement e = some (room, start) ↔
    ∃ (j k : Nat), e.rooms[j]? = some room ∧ k ≤ e.flex ∧ start = e.earliest + k ∧ placementFits s e room start ∧
      (∀ k' : Nat, k' < k → ¬ placementFits s e room (e.earliest + k')) ∧
      ∀ (j' r k' : Nat), j' < j → e.rooms[j']? = some r → k' ≤ e.flex → ¬ placementFits s e r (e.earliest + k')) ∧
  (∀ (s : State) (w : Nat) (l : List Nat), s.waitEntry? w = none → s.scan (w :: l) = s.scan l) ∧
  (∀ (s : State) (w : Nat) (l : List Nat) (e : WaitEntry), s.waitEntry? w = some e →
    (s.port e.requester).roles.sched = false ∨ s.placement e = none → s.scan (w :: l) = s.scan l) ∧
  (∀ (s : State) (w : Nat) (l : List Nat) (e : WaitEntry) (room start : Nat), s.waitEntry? w = some e →
    (s.port e.requester).roles.sched = true → s.placement e = some (room, start) →
    ((∀ i, i < 2048 → s.rec? i ≠ none) → s.scan (w :: l) = s) ∧
    (∀ i, isLowestFree s.book.pool 2048 i →
      (e.cater = none →
        ∃ t, s.scan (w :: l) = t.scan l ∧ t.rec? i = some (promotedBooking s e room start none false) ∧
          promotedEntry s t w i ∧ t.book.rev = satAdd 4294967295 s.book.rev 1 ∧ roomFollows s t room ∧
          t.ports = s.portsAfter (satAdd 4294967295 s.book.rev 1)
            { kind := .promoted, subject := .booking (s.recHandle i), owner := some e.requester, tag := some e.tag
              data := [.wait (Pool.handle s.wait.pool w)], rev := some (satAdd 4294967295 s.book.rev 1) } ∧
          sameBut ([.records, .revision, .waitlist] ++ displayParts ++ noticeParts) s t) ∧
      (∀ q f, e.cater = some q →
        s.admission true room ((e.plane : Int) * 1440 + 5 * (start : Int)) q = .error f →
        ∃ t, s.scan (w :: l) = t.scan l ∧ t.rec? i = some (promotedBooking s e room start none true) ∧
          promotedEntry s t w i ∧ t.book.rev = satAdd 4294967295 s.book.rev 1 ∧ roomFollows s t room ∧
          sameBut ([.records, .revision, .waitlist] ++ displayParts ++ noticeParts) s t) ∧
      (∀ q m j o, e.cater = some q →
        s.admission true room ((e.plane : Int) * 1440 + 5 * (start : Int)) q = .ok m →
        isLowestFree s.plan.orders 512 j →
        o = admittedOrder (newOrder e.requester (s.recHandle i) q m) q m →
        ∃ t, s.scan (w :: l) = t.scan l ∧
          t.rec? i = some (promotedBooking s e room start (some (Pool.handle s.plan.orders j)) false) ∧
          promotedEntry s t w i ∧ t.order? j = some { o with rev := satAdd 4294967295 s.book.rev 2 } ∧
          Pool.handle t.plan.orders j = Pool.handle s.plan.orders j ∧ sameOtherOrders j s t ∧ loadAdded s t o ∧
          t.book.rev = satAdd 4294967295 s.book.rev 2 ∧ roomFollows s t room ∧
          t.ports = s.portsAfter (satAdd 4294967295 s.book.rev 2)
            { kind := .promoted, subject := .booking (s.recHandle i), owner := some e.requester, tag := some e.tag
              data := [.wait (Pool.handle s.wait.pool w), .order (Pool.handle s.plan.orders j)]
              rev := some (satAdd 4294967295 s.book.rev 1) } ∧
          sameBut ([.records, .revision, .waitlist, .orders, .load] ++ displayParts ++ noticeParts) s t)))

/-! ### Attendance -/

/-- R76, R77, R79, R87 to R89: CHECK_IN takes a CONFIRMED booking whose window has opened to ARRIVED; EXTEND lengthens
an ARRIVED booking by the greatest of three slots, two and one that fits the day, the length limit and the record that
follows. Where the manual is silent it follows the model's choice (log entries 17, 34, 38 and 46). -/
def Obligations.CheckInAndExtend : Prop :=
  (∀ (p : Port) (tag : Byte) (h : Handle) (r : Rec) (a : Nat) (s : State), s.ready p (.checkIn h r.rev) →
    h.index ≤ 2047 → Pool.named? s.book.pool h = some r → r.kind = .booking →
    a = (if s.now < r.startMinute then r.start else (s.nowMinute - r.plane * 1440) / 5) →
    (r.state ≠ .confirmed → exec (.checkIn p tag h r.rev) s =
      .next ((s.taking p tag (.checkIn h r.rev)).placed p tag (Reply.refusal .state))) ∧
    (r.state = .confirmed → s.now < r.startMinute - 10 → exec (.checkIn p tag h r.rev) s =
      .next ((s.taking p tag (.checkIn h r.rev)).placed p tag
        (Reply.refusalWith .tooLate (.window (r.startMinute - 10) r.deadline.minute)))) ∧
    (r.state = .confirmed → r.startMinute - 10 ≤ s.now →
      ∃ u, exec (.checkIn p tag h r.rev) s = .next (u.placed p tag
          (Reply.okWith (.arrived (satAdd 4294967295 s.book.rev 1) ((r.plane : Int) * 1440 + 5 * (a : Int))
            r.endMinute))) ∧
        u.rec? h.index = some { r with
          state := .arrived, arrival := some a, flags := { r.flags with unverified := false }
          deadline := ⟨.endAt, r.endMinute, false⟩, rev := satAdd 4294967295 s.book.rev 1 } ∧
        u.recHandle h.index = h ∧ sameOtherRecords h.index s u ∧ u.book.rev = satAdd 4294967295 s.book.rev 1 ∧
        roomFollows s u r.room ∧
        u.ports = State.portsAfterChange (s.taking p tag (.checkIn h r.rev)) (satAdd 4294967295 s.book.rev 1) h r.owner
          (.port p) .checkIn [] ∧
        sameBut checkInParts (s.taking p tag (.checkIn h r.rev)) u)) ∧
  (∀ (p : Port) (tag : Byte) (h : Handle) (r : Rec) (s : State) (fit : Nat → Prop), s.ready p (.extend h r.rev) →
    h.index ≤ 2047 → Pool.named? s.book.pool h = some r → r.kind = .booking →
    (∀ k, fit k ↔ r.stop + k ≤ 288 ∧ r.stop + k - r.start ≤ 144 ∧
      ∀ e, s.following h.index r = some e → min (r.stop + k + r.clear) 288 ≤ e.2.padStart) →
    (r.state ≠ .arrived → exec (.extend p tag h r.rev) s =
      .next ((s.taking p tag (.extend h r.rev)).placed p tag (Reply.refusal .state))) ∧
    (r.state = .arrived → 8 ≤ r.extensions → exec (.extend p tag h r.rev) s =
      .next ((s.taking p tag (.extend h r.rev)).placed p tag (Reply.refusalWith .state (.number r.extensions)))) ∧
    (r.state = .arrived → r.extensions < 8 → ¬ fit 1 → ¬ fit 2 → ¬ fit 3 → exec (.extend p tag h r.rev) s =
      .next ((s.taking p tag (.extend h r.rev)).placed p tag (Reply.refusalWith .state (.optBooking
        (if r.stop + 1 ≤ 288 ∧ r.stop + 1 - r.start ≤ 144 then
          (s.following h.index r).map (fun e => s.recHandle e.1) else none))))) ∧
    (∀ k, r.state = .arrived → r.extensions < 8 → 1 ≤ k → k ≤ 3 → fit k → (∀ m, k < m → m ≤ 3 → ¬ fit m) →
      ∃ u, exec (.extend p tag h r.rev) s = .next (u.placed p tag
          { code := .ok, clamped := decide (k < 3)
            payload := .extended (satAdd 4294967295 s.book.rev 1)
              ((r.plane : Int) * 1440 + 5 * ((r.stop + k : Nat) : Int)) (r.extensions + 1) }) ∧
        u.rec? h.index = some { r with
          stop := r.stop + k, extensions := r.extensions + 1
          deadline := ⟨.endAt, (r.plane : Int) * 1440 + 5 * ((r.stop + k : Nat) : Int), false⟩
          rev := satAdd 4294967295 s.book.rev 1 } ∧
        u.recHandle h.index = h ∧ sameOtherRecords h.index s u ∧ u.book.rev = satAdd 4294967295 s.book.rev 1 ∧
        roomFollows s u r.room ∧
        u.ports = State.portsAfterChange { (s.taking p tag (.extend h r.rev)) with
            ports := (State.portsAfter (s.taking p tag (.extend h r.rev)) (satAdd 4294967295 s.book.rev 1)
              { kind := .extended, subject := .booking h, owner := ownerPort r.owner
                data := [.minute ((r.plane : Int) * 1440 + 5 * ((r.stop + k : Nat) : Int)),
                  .count (r.extensions + 1)] }) }
          (satAdd 4294967295 s.book.rev 1) h r.owner (.port p) .extend [] ∧
        sameBut checkInParts (s.taking p tag (.extend h r.rev)) u))

/-- R78, R80, R85, R86, R88, R90, R91, R129, R161: at a minute advance, a room with sensor check-in whose panel is
LINKED and OCCUPIED has its CONFIRMED booking whose window is open checked in with actor PANEL (stated for one such room
with one record, where nothing else falls due); and what a new press at a room's panel does once it is handed over: CHECK_IN takes the
earliest open window, END_NOW and EXTEND the covering ARRIVED booking, BOOK_NOW books the walk-up that fits, and
DELIVERED delivers the delivery target's order. The end of a booking with an order is OrderFollowsFinish. Where the
manual is silent it follows the model's choice (log entries 3, 35 and 46). -/
def Obligations.DoorActs : Prop :=
  (∀ (s : State) (r : Rec), s.windowOpen r = true ↔
    r.kind = .booking ∧ r.state = .confirmed ∧ r.startMinute - 10 ≤ s.now) ∧
  (∀ (s : State) (room : Nat) (covering : Nat × Rec → Prop),
    (∀ e, covering e ↔ e ∈ s.liveRecs ∧ e.2.room = room ∧ e.2.kind = .booking ∧ e.2.state = .arrived ∧
      e.2.plane = 0 ∧ e.2.start ≤ s.currentSlot ∧ s.currentSlot < e.2.stop) →
    (∀ e, s.coveringArrived room = some e → covering e) ∧
    (s.coveringArrived room = none → ∀ e, ¬ covering e)) ∧
  (∀ (s : State) (room i : Nat) (r : Rec) (q : Position), s.clock.set = true → s.clock.minute < 1439 →
     s.clock.oldDay = false → s.outstanding = [] → s.tablesOk → s.serving = true → room < 160 →
     (∀ k, (s.room k).options.sensorCheckin = decide (k = room)) →
     s.linkedPosition? room = some q → q.debounced = some .occupied → s.rec? i = some r → r.room = room →
     r.kind = .booking → r.state = .confirmed → (∀ j b, s.rec? j = some b → b.room = room → j = i) →
     r.openingMinute ≤ (s.clock.minute : Int) + 1 → (s.clock.minute : Int) + 1 < r.deadline.minute →
     ∃ t, exec .minuteAdvance s = .next t ∧ t.clock = { s.clock with minute := s.clock.minute + 1 } ∧
       t.rec? i = some { r with
         state := .arrived
         arrival := some (if (s.clock.minute : Int) + 1 < r.startMinute then r.start
           else (s.clock.minute + 1 - r.plane * 1440) / 5)
         flags := { r.flags with unverified := false }
         deadline := ⟨.endAt, r.endMinute, false⟩, rev := satAdd 4294967295 s.book.rev 1 } ∧
       t.book.rev = satAdd 4294967295 s.book.rev 1 ∧
       sameBut ([.clock, .records, .revision, .orders, .waitlist, .displays, .displayRevs, .vacancy] ++ noticeParts) s t) ∧
  (∀ (s : State) (room i : Nat) (r : Rec), (i, r) ∈ s.liveRecs → r.room = room → s.windowOpen r = true →
    (∀ j q, (j, q) ∈ s.liveRecs → q.room = room → s.windowOpen q = true →
      (j = i ∧ q = r) ∨ r.startMinute < q.startMinute) →
    ∃ u, s.press room .checkIn = u ∧ u = s.checkIn i r .panel .checkIn ∧
      u.rec? i = some { r with
        state := .arrived, flags := { r.flags with unverified := false }
        arrival := some (if s.now < r.startMinute then r.start else (s.nowMinute - r.plane * 1440) / 5)
        deadline := ⟨.endAt, r.endMinute, false⟩, rev := satAdd 4294967295 s.book.rev 1 } ∧
      u.recHandle i = s.recHandle i ∧ sameOtherRecords i s u ∧ u.book.rev = satAdd 4294967295 s.book.rev 1 ∧
      roomFollows s u room ∧
      u.ports = s.portsAfterChange (satAdd 4294967295 s.book.rev 1) (s.recHandle i) r.owner .panel .checkIn [] ∧
      sameBut checkInParts s u) ∧
  (∀ (s : State) (room : Nat) (k : KeyCode), (∀ j q, (j, q) ∈ s.liveRecs → q.room = room → s.windowOpen q = false) →
    k = .checkIn → s.press room k = s) ∧
  (∀ (s : State) (room : Nat) (k : KeyCode), s.coveringArrived room = none → k = .endNow ∨ k = .extend →
    s.press room k = s) ∧
  (∀ (s : State) (room i : Nat) (r n : Rec), s.coveringArrived room = some (i, r) → r.order = none →
    s.rec? i = some r → n = { r with stop := min (s.currentSlot + 1) r.stop } →
    ∃ u, s.press room .endNow = u.promotionScan ∧ finished s u i n .ended .panel ∧ roomFollows s u room ∧
      sameBut finishParts s u) ∧
  (∀ (s : State) (room stop i : Nat), s.walkupSpan room = some stop → isLowestFree s.book.pool 2048 i →
    ∃ u, s.press room .bookNow = u ∧ u.rec? i = some
        { kind := .booking, room := room, plane := 0, start := s.currentSlot, stop := stop
          setup := (s.room room).setup, clear := (s.room room).clear, state := .arrived, owner := .panel
          organizer := 0, label := 0, attendees := some 1, deadline := ⟨.endAt, 5 * (stop : Int), false⟩
          arrival := some s.currentSlot, rev := satAdd 4294967295 s.book.rev 1, order := none
          flags := ⟨false, false, true, false⟩, extensions := 0 } ∧
      sameOtherRecords i s u ∧ u.book.rev = satAdd 4294967295 s.book.rev 1 ∧ roomFollows s u room ∧
      u.ports = s.portsAfter (satAdd 4294967295 s.book.rev 1)
        { kind := .walkup, subject := .booking (s.recHandle i) } ∧
      sameBut checkInParts s u) ∧
  (∀ (s : State) (room : Nat), s.walkupSpan room = none ∨ (∀ i, i < 2048 → s.rec? i ≠ none) →
    s.press room .bookNow = s) ∧
  (∀ (s : State) (room stop : Nat), (∀ e, e ∈ s.liveRecs → e.2.start < e.2.stop ∧ e.2.stop ≤ 288) →
    (s.walkupSpan room = some stop ↔
      (s.room room).options.walkupAllowed = true ∧ (s.room room).isOpen = true ∧ s.currentSlot + 3 ≤ stop ∧
      stop ≤ min (s.currentSlot + 6) 288 ∧
      s.freeRun room 0 (s.currentSlot - (s.room room).setup) (min (stop + (s.room room).clear) 288) none ∧
      ∀ e, stop < e → e ≤ min (s.currentSlot + 6) 288 →
        ¬ s.freeRun room 0 (s.currentSlot - (s.room room).setup) (min (e + (s.room room).clear) 288) none)) ∧
  (∀ (s : State) (room i : Nat) (r : Rec) (fit : Nat → Prop), s.coveringArrived room = some (i, r) →
    (∀ k, fit k ↔ r.stop + k ≤ 288 ∧ r.stop + k - r.start ≤ 144 ∧
      ∀ e, s.following i r = some e → min (r.stop + k + r.clear) 288 ≤ e.2.padStart) →
    (8 ≤ r.extensions ∨ (¬ fit 1 ∧ ¬ fit 2 ∧ ¬ fit 3) → s.press room .extend = s) ∧
    (∀ k, r.extensions < 8 → 1 ≤ k → k ≤ 3 → fit k → (∀ m, k < m → m ≤ 3 → ¬ fit m) →
      ∃ u, s.press room .extend = u ∧
        u.rec? i = some { r with
          stop := r.stop + k, extensions := r.extensions + 1
          deadline := ⟨.endAt, (r.plane : Int) * 1440 + 5 * ((r.stop + k : Nat) : Int), false⟩
          rev := satAdd 4294967295 s.book.rev 1 } ∧
        u.recHandle i = s.recHandle i ∧ sameOtherRecords i s u ∧ u.book.rev = satAdd 4294967295 s.book.rev 1 ∧
        roomFollows s u room ∧
        u.ports = State.portsAfterChange { s with
            ports := s.portsAfter (satAdd 4294967295 s.book.rev 1)
              { kind := .extended, subject := .booking (s.recHandle i), owner := ownerPort r.owner
                data := [.minute ((r.plane : Int) * 1440 + 5 * ((r.stop + k : Nat) : Int)),
                  .count (r.extensions + 1)] } }
          (satAdd 4294967295 s.book.rev 1) (s.recHandle i) r.owner .panel .extend [] ∧
        sameBut checkInParts s u)) ∧
  (∀ (s : State) (room i : Nat) (r : Rec) (h : Handle) (o : Order) (linked : Nat × Rec → Prop),
    (∀ e, linked e ↔ e ∈ s.liveRecs ∧ e.2.room = room ∧ e.2.kind = .booking ∧ e.2.plane = 0 ∧ e.2.order ≠ none) →
    linked (i, r) → r.order = some h → Pool.named? s.plan.orders h = some o →
    ((r.start ≤ s.currentSlot ∧ s.currentSlot < r.stop ∧
        ∀ e, linked e → e.2.start ≤ s.currentSlot → s.currentSlot < e.2.stop → e = (i, r)) ∨
      (s.currentSlot < r.start ∧ (∀ e, linked e → ¬ (e.2.start ≤ s.currentSlot ∧ s.currentSlot < e.2.stop)) ∧
        ∀ e, linked e → s.currentSlot < e.2.start → e = (i, r) ∨ r.start < e.2.start)) →
    (o.state = .preparing ∨ o.state = .dispatched →
      ∃ u, s.press room .delivered = u ∧
        u.order? h.index = some { o with
          state := .delivered, deadline := none, rev := satAdd 4294967295 s.book.rev 1 } ∧
        sameOtherOrders h.index s u ∧ u.book.rev = satAdd 4294967295 s.book.rev 1 ∧ displayFollows s u room ∧
        sameOtherRooms room s u ∧ sameBut [.orders, .revision, .displayRevs, .displays] s u) ∧
    (o.state ≠ .preparing → o.state ≠ .dispatched → s.press room .delivered = s)) ∧
  (∀ (s : State) (room : Nat),
    (∀ i r, (i, r) ∈ s.liveRecs → r.room = room → r.kind = .booking → r.plane = 0 → r.order ≠ none →
      r.start ≤ s.currentSlot ∧ r.stop ≤ s.currentSlot) →
    s.press room .delivered = s)

/-! ### Panel chains -/

/-- R100, R115, R116, R118: READ_LINK_COUNTERS returns a chain's counters and sets the two it reads to 0; CHAIN_RESET
clears the chain's counters, flags and positions but their unit ids and shown revisions, and begins an enumeration;
the end of an error window judges the chain. Where the manual is silent it follows the model's choice (log entries 6
and 20). -/
def Obligations.ChainCommandsAndErrorWindow : Prop :=
  (∀ (p : Port) (tag : Byte) (c : Nat) (s : State), s.ready p (.readLinkCounters c) →
    (3 < c → exec (.readLinkCounters p tag c) s =
      .next ((s.taking p tag (.readLinkCounters c)).placed p tag (Reply.refusal .range))) ∧
    (c ≤ 3 → ∃ u, exec (.readLinkCounters p tag c) s = .next (u.placed p tag (Reply.okWith
        (.linkCounters (s.chain c).valid (s.chain c).discards (s.chain c).activity (s.chain c).count (s.chain c).gap
          (s.chain c).degraded (s.chain c).fault (s.chain c).streak (s.chain c).windowDiscards))) ∧
      u.chain c = { s.chain c with valid := 0, discards := 0 } ∧ sameOtherChains c s u ∧
      sameBut [.chains] (s.taking p tag (.readLinkCounters c)) u)) ∧
  (∀ (p : Port) (tag : Byte) (c elapsed time : Nat) (s : State), s.ready p (.chainReset c) → s.tablesOk →
    time = (s.chain c).time + elapsed →
    (3 < c → exec (.chainReset p tag c elapsed) s =
      .next ((s.taking p tag (.chainReset c)).placed p tag (Reply.refusal .range))) ∧
    (c ≤ 3 → ∃ u, exec (.chainReset p tag c elapsed) s = .next (u.placed p tag (Reply.okWith .none)) ∧
      { u.chain c with positions := [] } = { s.chain c with
        activity := .enumerating, sent := [.enumerate 1], valid := 0, discards := 0, windowDiscards := 0
        streak := 0, degraded := false, fault := false, enumPending := false, gap := false, highest := 0, noted := []
        time := time, windowStart := time, quietAt := some (time + 10), roundTimeoutAt := none, positions := [] } ∧
      (∀ k, u.position c k = { unitId := (s.position c k).unitId, presence := .absent, good := 0, miss := 0
                               answered := false, faults := ⟨false, false, false⟩, lastSeq := none, debounced := none
                               pendingSensor := none, shown := (s.position c k).shown, due := false }) ∧
      sameOtherChains c s u ∧
      ((∀ k, 1 ≤ k → k ≤ 40 → (s.position c k).presence ≠ .linked) → (s.chain c).degraded = false →
        (s.chain c).fault = false → sameBut [.chains] (s.taking p tag (.chainReset c)) u) ∧
      sameBut ([.chains, .displayRevs, .displays] ++ noticeParts) (s.taking p tag (.chainReset c)) u)) ∧
  (∀ (c n : Nat) (bad : Bool) (s : State), c < 4 → s.tablesOk → n = (s.chain c).windowDiscards →
    bad = decide (48 ≤ n ∨ (12 ≤ n ∧ (s.chain c).degraded = true)) →
    ∃ u, exec (.errorWindowEnd c) s = .next u ∧
      u.chain c = { s.chain c with
        degraded := bad, streak := if bad then min ((s.chain c).streak + 1) 5 else 0
        fault := bad && ((s.chain c).fault || decide (5 ≤ (s.chain c).streak + 1)), windowDiscards := 0
        windowStart := (s.chain c).windowStart + 60000
        time := max (s.chain c).time ((s.chain c).windowStart + 60000)
        enumPending := (s.chain c).enumPending || (!((s.chain c).activity == .enumerating) &&
          ((s.chain c).positions.any (fun e => e.2.presence == .lost) || (s.chain c).gap ||
            (s.chain c).count == 0)) } ∧
      sameOtherChains c s u ∧
      ((s.chain c).degraded = bad → (s.chain c).fault = (u.chain c).fault → sameBut [.chains] s u) ∧
      ((s.chain c).degraded ≠ bad → (s.chain c).fault = (u.chain c).fault →
        u.ports = s.portsAfter s.book.rev
          { kind := .chainDegraded, subject := .chain c, cond := some (.flag bad), data := [.count n] }) ∧
      sameBut ([.chains] ++ noticeParts) s u)

/-- R99 to R106, R117: an upstream frame that is not good and due is counted as a discard and nothing else; a good,
due ENUM_REPLY is noted, and from address 40 it ends the enumeration, as the quiet timer does; a pending enumeration
begins in WAIT. Where the manual is silent it follows the model's choice (log entries 20 and 22). -/
def Obligations.FramesAndEnumeration : Prop :=
  (∀ (c elapsed : Nat) (f : UpFrame) (s : State), c < 4 → ¬ (frameGood f ∧ frameDue (s.chain c) f) →
    ∃ u, exec (.upstreamFrame c elapsed f) s = .next u ∧
      u.chain c = { s.chain c with
        time := (s.chain c).time + elapsed, discards := min ((s.chain c).discards + 1) 255
        windowDiscards := min ((s.chain c).windowDiscards + 1) 255 } ∧
      sameOtherChains c s u ∧ sameBut [.chains] s u) ∧
  (∀ (c elapsed : Nat) (f : UpFrame) (b0 b1 b2 b3 : Byte) (b : Chain) (s : State), c < 4 → frameGood f →
    f.kind = some .enumReply → frameDue (s.chain c) f → f.payload = [b0, b1, b2, b3] →
    b = Chain.afterEnumReply { s.chain c with time := (s.chain c).time + elapsed } f.address.toNat
      (b0 ++ b1 ++ b2 ++ b3) →
    (f.address.toNat ≠ 40 → ∃ u, exec (.upstreamFrame c elapsed f) s = .next u ∧ u.chain c = b ∧
      sameOtherChains c s u ∧ sameBut [.chains] s u) ∧
    (f.address.toNat = 40 → s.tablesOk → s.unitsDistinct →
      ∃ u, exec (.upstreamFrame c elapsed f) s = .next u ∧ enumerationEnded s u c b)) ∧
  (∀ (c t : Nat) (s : State), c < 4 → s.tablesOk → s.unitsDistinct → (s.chain c).activity = .enumerating →
    (s.chain c).quietAt = some t →
    ∃ u, exec (.quietTimer c) s = .next u ∧ enumerationEnded s u c (s.chain c)) ∧
  (∀ (c : Nat) (s : State), (s.chain c).activity ≠ .enumerating → exec (.quietTimer c) s = .next s) ∧
  (∀ (c : Nat) (s : State), c < 4 → s.tablesOk → (s.chain c).activity = .wait → (s.chain c).enumPending = true →
    ∃ u, exec (.enumerationStart c) s = .next u ∧
      { u.chain c with positions := [] } = { s.chain c with
        activity := .enumerating, enumPending := false, highest := 0, noted := [], sent := [.enumerate 1]
        quietAt := some ((s.chain c).time + 10), roundTimeoutAt := none, positions := [] } ∧
      (∀ k, u.position c k = { s.position c k with answered := false }) ∧ sameOtherChains c s u ∧
      sameBut [.chains] s u) ∧
  (∀ (c : Nat) (s : State), ¬ ((s.chain c).activity = .wait ∧ (s.chain c).enumPending = true) →
    exec (.enumerationStart c) s = .next s)

/-- R108 to R114, R125 to R130: a round begins at its start, its replies update presence, sensor, key and shown
revision, a new press is handed to the room's owner, a gap position's reply only advances the turn, the round ends at
its timeout or with the reply of the last position, with the misses of the positions that did not answer, and the due
displays are sent, the lowest position first. R126 and 6.2: the bytes of a downstream frame, around free values for the
codes the manual does not number (log entry 43). Where the manual is silent it follows the model's choice (log entries
11, 12, 20, 26 and 39). -/
def Obligations.RoundsAndReplies : Prop :=
  (∀ (c t : Nat) (s : State), c < 4 → s.tablesOk → (s.chain c).activity = .wait → (s.chain c).enumPending = false →
    (s.chain c).nextRoundStart = some t →
    ((s.chain c).count = 0 → ∃ u, exec (.roundStart c) s = .next u ∧
      u.chain c = { s.chain c with
        time := max (s.chain c).time t
        nextRoundStart := some (t + if (s.chain c).degraded then 4000 else 2000) } ∧
      sameOtherChains c s u ∧ sameBut [.chains] s u) ∧
    (0 < (s.chain c).count → ∃ u, exec (.roundStart c) s = .next u ∧
      { u.chain c with positions := [] } = { s.chain c with
        activity := .rollcall, lastAnswered := 0, sent := [.rollcall (s.chain c).round]
        roundNow := (s.chain c).round, round := (s.chain c).round + 1, time := max (s.chain c).time t
        roundTimeoutAt := some (max (s.chain c).time t + 8 + (s.chain c).count)
        nextRoundStart := some (max (s.chain c).time t + if (s.chain c).degraded then 4000 else 2000)
        positions := [] } ∧
      (∀ k, u.position c k = { s.position c k with answered := false }) ∧ sameOtherChains c s u ∧
      sameBut [.chains] s u)) ∧
  (∀ (c elapsed p : Nat) (f : UpFrame) (seq : BitVec 4) (shown : Byte) (s : State), rollReply s c f seq shown →
    p = f.address.toNat →
    ((s.position c p).unitId ≠ none →
      ∃ u, replyTaken s u c elapsed p f seq shown ∧
        exec (.upstreamFrame c elapsed f) s = .next (if p = (s.chain c).count then u.endRound c else u)) ∧
    ((s.position c p).unitId = none →
      ∃ u, gapReplyTaken s u c elapsed p ∧
        exec (.upstreamFrame c elapsed f) s = .next (if p = (s.chain c).count then u.endRound c else u))) ∧
  (∀ (c t : Nat) (s : State), c < 4 → (s.chain c).activity = .rollcall → (s.chain c).roundTimeoutAt = some t →
    exec (.roundTimeout c) s =
      .next ((s.setChain c { s.chain c with time := max (s.chain c).time t }).endRound c)) ∧
  (∀ (c : Nat) (s : State), c < 4 → s.tablesOk →
    (∀ k, { (s.endRound c).position c k with answered := false } =
      if 1 ≤ k ∧ k ≤ (s.chain c).count ∧ (s.position c k).unitId ≠ none ∧ (s.position c k).answered = false then
        { s.position c k with
          good := 0, miss := min ((s.position c k).miss + 1) 3, answered := false
          presence := if (s.position c k).presence = .linked ∧ 2 ≤ (s.position c k).miss then .lost
            else (s.position c k).presence }
      else { s.position c k with answered := false }) ∧
    ((s.endRound c).chain c).time = (s.chain c).time ∧
    ((∃ k, (s.position c k).due = true) → ((s.endRound c).chain c).activity = .displaySend) ∧
    ((∀ k, (s.position c k).due = false) → (s.chain c).mustWait (s.chain c).time →
      ((s.endRound c).chain c).activity = .wait) ∧
    ((∀ k, (s.position c k).due = false) → ¬ (s.chain c).mustWait (s.chain c).time →
      ((s.endRound c).chain c).activity = .rollcall ∧
      ((s.endRound c).chain c).sent = [.rollcall (s.chain c).round] ∧
      ((s.endRound c).chain c).round = (s.chain c).round + 1) ∧
    ((∀ k, (s.position c k).presence = .linked → (s.position c k).miss < 2 ∨ (s.position c k).answered = true) →
      sameBut [.chains] s (s.endRound c)) ∧
    sameOtherChains c s (s.endRound c) ∧
    sameBut ([.chains, .displayRevs, .displays] ++ noticeParts) s (s.endRound c)) ∧
  (∀ (c elapsed p : Nat) (s : State), c < 4 → s.tablesOk → (s.chain c).activity = .displaySend →
    (s.position c p).due = true → (∀ k, k < p → (s.position c k).due = false) →
    ∃ u, exec (.displayFrameSent c elapsed) s = .next u ∧ (u.position c p).due = false ∧
      (∀ k, k ≠ p → { u.position c k with answered := false } = { s.position c k with answered := false }) ∧
      ((∃ k, k ≠ p ∧ (s.position c k).due = true) → (u.chain c).activity = .displaySend) ∧
      ((∀ k, k ≠ p → (s.position c k).due = false) → (s.chain c).mustWait ((s.chain c).time + elapsed) →
        (u.chain c).activity = .wait) ∧
      ((∀ k, k ≠ p → (s.position c k).due = false) → ¬ (s.chain c).mustWait ((s.chain c).time + elapsed) →
        (u.chain c).activity = .rollcall) ∧
      (u.chain c).sent = (match s.boundRoom c p with
          | none => DownFrame.display p 0 ⟨.unassigned, none, none, .none⟩
          | some room => DownFrame.display p (s.room room).displayRev (s.display room).content) ::
        (if (u.chain c).activity = .rollcall then [.rollcall (s.chain c).round] else []) ∧
      sameOtherChains c s u ∧ sameBut [.chains] s u) ∧
  (∀ (c : Nat) (s : State), (s.chain c).activity ≠ .rollcall →
    exec (.roundTimeout c) s = .next s) ∧
  (∀ (f : DownFrame) (head body payload : List Byte),
    payload = (match f with
      | .enumerate a => [BitVec.ofNat 8 a]
      | .rollcall n => [n]
      | .display _ n x =>
        [n, Config.displayStateCode x.state, Config.presenceBits x.current.isSome x.next.isSome] ++
        (match x.current with
          | none => [0, 0, 0, 0, 0, 0, 0, 0]
          | some i => [i.label.extractLsb' 8 8, i.label.extractLsb' 0 8, i.organizer.extractLsb' 24 8,
              i.organizer.extractLsb' 16 8, i.organizer.extractLsb' 8 8, i.organizer.extractLsb' 0 8,
              (BitVec.ofNat 16 i.endMinute).extractLsb' 8 8, (BitVec.ofNat 16 i.endMinute).extractLsb' 0 8]) ++
        (match x.next with
          | none => [0, 0, 0, 0, 0]
          | some i => [BitVec.ofNat 8 i.day, (BitVec.ofNat 16 i.startMinute).extractLsb' 8 8,
              (BitVec.ofNat 16 i.startMinute).extractLsb' 0 8, i.label.extractLsb' 8 8, i.label.extractLsb' 0 8]) ++
        [Config.badgeCode x.badge]) →
    head = (match f with
      | .enumerate _ => [Config.downHeader .enumerate, 0, 1]
      | .rollcall _ => [Config.downHeader .rollcall, 0, 1]
      | .display a _ _ => [Config.downHeader .display, BitVec.ofNat 8 a, 17]) →
    body = head ++ payload →
    f.bytes = body ++ [(crc16 body).extractLsb' 8 8, (crc16 body).extractLsb' 0 8])

/-! ### Kitchens and orders -/

/-- R134 to R137, R149, R150: the commands of the kitchens' setup are refused RANGE where a field is out of its range and
store their fields otherwise; the OVER marks of the windows they touch come into line with the limit, and a change of a
kitchen's OVER windows raises one KITCHEN_OVER. -/
def Obligations.KitchenSetup : Prop :=
  (∀ (s : State) (k g : Nat), s.tablesOk → (g ∈ s.overWindows k ↔ g < 768 ∧ (s.loadEntry k g).isOver = true)) ∧
  (∀ (p : Port) (tag : Byte) (k n : Nat) (o : Bool) (s : State), s.ready p (.configKitchen k o n) → s.tablesOk →
    k ≤ 3 → n ≤ 25 →
    ∃ u, exec (.configKitchen p tag k o n) s = .next (u.placed p tag (Reply.okWith .none)) ∧
      u.kitchen k = ⟨o, n⟩ ∧ (∀ j, j ≠ k → u.kitchen j = s.kitchen j) ∧
      (∀ g, g < 768 → u.loadEntry k g = { s.loadEntry k g with
        isOver := decide (u.limit k g < (s.loadEntry k g).load) }) ∧
      (∀ j g, j ≠ k → g < 768 → u.loadEntry j g = s.loadEntry j g) ∧
      u.ports = (if u.overWindows k = s.overWindows k then (s.taking p tag (.configKitchen k o n)).ports
        else State.portsAfter (s.taking p tag (.configKitchen k o n)) s.book.rev
          { kind := .kitchenOver, subject := .kitchen k, cond := some (.flag (!(u.overWindows k).isEmpty))
            data := [.window ((u.overWindows k).head?.map (fun g : Nat => (g : Int))), .count (u.overWindows k).length] }) ∧
      sameBut ([.kitchens, .load] ++ noticeParts) (s.taking p tag (.configKitchen k o n)) u) ∧
  (∀ (p : Port) (tag : Byte) (k n : Nat) (o : Bool) (s : State), s.ready p (.configKitchen k o n) → 3 < k ∨ 25 < n →
    exec (.configKitchen p tag k o n) s =
      .next ((s.taking p tag (.configKitchen k o n)).placed p tag (Reply.refusal .range))) ∧
  (∀ (p : Port) (tag : Byte) (k first : Nat) (vs : List Nat) (s : State), s.ready p (.setCapacity k first vs) →
    3 < k ∨ 95 < first ∨ vs = [] ∨ 24 < vs.length ∨ 96 < first + vs.length →
    exec (.setCapacity p tag k first vs) s =
      .next ((s.taking p tag (.setCapacity k first vs)).placed p tag (Reply.refusal .range))) ∧
  (∀ (p : Port) (tag : Byte) (m weight lead least : Nat) (s : State), s.ready p (.defineClass m weight lead least) →
    15 < m ∨ weight < 1 ∨ 63 < weight ∨ lead < 1 ∨ 16 < lead ∨ least < 1 ∨ 50 < least →
    exec (.defineClass p tag m weight lead least) s =
      .next ((s.taking p tag (.defineClass m weight lead least)).placed p tag (Reply.refusal .range))) ∧
  (∀ (p : Port) (tag : Byte) (b t0 t1 t2 t3 : Nat) (s : State), s.ready p (.setTransit b t0 t1 t2 t3) →
    11 < b ∨ 60 < t0 ∨ 60 < t1 ∨ 60 < t2 ∨ 60 < t3 →
    exec (.setTransit p tag b t0 t1 t2 t3) s =
      .next ((s.taking p tag (.setTransit b t0 t1 t2 t3)).placed p tag (Reply.refusal .range))) ∧
  (∀ (p : Port) (tag : Byte) (k first : Nat) (vs : List Nat) (s : State), s.ready p (.setCapacity k first vs) →
    k ≤ 3 → vs ≠ [] → vs.length ≤ 24 → first + vs.length ≤ 96 →
    ∃ u, exec (.setCapacity p tag k first vs) s = .next (u.placed p tag
        { code := .ok, clamped := vs.any (fun v => decide (4095 < v))
          payload := .values (vs.map (fun v => min v 4095)) }) ∧
      (∀ g, u.capacity k g = match vs[g % 96 - first]? with
        | none => s.capacity k g
        | some v => if first ≤ g % 96 then min v 4095 else s.capacity k g) ∧
      (∀ j g, j ≠ k → u.capacity j g = s.capacity j g) ∧
      (∀ g, g < 768 → u.loadEntry k g =
        if first ≤ g % 96 ∧ g % 96 < first + vs.length then
          { s.loadEntry k g with isOver := decide (u.limit k g < (s.loadEntry k g).load) }
        else s.loadEntry k g) ∧
      (∀ j g, j ≠ k → g < 768 → u.loadEntry j g = s.loadEntry j g) ∧
      (s.tablesOk →
        u.ports = (if u.overWindows k = s.overWindows k then (s.taking p tag (.setCapacity k first vs)).ports
          else State.portsAfter (s.taking p tag (.setCapacity k first vs)) s.book.rev
            { kind := .kitchenOver, subject := .kitchen k, cond := some (.flag (!(u.overWindows k).isEmpty))
              data := [.window ((u.overWindows k).head?.map (fun g : Nat => (g : Int))),
                .count (u.overWindows k).length] })) ∧
      sameBut ([.profile, .load] ++ noticeParts) (s.taking p tag (.setCapacity k first vs)) u) ∧
  (∀ (p : Port) (tag : Byte) (m weight lead least : Nat) (s : State),
    s.ready p (.defineClass m weight lead least) → m ≤ 15 → 1 ≤ weight → weight ≤ 63 → 1 ≤ lead → lead ≤ 16 →
    1 ≤ least → least ≤ 50 →
    ∃ u, exec (.defineClass p tag m weight lead least) s = .next (u.placed p tag (Reply.okWith .none)) ∧
      u.menuClass m = some ⟨weight, lead, least⟩ ∧ (∀ j, j ≠ m → u.menuClass j = s.menuClass j) ∧
      sameBut [.classes] (s.taking p tag (.defineClass m weight lead least)) u) ∧
  (∀ (p : Port) (tag : Byte) (b t0 t1 t2 t3 : Nat) (s : State), s.ready p (.setTransit b t0 t1 t2 t3) → b ≤ 11 →
    t0 ≤ 60 → t1 ≤ 60 → t2 ≤ 60 → t3 ≤ 60 →
    ∃ u, exec (.setTransit p tag b t0 t1 t2 t3) s = .next (u.placed p tag (Reply.okWith .none)) ∧
      u.transit b 0 = t0 ∧ u.transit b 1 = t1 ∧ u.transit b 2 = t2 ∧ u.transit b 3 = t3 ∧
      (∀ d k, d ≠ b → k < 4 → u.transit d k = s.transit d k) ∧
      sameBut [.transit] (s.taking p tag (.setTransit b t0 t1 t2 t3)) u)

/-- R139: the limit of a kitchen in a global window, and the greatest limit. -/
def Obligations.LimitOfKitchen : Prop :=
  ∀ (s : State) (k g : Nat),
    ((s.kitchen k).isOpen = false → s.limit k g = 0) ∧
    ((s.kitchen k).isOpen = true →
      s.limit k g = Table.read 0 s.plan.profile (k * 96 + g % 96) * (100 + (s.kitchen k).overbook) / 100) ∧
    (Table.read 0 s.plan.profile (k * 96 + g % 96) ≤ 4095 → (s.kitchen k).overbook ≤ 25 → s.limit k g ≤ 5118) ∧
    (∀ e, e ∈ [(40, 10, 44), (33, 10, 36), (9, 25, 11), (3, 25, 3), (4095, 25, 5118)] →
      (s.kitchen k).isOpen = true → Table.read 0 s.plan.profile (k * 96 + g % 96) = e.1 →
      (s.kitchen k).overbook = e.2.1 → s.limit k g = e.2.2)

/-- R143: the load is spread over the prep windows as whole units: the last r windows take base + 1, the others base,
and the shares sum to the load. -/
def Obligations.SharesOfLoad : Prop :=
  ∀ (load lead : Nat) (f : Int), 1 ≤ lead →
    (sharesOf load lead f).length = lead ∧ load - load / lead * lead < lead ∧
    (∀ j, j < lead → (sharesOf load lead f)[j]? = some (f - (lead : Int) + 1 + (j : Int),
      if lead - (load - load / lead * lead) ≤ j then load / lead + 1 else load / lead)) ∧
    ((sharesOf load lead f).map Prod.snd).sum = load ∧
    (load < lead → ∀ j, j < lead - load → ((sharesOf load lead f)[j]?).map Prod.snd = some 0) ∧
    (sharesOf 54 4 f).map Prod.snd = [13, 13, 14, 14] ∧ (sharesOf 60 4 f).map Prod.snd = [15, 15, 15, 15] ∧
    (sharesOf 3 6 f).map Prod.snd = [0, 0, 0, 1, 1, 1] ∧
    (sharesOf 17 16 f).map Prod.snd = List.replicate 15 1 ++ [2] ∧ (sharesOf 1 1 f).map Prod.snd = [1]

/-- R141, R142, R144, R146: the admission test of a request whose fields are in range: FULL with no free order entry for
a new order, TOO_SOON, KITCHEN_FULL with the first window that fails, or the items of the order; ANY tries the kitchens
in ascending transit, and fails with the first tried. -/
def Obligations.AdmissionDecides : Prop :=
  (∀ (s : State) (isNew : Bool) (room : Nat) (start : Int) (q : CaterRequest) (mc : MenuClass),
    s.menuClass q.cls = some mc → start + q.offset ≤ 11519 → isNew = true → (∀ j, j < 512 → s.order? j ≠ none) →
    s.admission isNew room start q = .error .orderPoolFull) ∧
  (∀ (s : State) (isNew : Bool) (room k : Nat) (start dispatch last : Int) (q : CaterRequest) (mc : MenuClass)
      (covers load : Nat),
    s.menuClass q.cls = some mc → start + q.offset ≤ 11519 →
    (isNew = true → ∃ j, j < 512 ∧ s.order? j = none) → q.kitchen = .kitchen k →
    covers = min (max q.covers mc.minCovers) (s.room room).seats → load = (covers * mc.weight + 9) / 10 →
    dispatch = start + q.offset - (s.transit (s.room room).building k : Int) → last = dispatch / 15 - 1 →
    (last - (mc.lead : Int) + 1 ≤ (s.currentWindow : Int) ∨ last - (mc.lead : Int) + 1 < 0 →
      s.admission isNew room start q = .error .tooSoon) ∧
    (¬ (last - (mc.lead : Int) + 1 ≤ (s.currentWindow : Int) ∨ last - (mc.lead : Int) + 1 < 0) →
      (∀ pre w post, sharesOf load mc.lead last = pre ++ w :: post → 1 ≤ w.2 →
        s.limit k w.1.toNat < (s.loadEntry k w.1.toNat).load + w.2 →
        (∀ v, v ∈ pre → 1 ≤ v.2 → (s.loadEntry k v.1.toNat).load + v.2 ≤ s.limit k v.1.toNat) →
        s.admission isNew room start q = .error (.kitchenFull k w.1)) ∧
      ((∀ v, v ∈ sharesOf load mc.lead last → 1 ≤ v.2 →
          (s.loadEntry k v.1.toNat).load + v.2 ≤ s.limit k v.1.toNat) →
        s.admission isNew room start q = .ok
          { kitchen := k, covers := covers, load := load, lead := mc.lead, last := last
            cutoff := 15 * (last - (mc.lead : Int) + 1), dispatch := dispatch, delivery := start + q.offset
            clamped := decide (q.covers < mc.minCovers) ||
              decide ((s.room room).seats < max q.covers mc.minCovers) }))) ∧
  (∀ (s : State) (isNew : Bool) (room : Nat) (start : Int) (q : CaterRequest), q.kitchen = .any →
    ∃ order : List Nat, order.Perm [0, 1, 2, 3] ∧
      order.Pairwise (fun a b => s.transit (s.room room).building a < s.transit (s.room room).building b ∨
        (s.transit (s.room room).building a = s.transit (s.room room).building b ∧ a < b)) ∧
      (∀ pre k post m, order = pre ++ k :: post →
        (∀ j, j ∈ pre → ∀ n, s.admission isNew room start { q with kitchen := .kitchen j } ≠ .ok n) →
        s.admission isNew room start { q with kitchen := .kitchen k } = .ok m →
        s.admission isNew room start q = .ok m) ∧
      (∀ k rest e, order = k :: rest →
        (∀ j, j ∈ rest → ∀ n, s.admission isNew room start { q with kitchen := .kitchen j } ≠ .ok n) →
        s.admission isNew room start { q with kitchen := .kitchen k } = .error e →
        s.admission isNew room start q = .error e))

/-- R45, R145, R157 to R161: an admitted request creates an order in the lowest free entry with its load committed,
for a HOLD in the booking's own command and for CATER_ORDER with the link in a change of the booking's own; a request
that fails is refused with its failure; CATER_CHANGE stores the items of a passing re-admission; CATER_CANCEL
withdraws an ACCEPTED order and forfeits one in preparation; CATER_DELIVERED delivers one. Where the manual is silent
it follows the model's choice (log entries 17, 28 and 34). -/
def Obligations.OrderCommands : Prop :=
  (∀ (p : Port) (tag : Byte) (h : Handle) (r : Rec) (q : CaterRequest) (s : State),
    s.ready p (.caterOrder h r.rev q) → h.index ≤ 2047 → s.requestOut q = false →
    Pool.named? s.book.pool h = some r → r.kind = .booking →
    (∀ k, r.order = some k → exec (.caterOrder p tag h r.rev q) s =
      .next ((s.taking p tag (.caterOrder h r.rev q)).placed p tag (Reply.refusalWith .state (.orderHandle k)))) ∧
    (∀ e, r.order = none → s.admission true r.room r.startMinute q = .error e →
      exec (.caterOrder p tag h r.rev q) s =
        .next ((s.taking p tag (.caterOrder h r.rev q)).placed p tag (match e with
          | .orderPoolFull => Reply.refusalWith .full (.full .orderPool)
          | .tooSoon => Reply.refusal .tooSoon
          | .kitchenFull k g => Reply.refusalWith .kitchenFull (.kitchenFull k g)
          | .range => Reply.refusal .range))) ∧
    (∀ m j o, r.order = none → s.admission true r.room r.startMinute q = .ok m →
      isLowestFree s.plan.orders 512 j →
      o = { placing := p, booking := some h, kitchen := m.kitchen, cls := q.cls, covers := m.covers
            offset := q.offset, load := m.load, lead := m.lead, last := m.last, cutoff := m.cutoff
            dispatch := m.dispatch, delivery := m.delivery, state := .accepted
            deadline := some ⟨.cutoff, m.cutoff, false⟩, rev := satAdd 4294967295 s.book.rev 2
            clamped := m.clamped, lateSent := false } →
      ∃ u, exec (.caterOrder p tag h r.rev q) s = .next (u.placed p tag
          { code := .ok, clamped := m.clamped
            payload := .ordered (Pool.handle s.plan.orders j) (satAdd 4294967295 s.book.rev 2)
              (satAdd 4294967295 s.book.rev 1) m.kitchen m.covers m.cutoff m.dispatch m.delivery }) ∧
        u.order? j = some o ∧ Pool.handle u.plan.orders j = Pool.handle s.plan.orders j ∧ sameOtherOrders j s u ∧
        loadAdded s u o ∧
        u.rec? h.index = some { r with
          order := some (Pool.handle s.plan.orders j), rev := satAdd 4294967295 s.book.rev 1 } ∧
        u.recHandle h.index = h ∧ sameOtherRecords h.index s u ∧ u.book.rev = satAdd 4294967295 s.book.rev 2 ∧
        displayFollows s u r.room ∧
        u.ports = State.portsAfterChange (s.taking p tag (.caterOrder h r.rev q)) (satAdd 4294967295 s.book.rev 1) h
          r.owner (.port p) .caterOrder [] ∧
        sameBut ([.records, .revision, .orders, .load, .displayRevs, .displays] ++ noticeParts)
          (s.taking p tag (.caterOrder h r.rev q)) u)) ∧
  (∀ (p : Port) (tag : Byte) (a : HoldArgs) (q : CaterRequest) (s : State) (st en i : Nat), s.ready p (.hold a) →
    a.room ≤ 159 → a.plane ≤ 7 → a.start ≤ 1439 → a.stop ≤ 1440 → st = a.start / 5 → en = (a.stop + 4) / 5 →
    st < en → en - st ≤ 144 → 1 ≤ a.attendees → a.attendees ≤ 400 → a.holdMinutes ≤ 255 → a.cater = some q →
    s.requestOut q = false → (a.plane : Int) * 1440 + 5 * (st : Int) + q.offset ≤ 11519 →
    (s.room a.room).isOpen = true → ¬ (a.plane = 0 ∧ st < s.currentSlot) → a.attendees ≤ (s.room a.room).seats →
    s.freeRun a.room a.plane (st - (s.room a.room).setup) (min (en + (s.room a.room).clear) 288) none →
    isLowestFree s.book.pool 2048 i →
    (∀ e, s.admission true a.room ((a.plane : Int) * 1440 + 5 * (st : Int)) q = .error e →
      exec (.hold p tag a) s = .next ((s.taking p tag (.hold a)).placed p tag (match e with
        | .orderPoolFull => Reply.refusalWith .full (.full .orderPool)
        | .tooSoon => Reply.refusal .tooSoon
        | .kitchenFull k g => Reply.refusalWith .kitchenFull (.kitchenFull k g)
        | .range => Reply.refusal .range))) ∧
    (∀ m j o, s.admission true a.room ((a.plane : Int) * 1440 + 5 * (st : Int)) q = .ok m →
      isLowestFree s.plan.orders 512 j →
      o = { placing := p, booking := some (s.recHandle i), kitchen := m.kitchen, cls := q.cls, covers := m.covers
            offset := q.offset, load := m.load, lead := m.lead, last := m.last, cutoff := m.cutoff
            dispatch := m.dispatch, delivery := m.delivery, state := .accepted
            deadline := some ⟨.cutoff, m.cutoff, false⟩, rev := satAdd 4294967295 s.book.rev 2
            clamped := m.clamped, lateSent := false } →
      ∃ u data, exec (.hold p tag a) s = .next (u.placed p tag
          { code := .ok, clamped := decide (60 < a.holdMinutes) || m.clamped, payload := data }) ∧
        u.order? j = some o ∧ sameOtherOrders j s u ∧ loadAdded s u o ∧
        (∃ r, u.rec? i = some r ∧ r.state = .held ∧ r.room = a.room ∧ r.plane = a.plane ∧ r.start = st ∧
          r.stop = en ∧ r.order = some (Pool.handle s.plan.orders j) ∧ r.rev = satAdd 4294967295 s.book.rev 1 ∧
          data = .held (s.recHandle i) r.rev r.startMinute r.endMinute r.deadline.minute
            (if a.holdMinutes = 0 then 10 else min a.holdMinutes 60)
            (some (Pool.handle s.plan.orders j, o.rev)) (if m.clamped then some m.covers else none)) ∧
        u.recHandle i = s.recHandle i ∧ sameOtherRecords i s u ∧ u.book.rev = satAdd 4294967295 s.book.rev 2 ∧
        roomFollows s u a.room ∧
        sameBut ([.records, .revision, .orders, .load] ++ displayParts) (s.taking p tag (.hold a)) u)) ∧
  (∀ (p : Port) (tag : Byte) (h : Handle) (o : Order) (b : Handle) (r : Rec) (a : CaterChangeArgs)
      (q : CaterRequest) (s : State),
    s.ready p (.caterChange h o.rev a) → h.index ≤ 511 → s.caterChangeOut a = false →
    Pool.named? s.plan.orders h = some o → o.booking = some b → Pool.named? s.book.pool b = some r →
    q = { kitchen := a.kitchen.getD (.kitchen o.kitchen), cls := a.cls.getD o.cls
          covers := a.covers.getD o.covers, offset := a.offset.getD o.offset } →
    (o.state ≠ .accepted → exec (.caterChange p tag h o.rev a) s =
      .next ((s.taking p tag (.caterChange h o.rev a)).placed p tag (Reply.refusal .state))) ∧
    (∀ k g, o.state = .accepted →
      (s.withoutShares o).admission false r.room r.startMinute q = .error (.kitchenFull k g) →
      exec (.caterChange p tag h o.rev a) s = .next ((s.taking p tag (.caterChange h o.rev a)).placed p tag
        (Reply.refusalWith .kitchenFull (.kitchenFull k g)))) ∧
    (∀ m, o.state = .accepted → (s.withoutShares o).admission false r.room r.startMinute q = .ok m →
      admittedOrder o q m ≠ o →
      ∃ u, exec (.caterChange p tag h o.rev a) s = .next (u.placed p tag
          { code := .ok, clamped := m.clamped
            payload := .changed (satAdd 4294967295 s.book.rev 1) m.kitchen m.covers m.cutoff m.dispatch
              m.delivery }) ∧
        u.order? h.index = some { admittedOrder o q m with rev := satAdd 4294967295 s.book.rev 1 } ∧
        Pool.handle u.plan.orders h.index = h ∧ sameOtherOrders h.index s u ∧
        (∀ k g, g < 768 → (u.loadEntry k g).load =
          (s.loadEntry k g).load - o.shareIn k g + (admittedOrder o q m).shareIn k g) ∧
        u.book.rev = satAdd 4294967295 s.book.rev 1 ∧ displayFollows s u r.room ∧
        sameBut ([.orders, .revision, .load, .displayRevs, .displays] ++ noticeParts)
          (s.taking p tag (.caterChange h o.rev a)) u)) ∧
  (∀ (p : Port) (tag : Byte) (h : Handle) (o : Order) (b : Handle) (r : Rec) (s : State),
    s.ready p (.caterCancel h o.rev) → h.index ≤ 511 → Pool.named? s.plan.orders h = some o →
    o.booking = some b → Pool.named? s.book.pool b = some r →
    (o.state = .accepted →
      ∃ u, exec (.caterCancel p tag h o.rev) s = .next (u.placed p tag (Reply.okWith
          (.cancelled (satAdd 4294967295 s.book.rev 1) (some (satAdd 4294967295 s.book.rev 2))))) ∧
        Pool.entry u.plan.orders h.index = ⟨h.gen + 1, none⟩ ∧ sameOtherOrders h.index s u ∧
        u.book.ring.getLast? = some ⟨h, .order, .withdrawn, satAdd 4294967295 s.book.rev 1⟩ ∧
        (∀ k g, g < 768 → (u.loadEntry k g).load = (s.loadEntry k g).load - o.shareIn k g) ∧
        u.rec? b.index = some { r with order := none, rev := satAdd 4294967295 s.book.rev 2 } ∧
        sameOtherRecords b.index s u ∧ u.book.rev = satAdd 4294967295 s.book.rev 2 ∧ displayFollows s u r.room ∧
        sameBut (orderParts ++ [.records, .displayRevs, .displays]) (s.taking p tag (.caterCancel h o.rev)) u) ∧
    (o.state = .preparing ∨ o.state = .dispatched →
      ∃ u, exec (.caterCancel p tag h o.rev) s = .next (u.placed p tag (Reply.okWith
          (.cancelled (satAdd 4294967295 s.book.rev 1) none))) ∧
        u.order? h.index = some { o with
          state := .forfeit, deadline := none, rev := satAdd 4294967295 s.book.rev 1 } ∧
        sameOtherOrders h.index s u ∧ u.book.rev = satAdd 4294967295 s.book.rev 1 ∧ displayFollows s u r.room ∧
        u.ports = State.portsAfter (s.taking p tag (.caterCancel h o.rev)) (satAdd 4294967295 s.book.rev 1)
          { kind := .caterForfeit, subject := .order h, owner := some o.placing, hi := .cause .caterCancel
            lo := .actor (.port p), data := [.booking (some b)] } ∧
        sameBut ([.orders, .revision, .displayRevs, .displays] ++ noticeParts)
          (s.taking p tag (.caterCancel h o.rev)) u) ∧
    (o.state = .delivered ∨ o.state = .forfeit → exec (.caterCancel p tag h o.rev) s =
      .next ((s.taking p tag (.caterCancel h o.rev)).placed p tag (Reply.refusal .state)))) ∧
  (∀ (p : Port) (tag : Byte) (h : Handle) (o : Order) (b : Handle) (r : Rec) (s : State),
    s.ready p (.caterDelivered h o.rev) → h.index ≤ 511 → Pool.named? s.plan.orders h = some o →
    o.booking = some b → Pool.named? s.book.pool b = some r →
    (o.state = .preparing ∨ o.state = .dispatched →
      ∃ u, exec (.caterDelivered p tag h o.rev) s = .next (u.placed p tag (Reply.okWith
          (.revision (satAdd 4294967295 s.book.rev 1)))) ∧
        u.order? h.index = some { o with
          state := .delivered, deadline := none, rev := satAdd 4294967295 s.book.rev 1 } ∧
        sameOtherOrders h.index s u ∧ u.book.rev = satAdd 4294967295 s.book.rev 1 ∧ displayFollows s u r.room ∧
        sameBut [.orders, .revision, .displayRevs, .displays] (s.taking p tag (.caterDelivered h o.rev)) u) ∧
    (o.state ≠ .preparing → o.state ≠ .dispatched → exec (.caterDelivered p tag h o.rev) s =
      .next ((s.taking p tag (.caterDelivered h o.rev)).placed p tag (Reply.refusal .state))))

/-! ### Usage, routing and notices -/

/-- R171, R172, R178: SNAPSHOT closes the period into the bank and raises DAY_ROLLED; SET_AUTO_SNAPSHOT stores its flag;
CONFIG_ROUTE replaces a routing entry whole. -/
def Obligations.UsageAndRouting : Prop :=
  (∀ (p : Port) (tag : Byte) (s : State), s.ready p .snapshot →
    ∃ u, exec (.snapshot p tag) s = .next (u.placed p tag (Reply.okWith (.sequence (s.monitor.bank.seq + 1)))) ∧
      u.monitor.bank = { rooms := s.monitor.rooms, kitchens := s.monitor.kitchens, seq := s.monitor.bank.seq + 1
                         kind := .manual, day := s.clock.day, minute := s.clock.minute } ∧
      (∀ r, u.roomUsage r = ⟨0, 0, 0, 0, 0, 0, 0⟩) ∧ (∀ k, u.kitchenUsage k = ⟨0, 0, 0, 0⟩) ∧
      u.ports = State.portsAfter (s.taking p tag .snapshot) s.book.rev
        { kind := .dayRolled, subject := .snapshot (s.monitor.bank.seq + 1), hi := .snapshot .manual
          data := [.time s.clock.day s.clock.minute] } ∧
      sameBut ([.roomUsage, .kitchenUsage, .bank] ++ noticeParts) (s.taking p tag .snapshot) u) ∧
  (∀ (p : Port) (tag : Byte) (v : Bool) (s : State), s.ready p (.setAutoSnapshot v) →
    ∃ u, exec (.setAutoSnapshot p tag v) s = .next (u.placed p tag (Reply.okWith .none)) ∧
      u.monitor.autoSnapshot = v ∧ sameBut [.autoSnapshot] (s.taking p tag (.setAutoSnapshot v)) u) ∧
  (∀ (p : Port) (tag : Byte) (a : ConfigRouteArgs) (s : State), s.ready p (.configRoute a) →
    (a.kind < 1 ∨ 20 < a.kind ∨ 7 < a.priority ∨ a.mode = none → exec (.configRoute p tag a) s =
      .next ((s.taking p tag (.configRoute a)).placed p tag (Reply.refusal .range))) ∧
    (∀ m, 1 ≤ a.kind → a.kind ≤ 20 → a.priority ≤ 7 → a.mode = some m →
      ∃ u, exec (.configRoute p tag a) s = .next (u.placed p tag (Reply.okWith
          (.route { enabled := a.enabled, mode := m, ports := a.ports, priority := a.priority }))) ∧
        u.route a.kind = { enabled := a.enabled, mode := m, ports := a.ports, priority := a.priority } ∧
        (∀ k, k ≠ a.kind → u.route k = s.route k) ∧ sameBut [.routes] (s.taking p tag (.configRoute a)) u))

/-- R176, R180 to R185: a notice of a kind that is not enabled goes nowhere; FIXED offers a copy to each port of the set,
OWNER to the owner port or as FIXED where there is none, LEAST to the port that holds its kind and subject, or else to
the one with the fewest notices that has room, or to none with OVERRUN at each; a copy offered coalesces with a queued one
of its kind and subject, is placed by priority, or is dropped with OVERRUN from a full queue. -/
def Obligations.NoticesAreRoutedAndQueued : Prop :=
  (∀ (s : State) (e : Raised), (s.route e.kind.number).enabled = false → s.raise e = s) ∧
  (∀ (s : State) (e : Raised) (n : Notice), (s.route e.kind.number).enabled = true →
    n = { kind := e.kind, subject := e.subject, priority := (s.route e.kind.number).priority
          rev := match e.rev with
            | some r => r
            | none => s.book.rev
          day := s.clock.day, minute := s.clock.minute, cond := e.cond, transitions := 1, hi := e.hi, lo := e.lo
          tag := e.tag, data := e.data } →
    ((s.route e.kind.number).mode = .fixed ∨ ((s.route e.kind.number).mode = .owner ∧ e.owner = none) →
      ∀ p, (s.raise e).port p =
        if portSetHolds (s.route e.kind.number).ports p then (s.port p).offer n else s.port p) ∧
    (∀ q, (s.route e.kind.number).mode = .owner → e.owner = some q →
      (s.raise e).port q = (s.port q).offer n ∧ ∀ p, p ≠ q → (s.raise e).port p = s.port p) ∧
    (∀ i p, (s.route e.kind.number).mode = .least → portOfLetter i = some p →
      portSetHolds (s.route e.kind.number).ports p = true → (s.port p).holdsTopic n = true →
      (∀ j q, j < i → portOfLetter j = some q → portSetHolds (s.route e.kind.number).ports q = true →
        (s.port q).holdsTopic n = false) →
      (s.raise e).port p = (s.port p).offer n ∧ ∀ r, r ≠ p → (s.raise e).port r = s.port r) ∧
    ((s.route e.kind.number).mode = .least →
      (∀ q, portSetHolds (s.route e.kind.number).ports q = true → (s.port q).holdsTopic n = false) →
      (∀ i p, portOfLetter i = some p → portSetHolds (s.route e.kind.number).ports p = true →
        (s.port p).queue.length < 24 →
        (∀ j q, portOfLetter j = some q → portSetHolds (s.route e.kind.number).ports q = true →
          (s.port q).queue.length < 24 → j ≠ i → (s.port p).queue.length < (s.port q).queue.length ∨
            ((s.port p).queue.length = (s.port q).queue.length ∧ i < j)) →
        (s.raise e).port p = (s.port p).offer n ∧ ∀ r, r ≠ p → (s.raise e).port r = s.port r) ∧
      ((∀ q, portSetHolds (s.route e.kind.number).ports q = true → 24 ≤ (s.port q).queue.length) →
        ∀ p, (s.raise e).port p =
          if portSetHolds (s.route e.kind.number).ports p then
            { s.port p with
              flags := { (s.port p).flags with overrun := true }, reading := ((s.raise e).port p).reading }
          else s.port p))) ∧
  (∀ (a : AgentPort) (n : Notice), (∀ m, m ∈ a.queue → ¬ (m.kind = n.kind ∧ m.subject = n.subject)) →
    (a.queue.length < 24 → priorityOrdered a.queue = true →
      ∃ pre post, a.queue = pre ++ post ∧ (∀ m, m ∈ pre → n.priority ≤ m.priority) ∧
        (∀ m, m ∈ post → m.priority < n.priority) ∧ a.offer n = { a with queue := pre ++ n :: post }) ∧
    (24 ≤ a.queue.length → (a.offer n).queue = a.queue ∧
      (a.offer n).flags = { a.flags with overrun := true })) ∧
  (∀ (a : AgentPort) (n m : Notice) (pre post : List Notice), topicsDistinct a.queue = true →
    a.queue = pre ++ m :: post → m.kind = n.kind → m.subject = n.subject →
    (a.offer n).queue = pre ++ { n with
      priority := m.priority
      transitions := match n.cond with
        | none => 1
        | some _ => min (m.transitions + 1) 15 } :: post ∧ (a.offer n).flags = a.flags)

/-! ### Invariants -/

/-- R183: no command or event takes a notice queue past 24 notices, out of priority order, or to two notices of one kind
and subject. -/
def Obligations.QueuesStayOrdered : Prop :=
  ∀ (c : Instr) (s t : State), s.queuesOk → exec c s = .next t → t.queuesOk

/-- 12.3, R191, R195: every port keeps its slot full exactly in ANSWER_READY and a command in hand exactly in EXECUTING;
a read of a response is of the one in the slot. -/
def Obligations.PortsStayConsistent : Prop :=
  ∀ (c : Instr) (s t : State), s.portsOk → exec c s = .next t → t.portsOk

/-- R32, R33, R35: revisions of records and tombstones never pass the counter, nor the counter 32 bits; the ring holds at
most 256 tombstones in the order of their revisions; and the counter never falls but at a cold reset. -/
def Obligations.RevisionsStayOrdered : Prop :=
  ∀ (c : Instr) (s t : State), s.revisionsOk → s.ringOk → exec c s = .next t →
    t.revisionsOk ∧ t.ringOk ∧ ((∀ x y z, c ≠ .coldReset x y z) → s.book.rev ≤ t.book.rev)

/-- R88, R93, R100, R109, R111, R115, R168, R184: every usage counter, live and banked, every chronic count, link counter
and position streak, every room's vacancy minutes, every record's extensions and every queued notice's transitions stay
within their widths. -/
def Obligations.CountersStayInWidth : Prop :=
  ∀ (c : Instr) (s t : State), s.countersOk → exec c s = .next t → t.countersOk

/-- Every table and pool of the model, the bank's among them, keeps its one canonical form, so that equal contents are
equal data (the model's own invariant, log entry 9: the manual names no representation). -/
def Obligations.TablesStayCanonical : Prop :=
  ∀ (c : Instr) (s t : State), s.tablesOk → exec c s = .next t → t.tablesOk

/-- R19, R24: every live record stays inside one plane and a room that exists, and the padded intervals of a room and
plane stay pairwise disjoint. -/
def Obligations.RecordsStayDisjoint : Prop :=
  ∀ (c : Instr) (s t : State), s.tablesOk → s.bookSound → exec c s = .next t → t.bookSound

/-- R140, R149: every window's committed load stays the sum of the live orders' shares in it, and a load above the limit
stays marked OVER. -/
def Obligations.LoadStaysExplained : Prop :=
  (∀ (c : Instr) (s t : State), s.loadOk → exec c s = .next t → t.loadOk) ∧
  (∀ (c : Instr) (s t : State), s.overOk → exec c s = .next t → t.overOk)

/-- R8, R10: while the device is CONFIGURING it holds no record, no waitlist entry, no order and no load. -/
def Obligations.ConfiguringStaysEmpty : Prop :=
  ∀ (c : Instr) (s t : State), s.emptyWhileConfiguring → exec c s = .next t → t.emptyWhileConfiguring

/-- The state after reset meets every invariant above. -/
def Obligations.ResetMeetsInvariants : Prop :=
  State.reset.queuesOk ∧ State.reset.portsOk ∧ State.reset.revisionsOk ∧ State.reset.ringOk ∧
  State.reset.countersOk ∧ State.reset.tablesOk ∧ State.reset.bookSound ∧ State.reset.loadOk ∧ State.reset.overOk ∧
  State.reset.emptyWhileConfiguring
end

