-- ==== Sys2Proof/Laws/State.lean ====
section
/-! SUPPORT. One lemma for each field of the state that a named update leaves alone or sets, each true by `rfl`, so that
no proof unfolds a record update. -/

namespace Sys2Proof.Machine

variable (s : State)

/-! ### setPort -/

@[simp] theorem State.setPort_pending (p : Port) (a : AgentPort) : (s.setPort p a).pending = s.pending := rfl
@[simp] theorem State.setPort_choices (p : Port) (a : AgentPort) : (s.setPort p a).choices = s.choices := rfl
@[simp] theorem State.setPort_resetLow (p : Port) (a : AgentPort) : (s.setPort p a).resetLow = s.resetLow := rfl
@[simp] theorem State.setPort_clock (p : Port) (a : AgentPort) : (s.setPort p a).clock = s.clock := rfl
@[simp] theorem State.setPort_site (p : Port) (a : AgentPort) : (s.setPort p a).site = s.site := rfl
@[simp] theorem State.setPort_book (p : Port) (a : AgentPort) : (s.setPort p a).book = s.book := rfl
@[simp] theorem State.setPort_wait (p : Port) (a : AgentPort) : (s.setPort p a).wait = s.wait := rfl
@[simp] theorem State.setPort_link (p : Port) (a : AgentPort) : (s.setPort p a).link = s.link := rfl
@[simp] theorem State.setPort_plan (p : Port) (a : AgentPort) : (s.setPort p a).plan = s.plan := rfl
@[simp] theorem State.setPort_monitor (p : Port) (a : AgentPort) : (s.setPort p a).monitor = s.monitor := rfl
@[simp] theorem State.setPort_routes (p : Port) (a : AgentPort) : (s.setPort p a).routes = s.routes := rfl
@[simp] theorem State.setPort_ports (p : Port) (a : AgentPort) : (s.setPort p a).ports = s.ports.set p a := rfl

/-! ### setRoom -/

@[simp] theorem State.setRoom_pending (r : Nat) (v : Room) : (s.setRoom r v).pending = s.pending := rfl
@[simp] theorem State.setRoom_choices (r : Nat) (v : Room) : (s.setRoom r v).choices = s.choices := rfl
@[simp] theorem State.setRoom_resetLow (r : Nat) (v : Room) : (s.setRoom r v).resetLow = s.resetLow := rfl
@[simp] theorem State.setRoom_clock (r : Nat) (v : Room) : (s.setRoom r v).clock = s.clock := rfl
@[simp] theorem State.setRoom_book (r : Nat) (v : Room) : (s.setRoom r v).book = s.book := rfl
@[simp] theorem State.setRoom_wait (r : Nat) (v : Room) : (s.setRoom r v).wait = s.wait := rfl
@[simp] theorem State.setRoom_link (r : Nat) (v : Room) : (s.setRoom r v).link = s.link := rfl
@[simp] theorem State.setRoom_plan (r : Nat) (v : Room) : (s.setRoom r v).plan = s.plan := rfl
@[simp] theorem State.setRoom_monitor (r : Nat) (v : Room) : (s.setRoom r v).monitor = s.monitor := rfl
@[simp] theorem State.setRoom_routes (r : Nat) (v : Room) : (s.setRoom r v).routes = s.routes := rfl
@[simp] theorem State.setRoom_ports (r : Nat) (v : Room) : (s.setRoom r v).ports = s.ports := rfl
@[simp] theorem State.setRoom_site_mode (r : Nat) (v : Room) : (s.setRoom r v).site.mode = s.site.mode := rfl
@[simp] theorem State.setRoom_site_buildings (r : Nat) (v : Room) : (s.setRoom r v).site.buildings = s.site.buildings := rfl
@[simp] theorem State.setRoom_site_rooms (r : Nat) (v : Room) :
    (s.setRoom r v).site.rooms = Table.write Room.cold s.site.rooms r v := rfl

/-! ### advanceRev -/

@[simp] theorem State.advanceRev_pending : (s.advanceRev).pending = s.pending := rfl
@[simp] theorem State.advanceRev_choices : (s.advanceRev).choices = s.choices := rfl
@[simp] theorem State.advanceRev_resetLow : (s.advanceRev).resetLow = s.resetLow := rfl
@[simp] theorem State.advanceRev_clock : (s.advanceRev).clock = s.clock := rfl
@[simp] theorem State.advanceRev_site : (s.advanceRev).site = s.site := rfl
@[simp] theorem State.advanceRev_wait : (s.advanceRev).wait = s.wait := rfl
@[simp] theorem State.advanceRev_link : (s.advanceRev).link = s.link := rfl
@[simp] theorem State.advanceRev_plan : (s.advanceRev).plan = s.plan := rfl
@[simp] theorem State.advanceRev_monitor : (s.advanceRev).monitor = s.monitor := rfl
@[simp] theorem State.advanceRev_routes : (s.advanceRev).routes = s.routes := rfl
@[simp] theorem State.advanceRev_ports : (s.advanceRev).ports = s.ports := rfl
@[simp] theorem State.advanceRev_book_pool : (s.advanceRev).book.pool = s.book.pool := rfl
@[simp] theorem State.advanceRev_book_ring : (s.advanceRev).book.ring = s.book.ring := rfl
@[simp] theorem State.advanceRev_book_wrapped : (s.advanceRev).book.wrapped = s.book.wrapped := rfl
@[simp] theorem State.advanceRev_book_clearMark : (s.advanceRev).book.clearMark = s.book.clearMark := rfl
@[simp] theorem State.advanceRev_book_listings : (s.advanceRev).book.listings = s.book.listings := rfl
@[simp] theorem State.advanceRev_book_vacancy : (s.advanceRev).book.vacancy = s.book.vacancy := rfl
@[simp] theorem State.advanceRev_book_rev : s.advanceRev.book.rev = satAdd Config.revMax s.book.rev 1 := rfl

/-! ### setPool -/

@[simp] theorem State.setPool_pending (x : Pool Rec) : (s.setPool x).pending = s.pending := rfl
@[simp] theorem State.setPool_choices (x : Pool Rec) : (s.setPool x).choices = s.choices := rfl
@[simp] theorem State.setPool_resetLow (x : Pool Rec) : (s.setPool x).resetLow = s.resetLow := rfl
@[simp] theorem State.setPool_clock (x : Pool Rec) : (s.setPool x).clock = s.clock := rfl
@[simp] theorem State.setPool_site (x : Pool Rec) : (s.setPool x).site = s.site := rfl
@[simp] theorem State.setPool_wait (x : Pool Rec) : (s.setPool x).wait = s.wait := rfl
@[simp] theorem State.setPool_link (x : Pool Rec) : (s.setPool x).link = s.link := rfl
@[simp] theorem State.setPool_plan (x : Pool Rec) : (s.setPool x).plan = s.plan := rfl
@[simp] theorem State.setPool_monitor (x : Pool Rec) : (s.setPool x).monitor = s.monitor := rfl
@[simp] theorem State.setPool_routes (x : Pool Rec) : (s.setPool x).routes = s.routes := rfl
@[simp] theorem State.setPool_ports (x : Pool Rec) : (s.setPool x).ports = s.ports := rfl
@[simp] theorem State.setPool_book_rev (x : Pool Rec) : (s.setPool x).book.rev = s.book.rev := rfl
@[simp] theorem State.setPool_book_ring (x : Pool Rec) : (s.setPool x).book.ring = s.book.ring := rfl
@[simp] theorem State.setPool_book_wrapped (x : Pool Rec) : (s.setPool x).book.wrapped = s.book.wrapped := rfl
@[simp] theorem State.setPool_book_clearMark (x : Pool Rec) : (s.setPool x).book.clearMark = s.book.clearMark := rfl
@[simp] theorem State.setPool_book_listings (x : Pool Rec) : (s.setPool x).book.listings = s.book.listings := rfl
@[simp] theorem State.setPool_book_vacancy (x : Pool Rec) : (s.setPool x).book.vacancy = s.book.vacancy := rfl
@[simp] theorem State.setPool_book_pool (x : Pool Rec) : (s.setPool x).book.pool = x := rfl

/-! ### setOrders -/

@[simp] theorem State.setOrders_pending (x : Pool Order) : (s.setOrders x).pending = s.pending := rfl
@[simp] theorem State.setOrders_choices (x : Pool Order) : (s.setOrders x).choices = s.choices := rfl
@[simp] theorem State.setOrders_resetLow (x : Pool Order) : (s.setOrders x).resetLow = s.resetLow := rfl
@[simp] theorem State.setOrders_clock (x : Pool Order) : (s.setOrders x).clock = s.clock := rfl
@[simp] theorem State.setOrders_site (x : Pool Order) : (s.setOrders x).site = s.site := rfl
@[simp] theorem State.setOrders_book (x : Pool Order) : (s.setOrders x).book = s.book := rfl
@[simp] theorem State.setOrders_wait (x : Pool Order) : (s.setOrders x).wait = s.wait := rfl
@[simp] theorem State.setOrders_link (x : Pool Order) : (s.setOrders x).link = s.link := rfl
@[simp] theorem State.setOrders_monitor (x : Pool Order) : (s.setOrders x).monitor = s.monitor := rfl
@[simp] theorem State.setOrders_routes (x : Pool Order) : (s.setOrders x).routes = s.routes := rfl
@[simp] theorem State.setOrders_ports (x : Pool Order) : (s.setOrders x).ports = s.ports := rfl
@[simp] theorem State.setOrders_plan_kitchens (x : Pool Order) : (s.setOrders x).plan.kitchens = s.plan.kitchens := rfl
@[simp] theorem State.setOrders_plan_profile (x : Pool Order) : (s.setOrders x).plan.profile = s.plan.profile := rfl
@[simp] theorem State.setOrders_plan_classes (x : Pool Order) : (s.setOrders x).plan.classes = s.plan.classes := rfl
@[simp] theorem State.setOrders_plan_transit (x : Pool Order) : (s.setOrders x).plan.transit = s.plan.transit := rfl
@[simp] theorem State.setOrders_plan_load (x : Pool Order) : (s.setOrders x).plan.load = s.plan.load := rfl
@[simp] theorem State.setOrders_plan_orders (x : Pool Order) : (s.setOrders x).plan.orders = x := rfl

/-! ### changeRec -/

@[simp] theorem State.changeRec_pending (i : Nat) (r : Rec) : (s.changeRec i r).pending = s.pending := rfl
@[simp] theorem State.changeRec_choices (i : Nat) (r : Rec) : (s.changeRec i r).choices = s.choices := rfl
@[simp] theorem State.changeRec_resetLow (i : Nat) (r : Rec) : (s.changeRec i r).resetLow = s.resetLow := rfl
@[simp] theorem State.changeRec_clock (i : Nat) (r : Rec) : (s.changeRec i r).clock = s.clock := rfl
@[simp] theorem State.changeRec_site (i : Nat) (r : Rec) : (s.changeRec i r).site = s.site := rfl
@[simp] theorem State.changeRec_wait (i : Nat) (r : Rec) : (s.changeRec i r).wait = s.wait := rfl
@[simp] theorem State.changeRec_link (i : Nat) (r : Rec) : (s.changeRec i r).link = s.link := rfl
@[simp] theorem State.changeRec_plan (i : Nat) (r : Rec) : (s.changeRec i r).plan = s.plan := rfl
@[simp] theorem State.changeRec_monitor (i : Nat) (r : Rec) : (s.changeRec i r).monitor = s.monitor := rfl
@[simp] theorem State.changeRec_routes (i : Nat) (r : Rec) : (s.changeRec i r).routes = s.routes := rfl
@[simp] theorem State.changeRec_ports (i : Nat) (r : Rec) : (s.changeRec i r).ports = s.ports := rfl
@[simp] theorem State.changeRec_book_ring (i : Nat) (r : Rec) : (s.changeRec i r).book.ring = s.book.ring := rfl
@[simp] theorem State.changeRec_book_wrapped (i : Nat) (r : Rec) : (s.changeRec i r).book.wrapped = s.book.wrapped := rfl
@[simp] theorem State.changeRec_book_clearMark (i : Nat) (r : Rec) : (s.changeRec i r).book.clearMark = s.book.clearMark := rfl
@[simp] theorem State.changeRec_book_listings (i : Nat) (r : Rec) : (s.changeRec i r).book.listings = s.book.listings := rfl
@[simp] theorem State.changeRec_book_vacancy (i : Nat) (r : Rec) : (s.changeRec i r).book.vacancy = s.book.vacancy := rfl
@[simp] theorem State.changeRec_book_rev (i : Nat) (r : Rec) :
    (s.changeRec i r).book.rev = s.advanceRev.book.rev := rfl
@[simp] theorem State.changeRec_book_pool (i : Nat) (r : Rec) :
    (s.changeRec i r).book.pool = Pool.store s.book.pool i { r with rev := s.advanceRev.book.rev } := rfl

/-! ### changeOrder -/

@[simp] theorem State.changeOrder_pending (i : Nat) (o : Order) : (s.changeOrder i o).pending = s.pending := rfl
@[simp] theorem State.changeOrder_choices (i : Nat) (o : Order) : (s.changeOrder i o).choices = s.choices := rfl
@[simp] theorem State.changeOrder_resetLow (i : Nat) (o : Order) : (s.changeOrder i o).resetLow = s.resetLow := rfl
@[simp] theorem State.changeOrder_clock (i : Nat) (o : Order) : (s.changeOrder i o).clock = s.clock := rfl
@[simp] theorem State.changeOrder_site (i : Nat) (o : Order) : (s.changeOrder i o).site = s.site := rfl
@[simp] theorem State.changeOrder_wait (i : Nat) (o : Order) : (s.changeOrder i o).wait = s.wait := rfl
@[simp] theorem State.changeOrder_link (i : Nat) (o : Order) : (s.changeOrder i o).link = s.link := rfl
@[simp] theorem State.changeOrder_monitor (i : Nat) (o : Order) : (s.changeOrder i o).monitor = s.monitor := rfl
@[simp] theorem State.changeOrder_routes (i : Nat) (o : Order) : (s.changeOrder i o).routes = s.routes := rfl
@[simp] theorem State.changeOrder_ports (i : Nat) (o : Order) : (s.changeOrder i o).ports = s.ports := rfl
@[simp] theorem State.changeOrder_book_pool (i : Nat) (o : Order) : (s.changeOrder i o).book.pool = s.book.pool := rfl
@[simp] theorem State.changeOrder_book_ring (i : Nat) (o : Order) : (s.changeOrder i o).book.ring = s.book.ring := rfl
@[simp] theorem State.changeOrder_book_wrapped (i : Nat) (o : Order) : (s.changeOrder i o).book.wrapped = s.book.wrapped := rfl
@[simp] theorem State.changeOrder_book_clearMark (i : Nat) (o : Order) : (s.changeOrder i o).book.clearMark = s.book.clearMark := rfl
@[simp] theorem State.changeOrder_book_listings (i : Nat) (o : Order) : (s.changeOrder i o).book.listings = s.book.listings := rfl
@[simp] theorem State.changeOrder_book_vacancy (i : Nat) (o : Order) : (s.changeOrder i o).book.vacancy = s.book.vacancy := rfl
@[simp] theorem State.changeOrder_plan_kitchens (i : Nat) (o : Order) : (s.changeOrder i o).plan.kitchens = s.plan.kitchens := rfl
@[simp] theorem State.changeOrder_plan_profile (i : Nat) (o : Order) : (s.changeOrder i o).plan.profile = s.plan.profile := rfl
@[simp] theorem State.changeOrder_plan_classes (i : Nat) (o : Order) : (s.changeOrder i o).plan.classes = s.plan.classes := rfl
@[simp] theorem State.changeOrder_plan_transit (i : Nat) (o : Order) : (s.changeOrder i o).plan.transit = s.plan.transit := rfl
@[simp] theorem State.changeOrder_plan_load (i : Nat) (o : Order) : (s.changeOrder i o).plan.load = s.plan.load := rfl
@[simp] theorem State.changeOrder_book_rev (i : Nat) (o : Order) :
    (s.changeOrder i o).book.rev = s.advanceRev.book.rev := rfl
@[simp] theorem State.changeOrder_plan_orders (i : Nat) (o : Order) :
    (s.changeOrder i o).plan.orders = Pool.store s.plan.orders i { o with rev := s.advanceRev.book.rev } := rfl

/-! ### setChain -/

@[simp] theorem State.setChain_pending (c : Nat) (v : Chain) : (s.setChain c v).pending = s.pending := rfl
@[simp] theorem State.setChain_choices (c : Nat) (v : Chain) : (s.setChain c v).choices = s.choices := rfl
@[simp] theorem State.setChain_resetLow (c : Nat) (v : Chain) : (s.setChain c v).resetLow = s.resetLow := rfl
@[simp] theorem State.setChain_clock (c : Nat) (v : Chain) : (s.setChain c v).clock = s.clock := rfl
@[simp] theorem State.setChain_site (c : Nat) (v : Chain) : (s.setChain c v).site = s.site := rfl
@[simp] theorem State.setChain_book (c : Nat) (v : Chain) : (s.setChain c v).book = s.book := rfl
@[simp] theorem State.setChain_wait (c : Nat) (v : Chain) : (s.setChain c v).wait = s.wait := rfl
@[simp] theorem State.setChain_plan (c : Nat) (v : Chain) : (s.setChain c v).plan = s.plan := rfl
@[simp] theorem State.setChain_monitor (c : Nat) (v : Chain) : (s.setChain c v).monitor = s.monitor := rfl
@[simp] theorem State.setChain_routes (c : Nat) (v : Chain) : (s.setChain c v).routes = s.routes := rfl
@[simp] theorem State.setChain_ports (c : Nat) (v : Chain) : (s.setChain c v).ports = s.ports := rfl
@[simp] theorem State.setChain_link_locations (c : Nat) (v : Chain) : (s.setChain c v).link.locations = s.link.locations := rfl
@[simp] theorem State.setChain_link_displays (c : Nat) (v : Chain) : (s.setChain c v).link.displays = s.link.displays := rfl
@[simp] theorem State.setChain_link_chains (c : Nat) (v : Chain) :
    (s.setChain c v).link.chains = Table.write Chain.cold s.link.chains c v := rfl

/-! ### setPosition -/

@[simp] theorem State.setPosition_pending (c p : Nat) (v : Position) : (s.setPosition c p v).pending = s.pending := rfl
@[simp] theorem State.setPosition_choices (c p : Nat) (v : Position) : (s.setPosition c p v).choices = s.choices := rfl
@[simp] theorem State.setPosition_resetLow (c p : Nat) (v : Position) : (s.setPosition c p v).resetLow = s.resetLow := rfl
@[simp] theorem State.setPosition_clock (c p : Nat) (v : Position) : (s.setPosition c p v).clock = s.clock := rfl
@[simp] theorem State.setPosition_site (c p : Nat) (v : Position) : (s.setPosition c p v).site = s.site := rfl
@[simp] theorem State.setPosition_book (c p : Nat) (v : Position) : (s.setPosition c p v).book = s.book := rfl
@[simp] theorem State.setPosition_wait (c p : Nat) (v : Position) : (s.setPosition c p v).wait = s.wait := rfl
@[simp] theorem State.setPosition_plan (c p : Nat) (v : Position) : (s.setPosition c p v).plan = s.plan := rfl
@[simp] theorem State.setPosition_monitor (c p : Nat) (v : Position) : (s.setPosition c p v).monitor = s.monitor := rfl
@[simp] theorem State.setPosition_routes (c p : Nat) (v : Position) : (s.setPosition c p v).routes = s.routes := rfl
@[simp] theorem State.setPosition_ports (c p : Nat) (v : Position) : (s.setPosition c p v).ports = s.ports := rfl
@[simp] theorem State.setPosition_link_locations (c p : Nat) (v : Position) : (s.setPosition c p v).link.locations = s.link.locations := rfl
@[simp] theorem State.setPosition_link_displays (c p : Nat) (v : Position) : (s.setPosition c p v).link.displays = s.link.displays := rfl

/-! ### setLocation -/

@[simp] theorem State.setLocation_pending (r : Nat) (l : Option Location) : (s.setLocation r l).pending = s.pending := rfl
@[simp] theorem State.setLocation_choices (r : Nat) (l : Option Location) : (s.setLocation r l).choices = s.choices := rfl
@[simp] theorem State.setLocation_resetLow (r : Nat) (l : Option Location) : (s.setLocation r l).resetLow = s.resetLow := rfl
@[simp] theorem State.setLocation_clock (r : Nat) (l : Option Location) : (s.setLocation r l).clock = s.clock := rfl
@[simp] theorem State.setLocation_site (r : Nat) (l : Option Location) : (s.setLocation r l).site = s.site := rfl
@[simp] theorem State.setLocation_book (r : Nat) (l : Option Location) : (s.setLocation r l).book = s.book := rfl
@[simp] theorem State.setLocation_wait (r : Nat) (l : Option Location) : (s.setLocation r l).wait = s.wait := rfl
@[simp] theorem State.setLocation_plan (r : Nat) (l : Option Location) : (s.setLocation r l).plan = s.plan := rfl
@[simp] theorem State.setLocation_monitor (r : Nat) (l : Option Location) : (s.setLocation r l).monitor = s.monitor := rfl
@[simp] theorem State.setLocation_routes (r : Nat) (l : Option Location) : (s.setLocation r l).routes = s.routes := rfl
@[simp] theorem State.setLocation_ports (r : Nat) (l : Option Location) : (s.setLocation r l).ports = s.ports := rfl
@[simp] theorem State.setLocation_link_chains (r : Nat) (l : Option Location) : (s.setLocation r l).link.chains = s.link.chains := rfl
@[simp] theorem State.setLocation_link_displays (r : Nat) (l : Option Location) : (s.setLocation r l).link.displays = s.link.displays := rfl
@[simp] theorem State.setLocation_link_locations (r : Nat) (l : Option Location) :
    (s.setLocation r l).link.locations = Table.write none s.link.locations r l := rfl

/-! ### setDisplay -/

@[simp] theorem State.setDisplay_pending (r : Nat) (v : Display) : (s.setDisplay r v).pending = s.pending := rfl
@[simp] theorem State.setDisplay_choices (r : Nat) (v : Display) : (s.setDisplay r v).choices = s.choices := rfl
@[simp] theorem State.setDisplay_resetLow (r : Nat) (v : Display) : (s.setDisplay r v).resetLow = s.resetLow := rfl
@[simp] theorem State.setDisplay_clock (r : Nat) (v : Display) : (s.setDisplay r v).clock = s.clock := rfl
@[simp] theorem State.setDisplay_site (r : Nat) (v : Display) : (s.setDisplay r v).site = s.site := rfl
@[simp] theorem State.setDisplay_book (r : Nat) (v : Display) : (s.setDisplay r v).book = s.book := rfl
@[simp] theorem State.setDisplay_wait (r : Nat) (v : Display) : (s.setDisplay r v).wait = s.wait := rfl
@[simp] theorem State.setDisplay_plan (r : Nat) (v : Display) : (s.setDisplay r v).plan = s.plan := rfl
@[simp] theorem State.setDisplay_monitor (r : Nat) (v : Display) : (s.setDisplay r v).monitor = s.monitor := rfl
@[simp] theorem State.setDisplay_routes (r : Nat) (v : Display) : (s.setDisplay r v).routes = s.routes := rfl
@[simp] theorem State.setDisplay_ports (r : Nat) (v : Display) : (s.setDisplay r v).ports = s.ports := rfl
@[simp] theorem State.setDisplay_link_chains (r : Nat) (v : Display) : (s.setDisplay r v).link.chains = s.link.chains := rfl
@[simp] theorem State.setDisplay_link_locations (r : Nat) (v : Display) : (s.setDisplay r v).link.locations = s.link.locations := rfl
@[simp] theorem State.setDisplay_link_displays (r : Nat) (v : Display) :
    (s.setDisplay r v).link.displays = Table.write Display.cold s.link.displays r v := rfl

/-! ### setVacancy -/

@[simp] theorem State.setVacancy_pending (r : Nat) (v : Vacancy) : (s.setVacancy r v).pending = s.pending := rfl
@[simp] theorem State.setVacancy_choices (r : Nat) (v : Vacancy) : (s.setVacancy r v).choices = s.choices := rfl
@[simp] theorem State.setVacancy_resetLow (r : Nat) (v : Vacancy) : (s.setVacancy r v).resetLow = s.resetLow := rfl
@[simp] theorem State.setVacancy_clock (r : Nat) (v : Vacancy) : (s.setVacancy r v).clock = s.clock := rfl
@[simp] theorem State.setVacancy_site (r : Nat) (v : Vacancy) : (s.setVacancy r v).site = s.site := rfl
@[simp] theorem State.setVacancy_wait (r : Nat) (v : Vacancy) : (s.setVacancy r v).wait = s.wait := rfl
@[simp] theorem State.setVacancy_link (r : Nat) (v : Vacancy) : (s.setVacancy r v).link = s.link := rfl
@[simp] theorem State.setVacancy_plan (r : Nat) (v : Vacancy) : (s.setVacancy r v).plan = s.plan := rfl
@[simp] theorem State.setVacancy_monitor (r : Nat) (v : Vacancy) : (s.setVacancy r v).monitor = s.monitor := rfl
@[simp] theorem State.setVacancy_routes (r : Nat) (v : Vacancy) : (s.setVacancy r v).routes = s.routes := rfl
@[simp] theorem State.setVacancy_ports (r : Nat) (v : Vacancy) : (s.setVacancy r v).ports = s.ports := rfl
@[simp] theorem State.setVacancy_book_pool (r : Nat) (v : Vacancy) : (s.setVacancy r v).book.pool = s.book.pool := rfl
@[simp] theorem State.setVacancy_book_rev (r : Nat) (v : Vacancy) : (s.setVacancy r v).book.rev = s.book.rev := rfl
@[simp] theorem State.setVacancy_book_ring (r : Nat) (v : Vacancy) : (s.setVacancy r v).book.ring = s.book.ring := rfl
@[simp] theorem State.setVacancy_book_wrapped (r : Nat) (v : Vacancy) : (s.setVacancy r v).book.wrapped = s.book.wrapped := rfl
@[simp] theorem State.setVacancy_book_clearMark (r : Nat) (v : Vacancy) : (s.setVacancy r v).book.clearMark = s.book.clearMark := rfl
@[simp] theorem State.setVacancy_book_listings (r : Nat) (v : Vacancy) : (s.setVacancy r v).book.listings = s.book.listings := rfl
@[simp] theorem State.setVacancy_book_vacancy (r : Nat) (v : Vacancy) :
    (s.setVacancy r v).book.vacancy = Table.write Vacancy.cold s.book.vacancy r v := rfl

/-! ### setLoadEntry -/

@[simp] theorem State.setLoadEntry_pending (k g : Nat) (v : LoadEntry) : (s.setLoadEntry k g v).pending = s.pending := rfl
@[simp] theorem State.setLoadEntry_choices (k g : Nat) (v : LoadEntry) : (s.setLoadEntry k g v).choices = s.choices := rfl
@[simp] theorem State.setLoadEntry_resetLow (k g : Nat) (v : LoadEntry) : (s.setLoadEntry k g v).resetLow = s.resetLow := rfl
@[simp] theorem State.setLoadEntry_clock (k g : Nat) (v : LoadEntry) : (s.setLoadEntry k g v).clock = s.clock := rfl
@[simp] theorem State.setLoadEntry_site (k g : Nat) (v : LoadEntry) : (s.setLoadEntry k g v).site = s.site := rfl
@[simp] theorem State.setLoadEntry_book (k g : Nat) (v : LoadEntry) : (s.setLoadEntry k g v).book = s.book := rfl
@[simp] theorem State.setLoadEntry_wait (k g : Nat) (v : LoadEntry) : (s.setLoadEntry k g v).wait = s.wait := rfl
@[simp] theorem State.setLoadEntry_link (k g : Nat) (v : LoadEntry) : (s.setLoadEntry k g v).link = s.link := rfl
@[simp] theorem State.setLoadEntry_monitor (k g : Nat) (v : LoadEntry) : (s.setLoadEntry k g v).monitor = s.monitor := rfl
@[simp] theorem State.setLoadEntry_routes (k g : Nat) (v : LoadEntry) : (s.setLoadEntry k g v).routes = s.routes := rfl
@[simp] theorem State.setLoadEntry_ports (k g : Nat) (v : LoadEntry) : (s.setLoadEntry k g v).ports = s.ports := rfl
@[simp] theorem State.setLoadEntry_plan_kitchens (k g : Nat) (v : LoadEntry) : (s.setLoadEntry k g v).plan.kitchens = s.plan.kitchens := rfl
@[simp] theorem State.setLoadEntry_plan_profile (k g : Nat) (v : LoadEntry) : (s.setLoadEntry k g v).plan.profile = s.plan.profile := rfl
@[simp] theorem State.setLoadEntry_plan_classes (k g : Nat) (v : LoadEntry) : (s.setLoadEntry k g v).plan.classes = s.plan.classes := rfl
@[simp] theorem State.setLoadEntry_plan_transit (k g : Nat) (v : LoadEntry) : (s.setLoadEntry k g v).plan.transit = s.plan.transit := rfl
@[simp] theorem State.setLoadEntry_plan_orders (k g : Nat) (v : LoadEntry) : (s.setLoadEntry k g v).plan.orders = s.plan.orders := rfl

/-! ### setChronic -/

@[simp] theorem State.setChronic_pending (r : Nat) (v : ChronicState) : (s.setChronic r v).pending = s.pending := rfl
@[simp] theorem State.setChronic_choices (r : Nat) (v : ChronicState) : (s.setChronic r v).choices = s.choices := rfl
@[simp] theorem State.setChronic_resetLow (r : Nat) (v : ChronicState) : (s.setChronic r v).resetLow = s.resetLow := rfl
@[simp] theorem State.setChronic_clock (r : Nat) (v : ChronicState) : (s.setChronic r v).clock = s.clock := rfl
@[simp] theorem State.setChronic_site (r : Nat) (v : ChronicState) : (s.setChronic r v).site = s.site := rfl
@[simp] theorem State.setChronic_book (r : Nat) (v : ChronicState) : (s.setChronic r v).book = s.book := rfl
@[simp] theorem State.setChronic_wait (r : Nat) (v : ChronicState) : (s.setChronic r v).wait = s.wait := rfl
@[simp] theorem State.setChronic_link (r : Nat) (v : ChronicState) : (s.setChronic r v).link = s.link := rfl
@[simp] theorem State.setChronic_plan (r : Nat) (v : ChronicState) : (s.setChronic r v).plan = s.plan := rfl
@[simp] theorem State.setChronic_routes (r : Nat) (v : ChronicState) : (s.setChronic r v).routes = s.routes := rfl
@[simp] theorem State.setChronic_ports (r : Nat) (v : ChronicState) : (s.setChronic r v).ports = s.ports := rfl
@[simp] theorem State.setChronic_monitor_rooms (r : Nat) (v : ChronicState) : (s.setChronic r v).monitor.rooms = s.monitor.rooms := rfl
@[simp] theorem State.setChronic_monitor_kitchens (r : Nat) (v : ChronicState) : (s.setChronic r v).monitor.kitchens = s.monitor.kitchens := rfl
@[simp] theorem State.setChronic_monitor_bank (r : Nat) (v : ChronicState) : (s.setChronic r v).monitor.bank = s.monitor.bank := rfl
@[simp] theorem State.setChronic_monitor_autoSnapshot (r : Nat) (v : ChronicState) : (s.setChronic r v).monitor.autoSnapshot = s.monitor.autoSnapshot := rfl

/-! ### addEntry -/

@[simp] theorem State.addEntry_pending (i : Nat) (e : WaitEntry) : (s.addEntry i e).pending = s.pending := rfl
@[simp] theorem State.addEntry_choices (i : Nat) (e : WaitEntry) : (s.addEntry i e).choices = s.choices := rfl
@[simp] theorem State.addEntry_resetLow (i : Nat) (e : WaitEntry) : (s.addEntry i e).resetLow = s.resetLow := rfl
@[simp] theorem State.addEntry_clock (i : Nat) (e : WaitEntry) : (s.addEntry i e).clock = s.clock := rfl
@[simp] theorem State.addEntry_site (i : Nat) (e : WaitEntry) : (s.addEntry i e).site = s.site := rfl
@[simp] theorem State.addEntry_book (i : Nat) (e : WaitEntry) : (s.addEntry i e).book = s.book := rfl
@[simp] theorem State.addEntry_link (i : Nat) (e : WaitEntry) : (s.addEntry i e).link = s.link := rfl
@[simp] theorem State.addEntry_plan (i : Nat) (e : WaitEntry) : (s.addEntry i e).plan = s.plan := rfl
@[simp] theorem State.addEntry_monitor (i : Nat) (e : WaitEntry) : (s.addEntry i e).monitor = s.monitor := rfl
@[simp] theorem State.addEntry_routes (i : Nat) (e : WaitEntry) : (s.addEntry i e).routes = s.routes := rfl
@[simp] theorem State.addEntry_ports (i : Nat) (e : WaitEntry) : (s.addEntry i e).ports = s.ports := rfl

/-! ### freeEntry -/

@[simp] theorem State.freeEntry_pending (i : Nat) (f : Fate) : (s.freeEntry i f).pending = s.pending := rfl
@[simp] theorem State.freeEntry_choices (i : Nat) (f : Fate) : (s.freeEntry i f).choices = s.choices := rfl
@[simp] theorem State.freeEntry_resetLow (i : Nat) (f : Fate) : (s.freeEntry i f).resetLow = s.resetLow := rfl
@[simp] theorem State.freeEntry_clock (i : Nat) (f : Fate) : (s.freeEntry i f).clock = s.clock := rfl
@[simp] theorem State.freeEntry_site (i : Nat) (f : Fate) : (s.freeEntry i f).site = s.site := rfl
@[simp] theorem State.freeEntry_book (i : Nat) (f : Fate) : (s.freeEntry i f).book = s.book := rfl
@[simp] theorem State.freeEntry_link (i : Nat) (f : Fate) : (s.freeEntry i f).link = s.link := rfl
@[simp] theorem State.freeEntry_plan (i : Nat) (f : Fate) : (s.freeEntry i f).plan = s.plan := rfl
@[simp] theorem State.freeEntry_monitor (i : Nat) (f : Fate) : (s.freeEntry i f).monitor = s.monitor := rfl
@[simp] theorem State.freeEntry_routes (i : Nat) (f : Fate) : (s.freeEntry i f).routes = s.routes := rfl
@[simp] theorem State.freeEntry_ports (i : Nat) (f : Fate) : (s.freeEntry i f).ports = s.ports := rfl

/-! ### setListing -/

@[simp] theorem State.setListing_pending (p : Port) (l : Option Listing) : (s.setListing p l).pending = s.pending := rfl
@[simp] theorem State.setListing_choices (p : Port) (l : Option Listing) : (s.setListing p l).choices = s.choices := rfl
@[simp] theorem State.setListing_resetLow (p : Port) (l : Option Listing) : (s.setListing p l).resetLow = s.resetLow := rfl
@[simp] theorem State.setListing_clock (p : Port) (l : Option Listing) : (s.setListing p l).clock = s.clock := rfl
@[simp] theorem State.setListing_site (p : Port) (l : Option Listing) : (s.setListing p l).site = s.site := rfl
@[simp] theorem State.setListing_wait (p : Port) (l : Option Listing) : (s.setListing p l).wait = s.wait := rfl
@[simp] theorem State.setListing_link (p : Port) (l : Option Listing) : (s.setListing p l).link = s.link := rfl
@[simp] theorem State.setListing_plan (p : Port) (l : Option Listing) : (s.setListing p l).plan = s.plan := rfl
@[simp] theorem State.setListing_monitor (p : Port) (l : Option Listing) : (s.setListing p l).monitor = s.monitor := rfl
@[simp] theorem State.setListing_routes (p : Port) (l : Option Listing) : (s.setListing p l).routes = s.routes := rfl
@[simp] theorem State.setListing_ports (p : Port) (l : Option Listing) : (s.setListing p l).ports = s.ports := rfl
@[simp] theorem State.setListing_book_pool (p : Port) (l : Option Listing) : (s.setListing p l).book.pool = s.book.pool := rfl
@[simp] theorem State.setListing_book_rev (p : Port) (l : Option Listing) : (s.setListing p l).book.rev = s.book.rev := rfl
@[simp] theorem State.setListing_book_ring (p : Port) (l : Option Listing) : (s.setListing p l).book.ring = s.book.ring := rfl
@[simp] theorem State.setListing_book_wrapped (p : Port) (l : Option Listing) : (s.setListing p l).book.wrapped = s.book.wrapped := rfl
@[simp] theorem State.setListing_book_clearMark (p : Port) (l : Option Listing) : (s.setListing p l).book.clearMark = s.book.clearMark := rfl
@[simp] theorem State.setListing_book_vacancy (p : Port) (l : Option Listing) : (s.setListing p l).book.vacancy = s.book.vacancy := rfl
@[simp] theorem State.setListing_book_listings (p : Port) (l : Option Listing) :
    (s.setListing p l).book.listings = s.book.listings.set p l := rfl

/-! ### setKitchen -/

@[simp] theorem State.setKitchen_pending (k : Nat) (v : Kitchen) : (s.setKitchen k v).pending = s.pending := rfl
@[simp] theorem State.setKitchen_choices (k : Nat) (v : Kitchen) : (s.setKitchen k v).choices = s.choices := rfl
@[simp] theorem State.setKitchen_resetLow (k : Nat) (v : Kitchen) : (s.setKitchen k v).resetLow = s.resetLow := rfl
@[simp] theorem State.setKitchen_clock (k : Nat) (v : Kitchen) : (s.setKitchen k v).clock = s.clock := rfl
@[simp] theorem State.setKitchen_site (k : Nat) (v : Kitchen) : (s.setKitchen k v).site = s.site := rfl
@[simp] theorem State.setKitchen_book (k : Nat) (v : Kitchen) : (s.setKitchen k v).book = s.book := rfl
@[simp] theorem State.setKitchen_wait (k : Nat) (v : Kitchen) : (s.setKitchen k v).wait = s.wait := rfl
@[simp] theorem State.setKitchen_link (k : Nat) (v : Kitchen) : (s.setKitchen k v).link = s.link := rfl
@[simp] theorem State.setKitchen_monitor (k : Nat) (v : Kitchen) : (s.setKitchen k v).monitor = s.monitor := rfl
@[simp] theorem State.setKitchen_routes (k : Nat) (v : Kitchen) : (s.setKitchen k v).routes = s.routes := rfl
@[simp] theorem State.setKitchen_ports (k : Nat) (v : Kitchen) : (s.setKitchen k v).ports = s.ports := rfl
@[simp] theorem State.setKitchen_plan_profile (k : Nat) (v : Kitchen) : (s.setKitchen k v).plan.profile = s.plan.profile := rfl
@[simp] theorem State.setKitchen_plan_classes (k : Nat) (v : Kitchen) : (s.setKitchen k v).plan.classes = s.plan.classes := rfl
@[simp] theorem State.setKitchen_plan_transit (k : Nat) (v : Kitchen) : (s.setKitchen k v).plan.transit = s.plan.transit := rfl
@[simp] theorem State.setKitchen_plan_load (k : Nat) (v : Kitchen) : (s.setKitchen k v).plan.load = s.plan.load := rfl
@[simp] theorem State.setKitchen_plan_orders (k : Nat) (v : Kitchen) : (s.setKitchen k v).plan.orders = s.plan.orders := rfl

/-! ### setClass -/

@[simp] theorem State.setClass_pending (m : Nat) (v : MenuClass) : (s.setClass m v).pending = s.pending := rfl
@[simp] theorem State.setClass_choices (m : Nat) (v : MenuClass) : (s.setClass m v).choices = s.choices := rfl
@[simp] theorem State.setClass_resetLow (m : Nat) (v : MenuClass) : (s.setClass m v).resetLow = s.resetLow := rfl
@[simp] theorem State.setClass_clock (m : Nat) (v : MenuClass) : (s.setClass m v).clock = s.clock := rfl
@[simp] theorem State.setClass_site (m : Nat) (v : MenuClass) : (s.setClass m v).site = s.site := rfl
@[simp] theorem State.setClass_book (m : Nat) (v : MenuClass) : (s.setClass m v).book = s.book := rfl
@[simp] theorem State.setClass_wait (m : Nat) (v : MenuClass) : (s.setClass m v).wait = s.wait := rfl
@[simp] theorem State.setClass_link (m : Nat) (v : MenuClass) : (s.setClass m v).link = s.link := rfl
@[simp] theorem State.setClass_monitor (m : Nat) (v : MenuClass) : (s.setClass m v).monitor = s.monitor := rfl
@[simp] theorem State.setClass_routes (m : Nat) (v : MenuClass) : (s.setClass m v).routes = s.routes := rfl
@[simp] theorem State.setClass_ports (m : Nat) (v : MenuClass) : (s.setClass m v).ports = s.ports := rfl
@[simp] theorem State.setClass_plan_kitchens (m : Nat) (v : MenuClass) : (s.setClass m v).plan.kitchens = s.plan.kitchens := rfl
@[simp] theorem State.setClass_plan_profile (m : Nat) (v : MenuClass) : (s.setClass m v).plan.profile = s.plan.profile := rfl
@[simp] theorem State.setClass_plan_transit (m : Nat) (v : MenuClass) : (s.setClass m v).plan.transit = s.plan.transit := rfl
@[simp] theorem State.setClass_plan_load (m : Nat) (v : MenuClass) : (s.setClass m v).plan.load = s.plan.load := rfl
@[simp] theorem State.setClass_plan_orders (m : Nat) (v : MenuClass) : (s.setClass m v).plan.orders = s.plan.orders := rfl

/-! ### setRoute -/

@[simp] theorem State.setRoute_pending (k : Nat) (v : Route) : (s.setRoute k v).pending = s.pending := rfl
@[simp] theorem State.setRoute_choices (k : Nat) (v : Route) : (s.setRoute k v).choices = s.choices := rfl
@[simp] theorem State.setRoute_resetLow (k : Nat) (v : Route) : (s.setRoute k v).resetLow = s.resetLow := rfl
@[simp] theorem State.setRoute_clock (k : Nat) (v : Route) : (s.setRoute k v).clock = s.clock := rfl
@[simp] theorem State.setRoute_site (k : Nat) (v : Route) : (s.setRoute k v).site = s.site := rfl
@[simp] theorem State.setRoute_book (k : Nat) (v : Route) : (s.setRoute k v).book = s.book := rfl
@[simp] theorem State.setRoute_wait (k : Nat) (v : Route) : (s.setRoute k v).wait = s.wait := rfl
@[simp] theorem State.setRoute_link (k : Nat) (v : Route) : (s.setRoute k v).link = s.link := rfl
@[simp] theorem State.setRoute_plan (k : Nat) (v : Route) : (s.setRoute k v).plan = s.plan := rfl
@[simp] theorem State.setRoute_monitor (k : Nat) (v : Route) : (s.setRoute k v).monitor = s.monitor := rfl
@[simp] theorem State.setRoute_ports (k : Nat) (v : Route) : (s.setRoute k v).ports = s.ports := rfl

/-! ### countChoice -/

@[simp] theorem State.countChoice_pending : (s.countChoice).pending = s.pending := rfl
@[simp] theorem State.countChoice_resetLow : (s.countChoice).resetLow = s.resetLow := rfl
@[simp] theorem State.countChoice_clock : (s.countChoice).clock = s.clock := rfl
@[simp] theorem State.countChoice_site : (s.countChoice).site = s.site := rfl
@[simp] theorem State.countChoice_book : (s.countChoice).book = s.book := rfl
@[simp] theorem State.countChoice_wait : (s.countChoice).wait = s.wait := rfl
@[simp] theorem State.countChoice_link : (s.countChoice).link = s.link := rfl
@[simp] theorem State.countChoice_plan : (s.countChoice).plan = s.plan := rfl
@[simp] theorem State.countChoice_monitor : (s.countChoice).monitor = s.monitor := rfl
@[simp] theorem State.countChoice_routes : (s.countChoice).routes = s.routes := rfl
@[simp] theorem State.countChoice_ports : (s.countChoice).ports = s.ports := rfl
@[simp] theorem State.countChoice_choices : s.countChoice.choices = s.choices + 1 := rfl

/-! ### withPending -/

@[simp] theorem State.withPending_choices (q : List Instr) : (s.withPending q).choices = s.choices := rfl
@[simp] theorem State.withPending_resetLow (q : List Instr) : (s.withPending q).resetLow = s.resetLow := rfl
@[simp] theorem State.withPending_clock (q : List Instr) : (s.withPending q).clock = s.clock := rfl
@[simp] theorem State.withPending_site (q : List Instr) : (s.withPending q).site = s.site := rfl
@[simp] theorem State.withPending_book (q : List Instr) : (s.withPending q).book = s.book := rfl
@[simp] theorem State.withPending_wait (q : List Instr) : (s.withPending q).wait = s.wait := rfl
@[simp] theorem State.withPending_link (q : List Instr) : (s.withPending q).link = s.link := rfl
@[simp] theorem State.withPending_plan (q : List Instr) : (s.withPending q).plan = s.plan := rfl
@[simp] theorem State.withPending_monitor (q : List Instr) : (s.withPending q).monitor = s.monitor := rfl
@[simp] theorem State.withPending_routes (q : List Instr) : (s.withPending q).routes = s.routes := rfl
@[simp] theorem State.withPending_ports (q : List Instr) : (s.withPending q).ports = s.ports := rfl
@[simp] theorem State.withPending_pending (q : List Instr) : (s.withPending q).pending = q := rfl

/-! ### One port's record -/

/-- A port's record after it is replaced. -/
@[simp] theorem State.port_setPort_same (p : Port) (a : AgentPort) : (s.setPort p a).port p = a := by
  cases p <;> rfl

/-- Another port's record after one is replaced. -/
theorem State.port_setPort_other (p q : Port) (a : AgentPort) (h : q ≠ p) :
    (s.setPort p a).port q = s.port q := by
  cases p <;> cases q <;> first | rfl | exact absurd rfl h

/-- Replacing one port's record twice keeps the last. -/
@[simp] theorem State.setPort_setPort (p : Port) (a b : AgentPort) :
    (s.setPort p a).setPort p b = s.setPort p b := by
  cases p <;> rfl

/-! ### A command as it is taken -/

@[simp] theorem State.takenNow_tag (s : State) (p : Port) (tag : Byte) (cmd : Command) :
    (s.takenNow p tag cmd).tag = tag := rfl
@[simp] theorem State.takenNow_cmd (s : State) (p : Port) (tag : Byte) (cmd : Command) :
    (s.takenNow p tag cmd).cmd = cmd := rfl
@[simp] theorem State.takenNow_mask (s : State) (p : Port) (tag : Byte) (cmd : Command) :
    (s.takenNow p tag cmd).mask = (s.port p).roles := rfl
@[simp] theorem State.takenNow_status (s : State) (p : Port) (tag : Byte) :
    (s.takenNow p tag .status).seen = some (s.statusReading p) := rfl

/-- A handle with the present generation of its entry finds no tombstone (R36). -/
theorem State.findTombstone_present (s : State) (isOrder : Bool) (h : Handle)
    (hg : s.presentGen isOrder h.index = h.gen) : s.findTombstone isOrder h = none := if_pos hg

/-- What a tombstone found says: its handle, its letter, and that it stands in the ring (R36). -/
theorem State.findTombstone_some (s : State) (isOrder : Bool) (h : Handle) (t : Tombstone)
    (ht : s.findTombstone isOrder h = some t) :
    t ∈ s.book.ring ∧ t.handle = h ∧ (t.kind == .order) = isOrder ∧ s.presentGen isOrder h.index ≠ h.gen := by
  unfold State.findTombstone at ht
  split at ht
  · cases ht
  · rename_i hg
    have hp := List.find?_some ht
    simp only [Bool.and_eq_true, decide_eq_true_eq, beq_iff_eq] at hp
    exact ⟨List.mem_reverse.mp (List.mem_of_find?_eq_some ht), hp.1, hp.2, hg⟩

/-! ### The bytes of a read frame -/

/-- The fixed part of a NOTICE frame is 19 bytes (R194). -/
theorem Notice.fixedBytes_length (n : Notice) : n.fixedBytes.length = 19 := rfl

/-- A read frame's payload is at most 250 bytes (R194). -/
theorem ReadFrame.payload_length_le (f : ReadFrame) : f.payload.length ≤ 250 := by
  cases f
  · exact List.length_take_le _ _
  · exact List.length_take_le _ _
  · exact Nat.zero_le _

/-- A read frame is its payload and eight bytes more: sync, length, kind, tag echo, result, flags and two of check
(R194). -/
theorem Reading.bytes_length (r : Reading) : r.bytes.length = r.frame.payload.length + 8 := by
  simp [Reading.bytes, Reading.body, bytes16]

end Sys2Proof.Machine
end

