-- ==== Sys2Proof/Laws/Tables.lean ====
section
/-! SUPPORT. What the operations on tables and record pools do: reading after writing, and that each keeps the one
canonical form. -/

namespace Sys2Proof.Machine

variable {α : Type}

/-! ### Reading after writing -/

theorem Table.look?_put_same (t : Table α) (i : Nat) (v : α) : Table.look? (Table.put t i v) i = some v := by
  induction t with
  | nil => simp [Table.put, Table.look?]
  | cons e t ih =>
    obtain ⟨j, w⟩ := e
    simp only [Table.put]
    split
    · simp [Table.look?]
    · split
      · simp [Table.look?]
      · simp_all [Table.look?]

theorem Table.look?_put_other (t : Table α) (i j : Nat) (v : α) (h : j ≠ i) :
    Table.look? (Table.put t i v) j = Table.look? t j := by
  induction t with
  | nil => simp [Table.put, Table.look?, Ne.symm h]
  | cons e t ih =>
    obtain ⟨k, w⟩ := e
    simp only [Table.put]
    split
    · rename_i hk; subst hk; simp [Table.look?, Ne.symm h]
    · split
      · simp [Table.look?, Ne.symm h]
      · simp [Table.look?, ih]

theorem Table.look?_unlist_same (t : Table α) (i : Nat) : Table.look? (Table.unlist t i) i = none := by
  induction t with
  | nil => rfl
  | cons e t ih =>
    obtain ⟨k, w⟩ := e
    simp only [Table.unlist]
    split
    · exact ih
    · simp_all [Table.look?]

theorem Table.look?_unlist_other (t : Table α) (i j : Nat) (h : j ≠ i) :
    Table.look? (Table.unlist t i) j = Table.look? t j := by
  induction t with
  | nil => rfl
  | cons e t ih =>
    obtain ⟨k, w⟩ := e
    simp only [Table.unlist]
    split
    · rename_i hk; subst hk; simp [Table.look?, Ne.symm h, ih]
    · simp [Table.look?, ih]

/-- A number reads as the value last written for it. -/
@[simp] theorem Table.read_write_same [DecidableEq α] (d : α) (t : Table α) (i : Nat) (v : α) :
    Table.read d (Table.write d t i v) i = v := by
  unfold Table.read Table.write
  split
  · rename_i h; simp [Table.look?_unlist_same, h]
  · simp [Table.look?_put_same]

/-- A write leaves every other number's value alone. -/
theorem Table.read_write_other [DecidableEq α] (d : α) (t : Table α) (i j : Nat) (v : α) (h : j ≠ i) :
    Table.read d (Table.write d t i v) j = Table.read d t j := by
  unfold Table.read Table.write
  split
  · rw [Table.look?_unlist_other t i j h]
  · rw [Table.look?_put_other t i j v h]

/-- Reading after a write, both cases at once. -/
theorem Table.read_write [DecidableEq α] (d : α) (t : Table α) (i j : Nat) (v : α) :
    Table.read d (Table.write d t i v) j = if j = i then v else Table.read d t j := by
  split
  · rename_i h; subst h; exact Table.read_write_same d t j v
  · rename_i h; exact Table.read_write_other d t i j v h

/-- An empty table reads as its default. -/
@[simp] theorem Table.read_nil (d : α) (i : Nat) : Table.read d ([] : Table α) i = d := rfl

/-! ### The canonical form -/

/-- A table that rises above a bound rises above a lower one. -/
theorem Table.rising_weaken {t : Table α} {l m : Option Nat} (hm : ∀ a, m = some a → ∃ b, l = some b ∧ a ≤ b)
    (h : Table.rising l t = true) : Table.rising m t = true := by
  cases t with
  | nil => rfl
  | cons e t =>
    simp only [Table.rising, Bool.and_eq_true] at h ⊢
    refine ⟨?_, h.2⟩
    cases m with
    | none => rfl
    | some a =>
      obtain ⟨b, rfl, hab⟩ := hm a rfl
      have hb := h.1
      simp only [decide_eq_true_eq] at hb ⊢
      omega

theorem Table.rising_put {t : Table α} {lo : Option Nat} {i : Nat} {v : α} (hlo : ∀ l, lo = some l → l < i)
    (h : Table.rising lo t = true) : Table.rising lo (Table.put t i v) = true := by
  induction t generalizing lo with
  | nil =>
    cases lo with
    | none => rfl
    | some l => simp [Table.put, Table.rising, hlo l rfl]
  | cons e t ih =>
    obtain ⟨j, w⟩ := e
    have hcopy := h
    simp only [Table.rising, Bool.and_eq_true] at h
    simp only [Table.put]
    split
    · rename_i hj; subst hj; simpa [Table.rising] using hcopy
    · split
      · rename_i hne hlt
        simp only [Table.rising, Bool.and_eq_true, decide_eq_true_eq]
        refine ⟨?_, hlt, h.2⟩
        cases lo with
        | none => rfl
        | some l => simpa using hlo l rfl
      · rename_i hne hge
        simp only [Table.rising, Bool.and_eq_true]
        refine ⟨h.1, ih ?_ h.2⟩
        intro l hl
        cases hl
        omega

theorem Table.rising_unlist {t : Table α} {lo : Option Nat} {i : Nat} (h : Table.rising lo t = true) :
    Table.rising lo (Table.unlist t i) = true := by
  induction t generalizing lo with
  | nil => rfl
  | cons e t ih =>
    obtain ⟨j, w⟩ := e
    simp only [Table.rising, Bool.and_eq_true] at h
    simp only [Table.unlist]
    split
    · refine ih (Table.rising_weaken (l := some j) ?_ h.2)
      intro a ha
      subst ha
      exact ⟨j, rfl, by simpa using Nat.le_of_lt (by simpa using h.1)⟩
    · simp only [Table.rising, Bool.and_eq_true]
      exact ⟨h.1, ih h.2⟩

theorem Table.mem_put {t : Table α} {i : Nat} {v : α} {e : Nat × α} (h : e ∈ Table.put t i v) :
    e = (i, v) ∨ e ∈ t := by
  induction t with
  | nil => simp_all [Table.put]
  | cons f t ih =>
    obtain ⟨j, w⟩ := f
    simp only [Table.put] at h
    split at h
    · simp only [List.mem_cons] at h ⊢; tauto
    · split at h
      · simp only [List.mem_cons] at h ⊢; tauto
      · simp only [List.mem_cons] at h ⊢
        rcases h with h | h
        · exact .inr (.inl h)
        · rcases ih h with h | h
          · exact .inl h
          · exact .inr (.inr h)

theorem Table.mem_unlist {t : Table α} {i : Nat} {e : Nat × α} (h : e ∈ Table.unlist t i) : e ∈ t := by
  induction t with
  | nil => exact h
  | cons f t ih =>
    obtain ⟨j, w⟩ := f
    simp only [Table.unlist] at h
    split at h
    · exact List.mem_cons_of_mem _ (ih h)
    · simp only [List.mem_cons] at h ⊢
      exact h.imp id ih

/-- A write keeps the canonical form. -/
theorem Table.wf_write [DecidableEq α] {d : α} {t : Table α} (i : Nat) (v : α) (h : Table.wf d t = true) :
    Table.wf d (Table.write d t i v) = true := by
  simp only [Table.wf, Bool.and_eq_true, List.all_eq_true, decide_eq_true_eq] at h ⊢
  unfold Table.write
  split
  · exact ⟨Table.rising_unlist h.1, fun e he => h.2 e (Table.mem_unlist he)⟩
  · rename_i hv
    refine ⟨Table.rising_put (by simp) h.1, fun e he => ?_⟩
    rcases Table.mem_put he with rfl | he
    · exact hv
    · exact h.2 e he

/-- The empty table is in canonical form. -/
@[simp] theorem Table.wf_nil [DecidableEq α] (d : α) : Table.wf d ([] : Table α) = true := rfl

/-- In a rising table every number lies above the bound. -/
theorem Table.rising_lower {t : Table α} {l : Nat} (h : Table.rising (some l) t = true) :
    ∀ e, e ∈ t → l < e.1 := by
  induction t generalizing l with
  | nil => simp
  | cons f t ih =>
    obtain ⟨j, w⟩ := f
    simp only [Table.rising, Bool.and_eq_true, decide_eq_true_eq] at h
    intro e he
    rcases List.mem_cons.1 he with rfl | he
    · exact h.1
    · exact Nat.lt_trans h.1 (ih h.2 e he)

/-- In a canonical table a listed pair is what its number reads as. -/
theorem Table.look?_of_mem {t : Table α} {lo : Option Nat} (h : Table.rising lo t = true) {i : Nat} {v : α}
    (hm : (i, v) ∈ t) : Table.look? t i = some v := by
  induction t generalizing lo with
  | nil => simp at hm
  | cons f t ih =>
    obtain ⟨j, w⟩ := f
    simp only [Table.rising, Bool.and_eq_true] at h
    simp only [Table.look?]
    rcases List.mem_cons.1 hm with heq | hm
    · cases heq; simp
    · have := Table.rising_lower h.2 (i, v) hm
      split
      · rename_i hj; subst hj; exact absurd this (Nat.lt_irrefl _)
      · exact ih h.2 hm

/-- What a number reads as, where it is not the default, is listed. -/
theorem Table.mem_of_look? {t : Table α} {i : Nat} {v : α} (h : Table.look? t i = some v) : (i, v) ∈ t := by
  induction t with
  | nil => simp [Table.look?] at h
  | cons f t ih =>
    obtain ⟨j, w⟩ := f
    simp only [Table.look?] at h
    split at h
    · rename_i hj; subst hj; cases h; exact List.mem_cons_self ..
    · exact List.mem_cons_of_mem _ (ih h)

/-! ### Record pools -/

/-- A pool entry after a record is stored. -/
theorem Pool.entry_store [DecidableEq α] (p : Pool α) (i j : Nat) (r : α) :
    Pool.entry (Pool.store p i r) j = if j = i then ⟨(Pool.entry p i).gen, some r⟩ else Pool.entry p j := by
  unfold Pool.entry Pool.store
  exact Table.read_write _ _ _ _ _

/-- A pool entry after one is freed. -/
theorem Pool.entry_free [DecidableEq α] (p : Pool α) (i j : Nat) :
    Pool.entry (Pool.free p i) j = if j = i then ⟨(Pool.entry p i).gen + 1, none⟩ else Pool.entry p j := by
  unfold Pool.entry Pool.free
  exact Table.read_write _ _ _ _ _

/-- The live record of an entry after one is stored. -/
theorem Pool.item?_store [DecidableEq α] (p : Pool α) (i j : Nat) (r : α) :
    Pool.item? (Pool.store p i r) j = if j = i then some r else Pool.item? p j := by
  simp only [Pool.item?, Pool.entry_store]
  split <;> rfl

/-- The live record of an entry after one is freed. -/
theorem Pool.item?_free [DecidableEq α] (p : Pool α) (i j : Nat) :
    Pool.item? (Pool.free p i) j = if j = i then none else Pool.item? p j := by
  simp only [Pool.item?, Pool.entry_free]
  split <;> rfl

/-- The live record just stored. -/
@[simp] theorem Pool.item?_store_same [DecidableEq α] (p : Pool α) (i : Nat) (r : α) :
    Pool.item? (Pool.store p i r) i = some r := by simp [Pool.item?_store]

/-- A freed entry holds no record. -/
@[simp] theorem Pool.item?_free_same [DecidableEq α] (p : Pool α) (i : Nat) :
    Pool.item? (Pool.free p i) i = none := by simp [Pool.item?_free]

/-- Storing keeps every handle's generation. -/
@[simp] theorem Pool.handle_store [DecidableEq α] (p : Pool α) (i j : Nat) (r : α) :
    Pool.handle (Pool.store p i r) j = Pool.handle p j := by
  simp only [Pool.handle, Pool.entry_store]
  split <;> simp_all

/-- A handle that names a record names the live record of its entry. -/
theorem Pool.item?_of_named? {p : Pool α} {h : Handle} {r : α} (hn : Pool.named? p h = some r) :
    Pool.item? p h.index = some r ∧ Pool.handle p h.index = h := by
  unfold Pool.named? at hn
  split at hn
  · rename_i hg; exact ⟨hn, by cases h; simp_all [Pool.handle]⟩
  · cases hn

theorem Pool.freeFrom_spec {p : Pool α} {n i j : Nat} (h : Pool.freeFrom p n i = some j) :
    Pool.item? p j = none ∧ i ≤ j ∧ j < i + n ∧ ∀ k, i ≤ k → k < j → Pool.item? p k ≠ none := by
  induction n generalizing i with
  | zero => simp [Pool.freeFrom] at h
  | succ n ih =>
    simp only [Pool.freeFrom] at h
    split at h
    · rename_i hn
      cases h
      exact ⟨Option.isNone_iff_eq_none.1 hn, Nat.le_refl _, by omega, fun k h1 h2 => by omega⟩
    · rename_i hn
      obtain ⟨h1, h2, h3, h4⟩ := ih h
      refine ⟨h1, by omega, by omega, fun k hk hkj => ?_⟩
      rcases Nat.eq_or_lt_of_le hk with rfl | hk
      · intro hc; rw [hc] at hn; exact hn rfl
      · exact h4 k hk hkj

/-- The lowest free entry is free, lies in the pool, and every lower entry is live (R20). -/
theorem Pool.lowestFree_spec {p : Pool α} {cap j : Nat} (h : Pool.lowestFree p cap = some j) :
    Pool.item? p j = none ∧ j < cap ∧ ∀ k, k < j → Pool.item? p k ≠ none := by
  obtain ⟨h1, _, h3, h4⟩ := Pool.freeFrom_spec h
  exact ⟨h1, by omega, fun k hk => h4 k (Nat.zero_le _) hk⟩

/-- Storing keeps a pool's canonical form. -/
theorem Pool.wf_store [DecidableEq α] {p : Pool α} (i : Nat) (r : α)
    (h : Table.wf PoolEntry.fresh p = true) : Table.wf PoolEntry.fresh (Pool.store p i r) = true :=
  Table.wf_write i _ h

/-- Freeing keeps a pool's canonical form. -/
theorem Pool.wf_free [DecidableEq α] {p : Pool α} (i : Nat)
    (h : Table.wf PoolEntry.fresh p = true) : Table.wf PoolEntry.fresh (Pool.free p i) = true :=
  Table.wf_write i _ h

theorem Table.look?_map {β : Type} (f : α → β) (t : Table α) (i : Nat) :
    Table.look? (t.map (fun e => (e.1, f e.2))) i = (Table.look? t i).map f := by
  induction t with
  | nil => rfl
  | cons e t ih =>
    obtain ⟨j, w⟩ := e
    simp only [List.map_cons, Table.look?]
    split
    · rfl
    · exact ih

/-- The live record of an entry after every live record is replaced. -/
@[simp] theorem Pool.item?_mapLive (p : Pool α) (f : α → α) (i : Nat) :
    Pool.item? (Pool.mapLive p f) i = (Pool.item? p i).map f := by
  simp only [Pool.item?, Pool.entry, Table.read, Pool.mapLive,
    Table.look?_map (fun e : PoolEntry α => (⟨e.gen, e.item.map f⟩ : PoolEntry α))]
  cases Table.look? p i <;> rfl

/-! ### Building and revising -/

theorem Table.rising_filterMap_range' {f : Nat → Option α} {n : Nat} {a : Nat} {lo : Option Nat}
    (hlo : ∀ l, lo = some l → l < a) :
    Table.rising lo ((List.range' a n).filterMap (fun i => (f i).map (fun v => (i, v)))) = true := by
  induction n generalizing a lo with
  | zero => cases lo <;> rfl
  | succ n ih =>
    simp only [List.range'_succ, List.filterMap_cons]
    cases hf : f a with
    | none => exact ih (fun l hl => Nat.lt_succ_of_lt (hlo l hl))
    | some v =>
      simp only [Option.map_some, Table.rising, Bool.and_eq_true]
      refine ⟨?_, ih (fun l hl => by cases hl; omega)⟩
      cases lo with
      | none => rfl
      | some l => simpa using hlo l rfl

/-- A built table is in canonical form. -/
theorem Table.wf_build [DecidableEq α] (d : α) (n : Nat) (f : Nat → α) : Table.wf d (Table.build d n f) = true := by
  have hb : Table.build d n f =
      (List.range' 0 n).filterMap (fun i => ((if f i = d then none else some (f i))).map (fun v => (i, v))) := by
    unfold Table.build
    rw [List.range_eq_range']
    congr 1
    funext i
    split <;> rfl
  simp only [Table.wf, Bool.and_eq_true, List.all_eq_true, decide_eq_true_eq]
  constructor
  · rw [hb]
    exact Table.rising_filterMap_range' (f := fun i => if f i = d then none else some (f i)) (by simp)
  · intro e he
    simp only [Table.build, List.mem_filterMap] at he
    obtain ⟨i, _, hi⟩ := he
    split at hi
    · cases hi
    · cases hi; assumption

theorem Table.rising_revise {t : Table α} {lo : Option Nat} (g : α → Option α) (h : Table.rising lo t = true) :
    Table.rising lo (t.filterMap (fun e => (g e.2).map (fun v => (e.1, v)))) = true := by
  induction t generalizing lo with
  | nil => rfl
  | cons e t ih =>
    obtain ⟨j, w⟩ := e
    simp only [Table.rising, Bool.and_eq_true] at h
    simp only [List.filterMap_cons]
    cases hg : g w with
    | none =>
      refine ih (Table.rising_weaken (l := some j) ?_ h.2)
      intro a ha
      subst ha
      exact ⟨j, rfl, Nat.le_of_lt (by simpa using h.1)⟩
    | some v =>
      simp only [Option.map_some, Table.rising, Bool.and_eq_true]
      exact ⟨h.1, ih h.2⟩

/-- A revised table is in canonical form. -/
theorem Table.wf_revise [DecidableEq α] {d : α} {t : Table α} (f : α → α) (h : Table.wf d t = true) :
    Table.wf d (Table.revise d f t) = true := by
  have hb : Table.revise d f t =
      t.filterMap (fun e => (if f e.2 = d then none else some (f e.2)).map (fun v => (e.1, v))) := by
    unfold Table.revise
    congr 1
    funext e
    split <;> rfl
  simp only [Table.wf, Bool.and_eq_true, List.all_eq_true, decide_eq_true_eq] at h ⊢
  constructor
  · rw [hb]
    exact Table.rising_revise (fun v => if f v = d then none else some (f v)) h.1
  · intro e he
    simp only [Table.revise, List.mem_filterMap] at he
    obtain ⟨x, _, hx⟩ := he
    split at hx
    · cases hx
    · cases hx; assumption

/-! ### What holds of every number -/

/-- What the default and every listed value have, every number's value has. -/
theorem Table.read_of_all {d : α} {t : Table α} {P : α → Prop} (hd : P d) (ht : ∀ e, e ∈ t → P e.2) (i : Nat) :
    P (Table.read d t i) := by
  unfold Table.read
  cases h : Table.look? t i with
  | none => exact hd
  | some v => exact ht _ (Table.mem_of_look? h)

/-- A record of a pool's entry stands in the list of its live records. -/
theorem Pool.mem_live_of_item? {p : Pool α} {i : Nat} {r : α} (h : Pool.item? p i = some r) : (i, r) ∈ Pool.live p := by
  unfold Pool.item? Pool.entry Table.read at h
  cases hl : Table.look? p i with
  | none => rw [hl] at h; cases h
  | some e =>
    rw [hl] at h
    exact List.mem_filterMap.mpr ⟨(i, e), Table.mem_of_look? hl, by simp only [Option.getD_some] at h; simp [h]⟩

/-- What every live record of a pool has, every entry's record has. -/
theorem Pool.item?_of_all {p : Pool α} {P : Nat → α → Prop} (hp : ∀ e, e ∈ Pool.live p → P e.1 e.2) (i : Nat) (r : α)
    (h : Pool.item? p i = some r) : P i r := hp _ (Pool.mem_live_of_item? h)

end Sys2Proof.Machine
end

