-- ==== Sys2Proof/Laws/Frames.lean ====
section
/-! SUPPORT. What each shared operation leaves alone: one frame lemma for each, in the parts of Safety.lean. -/

namespace Sys2Proof.Machine

/-! ### Frames in general -/

theorem sameBut_refl (l : List Part) (s : State) : sameBut l s s := by
  intro q _
  cases q <;> simp [Part.agree]

theorem Part.agree_trans {q : Part} {s t u : State} (h : q.agree s t) (k : q.agree t u) : q.agree s u := by
  cases q <;> simp_all [Part.agree]

/-- Frames compose. -/
theorem sameBut_trans {l : List Part} {s t u : State} (h : sameBut l s t) (k : sameBut l t u) : sameBut l s u :=
  fun q hq => Part.agree_trans (h q hq) (k q hq)

/-- A frame that names fewer parts is stronger. -/
theorem sameBut_mono {l m : List Part} {s t : State} (hlm : l ⊆ m) (h : sameBut l s t) : sameBut m s t :=
  fun q hq => h q (fun hl => hq (hlm hl))

/-- Folding steps of one frame has that frame. -/
theorem sameBut_foldl {β : Type} {l : List Part} {f : State → β → State} (h : ∀ s a, sameBut l s (f s a))
    (as : List β) (s : State) : sameBut l s (as.foldl f s) := by
  induction as generalizing s with
  | nil => exact sameBut_refl l s
  | cons a as ih => exact sameBut_trans (h s a) (ih (f s a))

/-! ### Ports and notices -/

theorem setPort_sameBut (s : State) (p : Port) (a : AgentPort) (l : List Part)
    (hr : Part.roles ∈ l ∨ a.roles = (s.port p).roles)
    (hs : Part.portStates ∈ l ∨ a.receiving = (s.port p).receiving ∧ a.base = (s.port p).base ∧
      a.slot = (s.port p).slot ∧ a.inHand = (s.port p).inHand)
    (hf : Part.flags ∈ l ∨ a.flags = (s.port p).flags) (hq : Part.queues ∈ l ∨ a.queue = (s.port p).queue)
    (hd : Part.readings ∈ l ∨ a.reading = (s.port p).reading) : sameBut l s (s.setPort p a) := by
  have key : ∀ q, (s.setPort p a).port q = if q = p then a else s.port q := by
    intro q
    split
    · rename_i h; subst h; exact State.port_setPort_same s q a
    · rename_i h; exact State.port_setPort_other s p q a h
  intro x hx
  cases x <;> first
    | rfl
    | exact ⟨rfl, rfl⟩
    | (intro _; rfl)
    | (intro q
       rw [key q]
       split
       · rename_i h
         subst h
         first
         | exact hr.resolve_left hx
         | exact hs.resolve_left hx
         | exact hf.resolve_left hx
         | exact hq.resolve_left hx
         | exact hd.resolve_left hx
       · first | rfl | exact ⟨rfl, rfl, rfl, rfl⟩)

theorem offer_sameBut (s : State) (p : Port) (n : Notice) : sameBut noticeParts s (s.offer p n) := by
  unfold State.offer
  apply setPort_sameBut <;> first
    | exact .inl (by decide)
    | (right
       unfold AgentPort.offer AgentPort.setFlags
       split
       · simp
       · split <;> simp)

theorem setFlags_sameBut (s : State) (p : Port) (f : PortFlags) :
    sameBut noticeParts s (s.setPort p ((s.port p).setFlags f)) := by
  apply setPort_sameBut <;> first
    | exact .inl (by decide)
    | (right; unfold AgentPort.setFlags; simp)

theorem routeFixed_sameBut (s : State) (l : List Port) (n : Notice) : sameBut noticeParts s (s.routeFixed l n) :=
  sameBut_foldl (fun t p => offer_sameBut t p n) l s

theorem routeLeast_sameBut (s : State) (l : List Port) (n : Notice) : sameBut noticeParts s (s.routeLeast l n) := by
  unfold State.routeLeast
  split
  · exact offer_sameBut s _ n
  · split
    · exact offer_sameBut s _ n
    · exact sameBut_foldl (fun t p => setFlags_sameBut t p _) l s

/-- A notice changes queues, OVERRUN flags and reads in progress, and nothing else (R176). -/
theorem raise_sameBut (s : State) (e : Raised) : sameBut noticeParts s (s.raise e) := by
  unfold State.raise
  dsimp only
  split
  · exact sameBut_refl _ s
  · split
    · exact routeFixed_sameBut s _ _
    · exact routeLeast_sameBut s _ _
    · split
      · exact offer_sameBut s _ _
      · exact routeFixed_sameBut s _ _

theorem raiseChanged_sameBut (s : State) (h : Handle) (o : Owner) (a : Actor) (c : Cause) (d : List Datum) :
    sameBut noticeParts s (s.raiseChanged h o a c d) := by
  unfold State.raiseChanged
  split
  · exact raise_sameBut s _
  · exact sameBut_refl _ s

/-! ### Displays and vacancy timers -/

theorem setDisplay_sameBut (s : State) (r : Nat) (v : Display) : sameBut [.displays] s (s.setDisplay r v) := by
  intro x hx
  cases x <;> first
    | exact absurd (by decide) hx
    | rfl
    | exact ⟨rfl, rfl⟩
    | (intro _; first | rfl | exact ⟨rfl, rfl, rfl, rfl⟩)

theorem setVacancy_sameBut (s : State) (r : Nat) (v : Vacancy) : sameBut [.vacancy] s (s.setVacancy r v) := by
  intro x hx
  cases x <;> first
    | exact absurd (by decide) hx
    | rfl
    | exact ⟨rfl, rfl⟩
    | (intro _; first | rfl | exact ⟨rfl, rfl, rfl, rfl⟩)

/-- A room's record after one is replaced. -/
theorem room_setRoom (s : State) (r q : Nat) (v : Room) :
    (s.setRoom r v).room q = if q = r then v else s.room q := by
  unfold State.setRoom State.room
  exact Table.read_write _ _ _ _ _

theorem setRoom_sameBut (s : State) (r : Nat) (v : Room) (l : List Part)
    (hs : Part.rooms ∈ l ∨ v.settings = (s.room r).settings)
    (hd : Part.displayRevs ∈ l ∨ v.displayRev = (s.room r).displayRev) : sameBut l s (s.setRoom r v) := by
  intro x hx
  cases x <;> first
    | rfl
    | exact ⟨rfl, rfl⟩
    | (intro q
       rw [room_setRoom]
       split
       · rename_i h
         subst h
         first | exact hs.resolve_left hx | exact hd.resolve_left hx
       · rfl)
    | (intro _; first | rfl | exact ⟨rfl, rfl, rfl, rfl⟩)

/-- A recomputation changes the room's display and its display revision, and nothing else (R123). -/
theorem recompute_sameBut (s : State) (r : Nat) : sameBut [.displayRevs, .displays] s (s.recompute r) := by
  have h1 := sameBut_mono (m := [.displayRevs, .displays]) (by decide)
    (setDisplay_sameBut s r ⟨s.contentOf r, s.displayDeadlineOf r⟩)
  unfold State.recompute
  dsimp only
  split
  · exact h1
  · refine sameBut_trans h1 (setRoom_sameBut _ r _ _ (.inr ?_) (.inl (by decide)))
    rfl

theorem recomputeAll_sameBut (s : State) : sameBut [.displayRevs, .displays] s s.recomputeAll :=
  sameBut_foldl recompute_sameBut _ s

theorem updateSubject_sameBut (s : State) (r : Nat) : sameBut [.vacancy] s (s.updateSubject r) := by
  unfold State.updateSubject
  split
  · exact sameBut_refl _ s
  · exact setVacancy_sameBut s r _

/-- What follows a change of a room's records: its vacancy subject and its display (R92, R123). -/
theorem roomChanged_sameBut (s : State) (r : Nat) : sameBut displayParts s (s.roomChanged r) :=
  sameBut_trans (sameBut_mono (by decide) (updateSubject_sameBut s r))
    (sameBut_mono (by decide) (recompute_sameBut _ r))

/-- A room's display after another's is replaced. -/
theorem display_setDisplay (s : State) (r q : Nat) (v : Display) :
    (s.setDisplay r v).display q = if q = r then v else s.display q := by
  unfold State.setDisplay State.display
  exact Table.read_write _ _ _ _ _

/-- A room's vacancy timer after one is replaced. -/
theorem vacancy_setVacancy (s : State) (r q : Nat) (v : Vacancy) :
    (s.setVacancy r v).vacancy q = if q = r then v else s.vacancy q := by
  unfold State.setVacancy State.vacancy
  exact Table.read_write _ _ _ _ _

theorem sameOtherRooms_refl (r : Nat) (s : State) : sameOtherRooms r s s := fun _ _ => ⟨rfl, rfl, rfl⟩

theorem sameOtherRooms_trans {r : Nat} {s t u : State} (h : sameOtherRooms r s t) (k : sameOtherRooms r t u) :
    sameOtherRooms r s u := by
  intro q hq
  obtain ⟨h1, h2, h3⟩ := h q hq
  obtain ⟨k1, k2, k3⟩ := k q hq
  exact ⟨k1.trans h1, k2.trans h2, k3.trans h3⟩

/-- A frame that keeps displays, display revisions and timers keeps every room's. -/
theorem sameOtherRooms_of_sameBut {l : List Part} {s t : State} (r : Nat) (h : sameBut l s t)
    (h1 : Part.displays ∉ l) (h2 : Part.displayRevs ∉ l) (h3 : Part.vacancy ∉ l) : sameOtherRooms r s t := by
  intro q _
  have a := h _ h1
  have b := h _ h2
  have c := h _ h3
  simp only [Part.agree] at a b c
  exact ⟨by unfold State.display; rw [a], b q, by unfold State.vacancy; rw [c]⟩

theorem recompute_sameOtherRooms (s : State) (r : Nat) : sameOtherRooms r s (s.recompute r) := by
  intro q hq
  unfold State.recompute
  dsimp only
  split
  · refine ⟨?_, rfl, rfl⟩
    rw [display_setDisplay]; simp [hq]
  · refine ⟨?_, ?_, rfl⟩
    · change (s.setDisplay r _).display q = _
      rw [display_setDisplay]; simp [hq]
    · rw [room_setRoom]; simp only [hq, if_false]; rfl

theorem updateSubject_sameOtherRooms (s : State) (r : Nat) : sameOtherRooms r s (s.updateSubject r) := by
  unfold State.updateSubject
  split
  · exact sameOtherRooms_refl r s
  · intro q hq
    refine ⟨rfl, rfl, ?_⟩
    rw [vacancy_setVacancy]; simp [hq]

/-- A change of a room's records touches no other room's display, display revision or timer. -/
theorem roomChanged_sameOtherRooms (s : State) (r : Nat) : sameOtherRooms r s (s.roomChanged r) :=
  sameOtherRooms_trans (updateSubject_sameOtherRooms s r) (recompute_sameOtherRooms _ r)

/-! ### Records and orders -/

theorem changeRec_sameBut (s : State) (i : Nat) (r : Rec) : sameBut [.records, .revision] s (s.changeRec i r) := by
  intro x hx
  cases x <;> first
    | exact absurd (by decide) hx
    | rfl
    | exact ⟨rfl, rfl⟩
    | (intro _; first | rfl | exact ⟨rfl, rfl, rfl, rfl⟩)

theorem changeOrder_sameBut (s : State) (i : Nat) (o : Order) : sameBut [.orders, .revision] s (s.changeOrder i o) := by
  intro x hx
  cases x <;> first
    | exact absurd (by decide) hx
    | rfl
    | exact ⟨rfl, rfl⟩
    | (intro _; first | rfl | exact ⟨rfl, rfl, rfl, rfl⟩)

/-- A change to a record: its entry holds it with the new revision, and no other entry changes (R32). -/
theorem entry_changeRec (s : State) (i j : Nat) (r : Rec) :
    Pool.entry (s.changeRec i r).book.pool j =
      if j = i then ⟨(Pool.entry s.book.pool i).gen, some { r with rev := s.advanceRev.book.rev }⟩
      else Pool.entry s.book.pool j := by
  rw [State.changeRec_book_pool, Pool.entry_store]

/-- The live record of an entry after a change. -/
theorem rec?_changeRec (s : State) (i j : Nat) (r : Rec) :
    (s.changeRec i r).rec? j = if j = i then some { r with rev := s.advanceRev.book.rev } else s.rec? j := by
  unfold State.rec? Pool.item?
  rw [entry_changeRec]
  split <;> rfl

theorem changeRec_sameOtherRecords (s : State) (i : Nat) (r : Rec) : sameOtherRecords i s (s.changeRec i r) := by
  intro j hj
  rw [entry_changeRec]
  simp [hj]

/-- A change to an order: its entry holds it with the new revision, and no other entry changes (R32). -/
theorem entry_changeOrder (s : State) (i j : Nat) (o : Order) :
    Pool.entry (s.changeOrder i o).plan.orders j =
      if j = i then ⟨(Pool.entry s.plan.orders i).gen, some { o with rev := s.advanceRev.book.rev }⟩
      else Pool.entry s.plan.orders j := by
  rw [State.changeOrder_plan_orders, Pool.entry_store]

/-- The live order of an entry after a change. -/
theorem order?_changeOrder (s : State) (i j : Nat) (o : Order) :
    (s.changeOrder i o).order? j = if j = i then some { o with rev := s.advanceRev.book.rev } else s.order? j := by
  unfold State.order? Pool.item?
  rw [entry_changeOrder]
  split <;> rfl

theorem changeOrder_sameOtherOrders (s : State) (i : Nat) (o : Order) : sameOtherOrders i s (s.changeOrder i o) := by
  intro j hj
  rw [entry_changeOrder]
  simp [hj]

theorem writeTombstone_sameBut (s : State) (t : Tombstone) : sameBut [.ring] s (s.writeTombstone t) := by
  unfold State.writeTombstone
  split <;>
  · intro x hx
    cases x <;> first
      | exact absurd (by decide) hx
      | rfl
      | (intro _; first | rfl | exact ⟨rfl, rfl, rfl, rfl⟩)

theorem countFinish_sameBut (s : State) (f : Facts) : sameBut [.roomUsage, .chronic] s (s.countFinish f) := by
  unfold State.countFinish
  split
  · exact sameBut_refl _ s
  · intro x hx
    cases x <;> first
      | exact absurd (by decide) hx
      | rfl
      | exact ⟨rfl, rfl⟩
      | (intro _; first | rfl | exact ⟨rfl, rfl, rfl, rfl⟩)

theorem advanceRev_sameBut (s : State) : sameBut [.revision] s s.advanceRev := by
  intro x hx
  cases x <;> first
    | exact absurd (by decide) hx
    | rfl
    | exact ⟨rfl, rfl⟩
    | (intro _; first | rfl | exact ⟨rfl, rfl, rfl, rfl⟩)

theorem setPool_sameBut (s : State) (x : Pool Rec) : sameBut [.records] s (s.setPool x) := by
  intro x hx
  cases x <;> first
    | exact absurd (by decide) hx
    | rfl
    | exact ⟨rfl, rfl⟩
    | (intro _; first | rfl | exact ⟨rfl, rfl, rfl, rfl⟩)

theorem setOrders_sameBut (s : State) (x : Pool Order) : sameBut [.orders] s (s.setOrders x) := by
  intro x hx
  cases x <;> first
    | exact absurd (by decide) hx
    | rfl
    | exact ⟨rfl, rfl⟩
    | (intro _; first | rfl | exact ⟨rfl, rfl, rfl, rfl⟩)

/-- The parts a finish changes before its notices, its order's consequence and what follows (R30, R31). -/
def finishRecParts : List Part := [.records, .revision, .ring, .roomUsage, .chronic]

/-- A finish changes the record, the revision, the ring and the monitor's counters, and nothing else (R30, R31). -/
theorem finishRec_sameBut (s : State) (i : Nat) (r : Rec) (fin : FinState) (a : Actor) :
    sameBut finishRecParts s (s.finishRec i r fin a) := by
  unfold State.finishRec
  dsimp only
  exact sameBut_trans
    (sameBut_trans (sameBut_mono (by decide) (advanceRev_sameBut s))
      (sameBut_trans (sameBut_mono (by decide) (writeTombstone_sameBut _ _))
        (sameBut_mono (by decide) (setPool_sameBut _ _))))
    (sameBut_mono (by decide) (countFinish_sameBut _ _))

theorem freeOrder_sameBut (s : State) (j : Nat) (fin : FinState) :
    sameBut [.orders, .revision, .ring] s (s.freeOrder j fin) := by
  unfold State.freeOrder
  dsimp only
  exact sameBut_trans (sameBut_mono (by decide) (advanceRev_sameBut s))
    (sameBut_trans (sameBut_mono (by decide) (writeTombstone_sameBut _ _))
      (sameBut_mono (by decide) (setOrders_sameBut _ _)))

/-! ### The load table -/

theorem setLoadEntry_sameBut (s : State) (k g : Nat) (v : LoadEntry) : sameBut [.load] s (s.setLoadEntry k g v) := by
  intro x hx
  cases x <;> first
    | exact absurd (by decide) hx
    | rfl
    | exact ⟨rfl, rfl⟩
    | (intro _; first | rfl | exact ⟨rfl, rfl, rfl, rfl⟩)

theorem addShare_sameBut (k : Nat) (s : State) (w : Int × Nat) : sameBut [.load] s (State.addShare k s w) := by
  unfold State.addShare
  split
  · exact setLoadEntry_sameBut _ _ _ _
  · exact sameBut_refl _ s

theorem subShare_sameBut (k : Nat) (s : State) (w : Int × Nat) : sameBut [.load] s (State.subShare k s w) := by
  unfold State.subShare
  split
  · exact setLoadEntry_sameBut _ _ _ _
  · exact sameBut_refl _ s

theorem commitShares_sameBut (s : State) (k : Nat) (ws : List (Int × Nat)) :
    sameBut [.load] s (s.commitShares k ws) := sameBut_foldl (addShare_sameBut k) ws s

theorem alignOver_sameBut (k : Nat) (s : State) (g : Nat) : sameBut [.load] s (State.alignOver k s g) :=
  setLoadEntry_sameBut _ _ _ _

theorem alignFallen_sameBut (s b : State) (k : Nat) (ws : List (Int × Nat)) :
    sameBut [.load] s (s.alignFallen b k ws) := sameBut_foldl (alignOver_sameBut k) _ s

theorem removeLoad_sameBut (s : State) (k : Nat) (ws : List (Int × Nat)) :
    sameBut [.load] s (s.removeLoad k ws) :=
  sameBut_trans (sameBut_foldl (subShare_sameBut k) ws s) (alignFallen_sameBut _ _ _ _)

theorem moveLoad_sameBut (s : State) (k : Nat) (o : List (Int × Nat)) (j : Nat) (n : List (Int × Nat)) :
    sameBut [.load] s (s.moveLoad k o j n) := by
  unfold State.moveLoad
  dsimp only
  exact sameBut_trans (sameBut_trans (sameBut_foldl (subShare_sameBut k) o s) (commitShares_sameBut _ _ _))
    (alignFallen_sameBut _ _ _ _)

theorem announceOver_sameBut (was : Nat → List Int) (s : State) (k : Nat) :
    sameBut noticeParts s (State.announceOver was s k) := by
  unfold State.announceOver
  split
  · exact sameBut_refl _ s
  · exact raise_sameBut s _

theorem announceAllOver_sameBut (s : State) (was : Nat → List Int) : sameBut noticeParts s (s.announceAllOver was) :=
  sameBut_foldl (announceOver_sameBut was) _ s

/-! ### Acts on orders -/

theorem withdrawOrder_sameBut (s : State) (j : Nat) (o : Order) (b : Bool) :
    sameBut orderParts s (s.withdrawOrder j o b) := by
  have h := sameBut_trans (sameBut_mono (m := orderParts) (by decide) (freeOrder_sameBut s j .withdrawn))
    (sameBut_mono (by decide) (removeLoad_sameBut _ o.kitchen o.shares))
  unfold State.withdrawOrder
  dsimp only
  split
  · exact h
  · exact sameBut_trans h (sameBut_mono (by decide) (announceAllOver_sameBut _ _))

theorem forfeitOrder_sameBut (s : State) (j : Nat) (o : Order) (b : Bool) (c : Cause) (a : Actor) :
    sameBut orderParts s (s.forfeitOrder j o b c a) := by
  unfold State.forfeitOrder
  dsimp only
  exact sameBut_trans (sameBut_mono (by decide) (changeOrder_sameBut _ _ _))
    (sameBut_mono (by decide) (raise_sameBut _ _))

theorem unlinkOrder_sameBut (s : State) (j : Nat) (o : Order) : sameBut orderParts s (s.unlinkOrder j o) :=
  sameBut_mono (by decide) (changeOrder_sameBut _ _ _)

/-- An order that follows its booking's finish (R164). -/
theorem followFinish_sameBut (s : State) (f : Facts) (b : Bool) : sameBut orderParts s (s.followFinish f b) := by
  unfold State.followFinish
  split
  · exact sameBut_refl _ s
  · split
    · exact sameBut_refl _ s
    · split
      · exact withdrawOrder_sameBut _ _ _ _
      · exact forfeitOrder_sameBut _ _ _ _ _ _
      · exact forfeitOrder_sameBut _ _ _ _ _ _
      · exact unlinkOrder_sameBut _ _ _
      · exact unlinkOrder_sameBut _ _ _

theorem createOrder_sameBut (s : State) (j : Nat) (p : Port) (h : Handle) (q : CaterRequest) (m : Admission) :
    sameBut [.orders, .revision, .load] s (s.createOrder j p h q m) :=
  sameBut_trans (sameBut_mono (by decide) (commitShares_sameBut _ _ _))
    (sameBut_mono (by decide) (changeOrder_sameBut _ _ _))

/-! ### Waitlist and promotion -/

theorem freeEntry_sameBut (s : State) (i : Nat) (f : Fate) : sameBut [.waitlist] s (s.freeEntry i f) := by
  intro x hx
  cases x <;> first
    | exact absurd (by decide) hx
    | rfl
    | exact ⟨rfl, rfl⟩
    | (intro _; first | rfl | exact ⟨rfl, rfl, rfl, rfl⟩)

theorem addEntry_sameBut (s : State) (i : Nat) (e : WaitEntry) : sameBut [.waitlist] s (s.addEntry i e) := by
  intro x hx
  cases x <;> first
    | exact absurd (by decide) hx
    | rfl
    | exact ⟨rfl, rfl⟩
    | (intro _; first | rfl | exact ⟨rfl, rfl, rfl, rfl⟩)

/-- The parts a promotion scan may change (R70 to R73). -/
def scanParts : List Part :=
  [.records, .revision, .waitlist, .orders, .load, .displayRevs, .displays, .vacancy, .flags, .queues, .readings]

theorem promote_sameBut (s : State) (w : Nat) (e : WaitEntry) (room start i : Nat) :
    sameBut scanParts s (s.promote w e room start i) := by
  unfold State.promote
  dsimp only
  split
  · exact sameBut_trans (sameBut_trans (sameBut_trans (sameBut_mono (by decide) (changeRec_sameBut _ _ _))
      (sameBut_mono (by decide) (freeEntry_sameBut _ _ _))) (sameBut_mono (by decide) (raise_sameBut _ _)))
      (sameBut_mono (by decide) (roomChanged_sameBut _ _))
  · exact sameBut_trans (sameBut_trans (sameBut_trans (sameBut_trans
      (sameBut_mono (by decide) (changeRec_sameBut _ _ _))
      (sameBut_mono (by decide) (freeEntry_sameBut _ _ _))) (sameBut_mono (by decide) (raise_sameBut _ _)))
      (sameBut_mono (by decide) (raise_sameBut _ _))) (sameBut_mono (by decide) (roomChanged_sameBut _ _))
  · split
    · exact sameBut_refl _ s
    · exact sameBut_trans (sameBut_trans (sameBut_trans (sameBut_trans
        (sameBut_mono (by decide) (changeRec_sameBut _ _ _))
        (sameBut_mono (by decide) (freeEntry_sameBut _ _ _)))
        (sameBut_mono (by decide) (createOrder_sameBut _ _ _ _ _ _)))
        (sameBut_mono (by decide) (raise_sameBut _ _))) (sameBut_mono (by decide) (roomChanged_sameBut _ _))

/-- A promotion scan changes nothing outside its parts (R70 to R73). -/
theorem scan_sameBut (s : State) (l : List Nat) : sameBut scanParts s (s.scan l) := by
  induction l generalizing s with
  | nil => exact sameBut_refl _ s
  | cons w l ih =>
    unfold State.scan
    split
    · exact ih s
    · split
      · exact ih s
      · split
        · exact ih s
        · split
          · exact sameBut_refl _ s
          · exact sameBut_trans (promote_sameBut _ _ _ _ _ _) (ih _)

theorem promotionScan_sameBut (s : State) : sameBut scanParts s s.promotionScan := scan_sameBut s _

/-- With nothing on the waitlist a scan does nothing. -/
theorem promotionScan_of_empty (s : State) (h : s.wait.order = []) : s.promotionScan = s := by
  unfold State.promotionScan
  rw [h]
  rfl

/-! ### Attendance -/

/-- A check-in (R77). -/
theorem checkIn_sameBut (s : State) (i : Nat) (r : Rec) (a : Actor) (c : Cause) :
    sameBut checkInParts s (s.checkIn i r a c) :=
  sameBut_trans (sameBut_trans (sameBut_mono (by decide) (changeRec_sameBut _ _ _))
    (sameBut_mono (by decide) (raiseChanged_sameBut _ _ _ _ _ _)))
    (sameBut_mono (by decide) (roomChanged_sameBut _ _))

/-- The sensor check-in test (R80). -/
theorem sensorTest_sameBut (s : State) (room : Nat) : sameBut checkInParts s (s.sensorTest room) := by
  unfold State.sensorTest
  split
  · split
    · exact sameBut_refl _ s
    · exact checkIn_sameBut _ _ _ _ _
  · exact sameBut_refl _ s

/-! ### Taking a command at a port -/

/-- A port that can take a command runs it in EXECUTING and its answer is placed (R191, R193). -/
theorem atPort_of_canTake (s : State) (p : Port) (tag : Byte) (cmd : Command) (run : State → State × Reply)
    (h : s.canTake p) :
    s.atPort p tag cmd run = ((run (s.taking p tag cmd)).1).placed p tag (run (s.taking p tag cmd)).2 := by
  obtain ⟨h1, h2, h3, h4⟩ := h
  have ht : s.setPort p ((s.port p).takeFrame (s.takenNow p tag cmd)) = s.taking p tag cmd := by
    unfold AgentPort.takeFrame State.taking
    rw [h2]
  unfold State.atPort AgentPort.holdsCommand
  simp only [h1, h3, h4, h2, ht, Option.any_none, Option.isSome_none, Bool.false_eq_true, if_false, if_true]
  rfl

/-- The command a port has taken is judged against the port's mask (R189). -/
theorem mayIssue_taking (s : State) (p : Port) (tag : Byte) (cmd : Command) (r : Role) :
    (s.taking p tag cmd).mayIssue p r = roleIn (s.port p).roles r := by
  unfold State.mayIssue State.taking AgentPort.actingMask
  rw [State.port_setPort_same]
  rfl

/-- A command that a port already has with its owning block is run, and its answer placed (R191). -/
theorem atPort_of_inHand (s : State) (p : Port) (tag : Byte) (cmd : Command) (run : State → State × Reply) (h : Taken)
    (h1 : s.resetLow = false) (h2 : (s.port p).inHand = some h) (h3 : h.tag = tag) (h4 : h.cmd = cmd) :
    s.atPort p tag cmd run = ((run s).1).placed p tag (run s).2 := by
  unfold State.atPort AgentPort.holdsCommand
  simp [h1, h2, h3, h4]
  rfl

/-- A STATUS answers with the values of the moment at which it was taken (R196). -/
theorem runStatus_of_inHand (s : State) (p : Port) (t : StatusReading) (h : Taken)
    (h1 : (s.port p).inHand = some h) (h2 : h.seen = some t) :
    runStatus p s = (s, Reply.okWith (.status t)) := by
  unfold runStatus accept Reply.okWith
  simp [h1, h2]

/-- A STATUS taken and run in one step answers with the present values (R196). -/
theorem runStatus_taking (s : State) (p : Port) (tag : Byte) :
    runStatus p (s.taking p tag .status) = (s.taking p tag .status, Reply.okWith (.status (s.statusReading p))) :=
  runStatus_of_inHand _ p _ (s.takenNow p tag .status) (by unfold State.taking; rw [State.port_setPort_same]) rfl

/-- Taking a command changes the port's state and nothing else (R191). -/
theorem taking_sameBut (s : State) (p : Port) (tag : Byte) (cmd : Command) :
    sameBut [.portStates] s (s.taking p tag cmd) := by
  unfold State.taking
  apply setPort_sameBut <;> first
    | exact .inl (by decide)
    | exact .inr rfl

/-- Placing a response changes the port's state and nothing else (R191). -/
theorem placed_sameBut (s : State) (p : Port) (tag : Byte) (r : Reply) :
    sameBut [.portStates] s (s.placed p tag r) := by
  unfold State.placed
  apply setPort_sameBut <;> first
    | exact .inl (by decide)
    | exact .inr rfl

end Sys2Proof.Machine
end

