-- ==== Sys2Proof/WellFormed.lean ====
section
/-! DEFINITION. Which terms of `Instr` the part's lines can bring: the numbers of ports, rooms, chains and entries that
exist, byte counts that agree, and command fields that fit the fields the rules name. A command field out of a rule's
own range is well formed: the part answers it RANGE. -/

namespace Sys2Proof

/-- The frame of a void transaction begins with neither the sync byte nor the read byte (R188). -/
def voidByteOk (first : Byte) : Bool := !(first == 0x5A) && !(first == 0xA5)

/-- A completed command frame carries as many payload bytes as its length byte says, at most 60 (R192, R194). -/
def commandFrameOk (f : CommandFrame) : Bool :=
  decide (f.length.toNat ≤ 60) && f.payload.length == f.length.toNat

/-- An upstream frame that is not cut short carries as many payload bytes as its length byte says (R98). -/
def upFrameOk (f : UpFrame) : Bool := f.cut || f.payload.length == f.length.toNat

/-- A chain event names one of the four chains (6). -/
def chainOk (chain : Nat) : Bool := decide (chain < Config.chainCount)

/-- A room event names one of the 160 rooms (1.1). -/
def roomOk (room : Nat) : Bool := decide (room < Config.roomCount)

/-- A deadline of a booking or block names a booking pool entry (R20). -/
def recordOk (index : Nat) : Bool := decide (index < Config.bookCap)

/-- A deadline of an order names an order pool entry (R154). -/
def orderOk (index : Nat) : Bool := decide (index < Config.orderCap)

/-- An expiry names a waitlist position (R62). -/
def entryOk (index : Nat) : Bool := decide (index < Config.waitCap)

/-- A hold-minutes field is one byte (R42). -/
def holdOk (a : HoldArgs) : Bool := decide (a.holdMinutes ≤ 255)

/-- A revision field is 32 bits wide (R41, R58). -/
def revisionOk (n : Nat) : Bool := decide (n ≤ Config.revMax)

/-- The commands and events that the part's lines and timers can bring. -/
def wellFormed : Instr → Bool
  | .resetAsserted | .coldReset _ _ _ | .secondTick | .minuteAdvance | .dayRollover | .minuteSync => true
  | .holdEnd i | .arrival i | .graceEnd i | .unverifiedEnd i | .endDeadline i => recordOk i
  | .waitExpiry i => entryOk i
  | .autoEnd r | .displayDeadline r => roomOk r
  | .cutoffDeadline i | .dispatchDeadline i | .lateDeadline i => orderOk i
  | .hold _ _ a => holdOk a
  | .confirm _ _ _ e | .modify _ _ _ e _ | .move _ _ _ e _ | .cancel _ _ _ e | .unblock _ _ _ e
  | .checkIn _ _ _ e | .extend _ _ _ e | .caterOrder _ _ _ e _ | .caterChange _ _ _ e _ | .caterCancel _ _ _ e
  | .caterDelivered _ _ _ e => revisionOk e
  | .listChanges _ _ since => revisionOk since
  | .readRoom _ _ _ | .configSite _ _ _ | .configRoom _ _ _ | .openRoom _ _ _ | .closeRoom _ _ _
  | .closeRoomForce _ _ _ | .openDevice _ _ | .reconfigure _ _ | .setMinuteSync _ _ _ | .setTime _ _ _ _ _
  | .adjustTimeForward _ _ _ | .adjustTimeBackward _ _ _ | .block _ _ _ | .queryBooking _ _ _
  | .queryRoomDay _ _ _ _ _ | .listNext _ _ | .waitAdd _ _ _ | .waitRemove _ _ _ | .queryWaitlist _ _ _
  | .readLinkCounters _ _ _ | .chainReset _ _ _ _ | .readPanels _ _ _ _ | .configKitchen _ _ _ _ _
  | .setCapacity _ _ _ _ _ | .defineClass _ _ _ _ _ _ | .setTransit _ _ _ _ _ _ _ | .readKitchenSetup _ _ _
  | .kitchenLoad _ _ _ _ _ | .queryOrder _ _ _ | .snapshot _ _ | .setAutoSnapshot _ _ _ | .readUsage _ _ _
  | .configRoute _ _ _ | .readRoutes _ _ _ | .status _ _ | .narrowRoles _ _ _ _ | .unknownCommand _ _ _ => true
  | .commandSyncByte _ | .selRaisedEarly _ | .stalledClock _ | .readByte _ | .readCompletesWhole _
  | .readCutShort _ => true
  | .voidTransaction _ first => voidByteOk first
  | .commandFrameLengthFault _ length => decide (60 < length.toNat)
  | .commandFrameCompletes _ f => commandFrameOk f
  | .upstreamFrame c _ f => chainOk c && upFrameOk f
  | .quietTimer c | .enumerationStart c | .roundStart c | .roundTimeout c | .displayFrameSent c _
  | .errorWindowEnd c => chainOk c

end Sys2Proof
end

