-- ==== Sys2Proof/Tests/Slice0.lean ====
section
/-! SUPPORT. The author's own tests: the checks of WellFormed, single steps whose results the manual's worked cases and
tables give, and for each statement of Obligations.lean with hypotheses a state and operands that meet them. -/

namespace Sys2Proof.Tests

open Sys2Proof Sys2Proof.Machine

/- One theorem at a time: the kernel evaluations then need one thread and little memory. -/
set_option Elab.async false

/-! ### WellFormed refuses an ill-formed term for each of its checks -/

theorem test_void_byte : wellFormed (.voidTransaction .a 0x5A) = false ∧ wellFormed (.voidTransaction .a 0xA5) = false ∧
    wellFormed (.voidTransaction .a 0) = true := by decide

theorem test_frame_length_fault : wellFormed (.commandFrameLengthFault .b 60) = false ∧
    wellFormed (.commandFrameLengthFault .b 61) = true := by decide

theorem test_command_frame : wellFormed (.commandFrameCompletes .a ⟨2, 1, 1, [0], 0, .status⟩) = false ∧
    wellFormed (.commandFrameCompletes .a ⟨1, 1, 1, [0], 0, .status⟩) = true := by decide

theorem test_up_frame : wellFormed (.upstreamFrame 0 1
      ⟨false, 4, some .enumReply, false, 1, 4, [], 0, .none, .none, ⟨false, false, false⟩⟩) = false := by decide

theorem test_chain_number : wellFormed (.roundStart 4) = false ∧ wellFormed (.roundStart 3) = true := by decide

theorem test_room_number : wellFormed (.autoEnd 160) = false ∧ wellFormed (.autoEnd 159) = true := by decide

theorem test_record_index : wellFormed (.holdEnd 2048) = false ∧ wellFormed (.holdEnd 2047) = true := by decide

theorem test_order_index : wellFormed (.lateDeadline 512) = false ∧ wellFormed (.lateDeadline 511) = true := by decide

theorem test_entry_index : wellFormed (.waitExpiry 64) = false ∧ wellFormed (.waitExpiry 63) = true := by decide

theorem test_hold_minutes : wellFormed (.hold .a 0 ⟨0, 0, 600, 660, 1, 0, 0, 256, none, false⟩) = false ∧
    wellFormed (.hold .a 0 ⟨0, 0, 600, 660, 1, 0, 0, 255, none, false⟩) = true := by decide

theorem test_revision_width : wellFormed (.listChanges .a 0 4294967296) = false ∧
    wellFormed (.confirm .a 0 ⟨0, 0⟩ 4294967295) = true := by decide

/-- No row of the table has bits, so no word spells a command (log entry 8). -/
theorem test_no_word : decodeTableWord 8 0 = none ∧ State.reset.withFetchWord 8 0 = State.reset := by decide

/-! ### The states of the tests -/

def allRoles : RoleMask := ⟨true, true, true⟩

/-- Deadlines, in the order kind, minute, due. -/
def bookingRec (room plane start stop : Nat) (state : RecState) (owner : Owner) (d : Deadline) (rev : Nat) : Rec :=
  { kind := .booking, room := room, plane := plane, start := start, stop := stop, setup := 0, clear := 0, state := state
    owner := owner, organizer := 7, label := 9, attendees := some 5, deadline := d, arrival := none, rev := rev
    order := none, flags := ⟨false, false, false, false⟩, extensions := 0 }

def heldRec : Rec := bookingRec 1 0 130 136 .held (.port .a) ⟨.holdEnd, 610, false⟩ 1
def confirmedRec : Rec := bookingRec 0 0 121 125 .confirmed (.port .a) ⟨.graceEnd, 615, false⟩ 2
def arrivedRec : Rec :=
  { bookingRec 1 0 118 124 .arrived (.port .b) ⟨.endAt, 620, false⟩ 3 with arrival := some 118 }
def blockRec : Rec := { bookingRec 3 1 10 20 .blocked (.port .c) ⟨.endAt, 1540, false⟩ 4 with
  kind := .block, attendees := none }
def cateredRec : Rec := { bookingRec 0 0 144 150 .held (.port .a) ⟨.holdEnd, 610, false⟩ 5 with order := some ⟨0, 0⟩ }
def lockedRec : Rec :=
  { bookingRec 1 0 150 156 .confirmed (.port .a) ⟨.arrival, 750, false⟩ 6 with order := some ⟨1, 0⟩ }

/-- The order of the first worked case of chapter 8. -/
def acceptedOrder : Order :=
  { placing := .b, booking := some ⟨4, 0⟩, kitchen := 0, cls := 0, covers := 36, offset := -10, load := 54, lead := 4
    last := 45, cutoff := 630, dispatch := 698, delivery := 710, state := .accepted
    deadline := some ⟨.cutoff, 630, false⟩, rev := 7, clamped := false, lateSent := false }
def preparingOrder : Order :=
  { acceptedOrder with booking := some ⟨5, 0⟩, state := .preparing, deadline := some ⟨.dispatch, 698, false⟩, rev := 8 }

def testRoom (building : Nat) (panel : Option (BitVec 32)) (options : RoomOptions) : Room :=
  { configured := true, isOpen := true, building := building, seats := 20, setup := 0, clear := 0, grace := 10
    options := options, threshold := 3, unitId := panel, displayRev := 0 }

def waiting (room : Nat) (q : Option CaterRequest) : WaitEntry :=
  { rooms := [room], plane := 0, earliest := 130, length := 4, flex := 1, attendees := 5, organizer := 7, label := 9
    cater := q, expiry := 650, due := false, requester := .a, tag := 3 }

def linkedPanel : Position :=
  { Position.cold with unitId := some 100, presence := .linked, good := 2, debounced := some .occupied
                       lastSeq := some 1 }
def seekingPanel : Position := { Position.cold with unitId := some 101, presence := .seeking }

def chainInWait : Chain :=
  { Chain.cold with activity := .wait, count := 2, time := 100, nextRoundStart := some 2000, quietAt := none
                    positions := [(1, linkedPanel), (2, seekingPanel)] }

/-- A device that is SERVING at 10:00 of day 1 with four rooms, a panel, records of every kind and state, two orders
and three waitlist entries. -/
def demo : State :=
  let s := State.cold allRoles allRoles allRoles
  { s with
    clock := ⟨1, 600, 30, true, true, false⟩
    site := { buildings := 2, mode := .serving, rooms :=
      [(0, testRoom 0 (some 100) ⟨true, false, true, false⟩), (1, testRoom 1 none ⟨false, false, false, false⟩),
       (2, { testRoom 0 none RoomOptions.cold with isOpen := false }),
       (3, testRoom 0 none ⟨false, false, false, true⟩)] }
    book := { s.book with
      rev := 10, pool := [(0, ⟨0, some heldRec⟩), (1, ⟨0, some confirmedRec⟩), (2, ⟨0, some arrivedRec⟩),
        (3, ⟨0, some blockRec⟩), (4, ⟨0, some cateredRec⟩), (5, ⟨0, some lockedRec⟩), (9, ⟨1, none⟩)]
      ring := [⟨⟨9, 0⟩, .booking, .cancelled, 9⟩] }
    wait := { pool := [(0, ⟨0, some (waiting 1 none)⟩), (1, ⟨0, some (waiting 3 none)⟩),
        (2, ⟨0, some (waiting 3 (some ⟨.kitchen 0, 0, 5, 0⟩))⟩)], order := [0, 1, 2], fates := [] }
    link := { s.link with chains := [(0, chainInWait)], locations := [(0, some ⟨0, 1⟩)] }
    plan := { s.plan with
      kitchens := [(0, ⟨true, 10⟩)], classes := [(0, some ⟨15, 4, 1⟩)], transit := [(0, 12)]
      profile := [(41, 40), (42, 40), (43, 40), (44, 40), (45, 40)]
      orders := [(0, ⟨0, some acceptedOrder⟩), (1, ⟨0, some preparingOrder⟩)] }
    routes := [(2, ⟨true, .owner, ⟨false, false, true⟩, 4⟩), (14, ⟨true, .least, ⟨false, true, true⟩, 3⟩),
      (20, ⟨true, .fixed, ⟨true, false, false⟩, 1⟩)] }

/-- The test state with one record's entry holding another record. -/
def demoWith (i : Nat) (r : Rec) : State := demo.setPool (Pool.store demo.book.pool i r)

/-- The test state with one order's entry holding another order. -/
def demoOrder (j : Nat) (o : Order) : State := demo.setOrders (Pool.store demo.plan.orders j o)

/-- The test state while the device is CONFIGURING. -/
def configuring : State := { State.cold allRoles allRoles allRoles with
  clock := ⟨1, 600, 30, true, true, false⟩
  site := { buildings := 2, mode := .configuring, rooms := [(0, testRoom 0 none RoomOptions.cold)] } }

/-- The test state with its revision exhausted. -/
def exhaustedDemo : State := { demo with book := { demo.book with rev := 4294967295 } }

def demoChain (c : Nat) (v : Chain) : State := demo.setChain c v

/-! ### How the premises are decided -/

def canTakeB (s : State) (p : Port) : Bool :=
  !s.resetLow && (s.port p).base == .idle && (s.port p).inHand == none && (s.port p).reading == none

theorem canTake_of {s : State} {p : Port} (h : canTakeB s p = true) : s.canTake p := by
  simp only [canTakeB, Bool.and_eq_true, beq_iff_eq, Bool.not_eq_true'] at h
  exact ⟨h.1.1.1, h.1.1.2, h.1.2, h.2⟩

def readyB (s : State) (p : Port) (cmd : Command) : Bool :=
  canTakeB s p && permits p (s.port p).roles cmd && (!needsServing cmd || s.serving) &&
    (!needsRevision cmd || !s.exhausted)

theorem ready_of {s : State} {p : Port} {cmd : Command} (h : readyB s p cmd = true) : s.ready p cmd := by
  simp only [readyB, Bool.and_eq_true, Bool.or_eq_true, Bool.not_eq_true'] at h
  exact ⟨canTake_of h.1.1.1, h.1.1.2, fun hs => by simp_all, fun hr => by simp_all⟩

theorem lowest_of {α : Type} {q : Pool α} {cap i : Nat}
    (h : (decide (i < cap) && (Pool.item? q i).isNone && (List.range i).all (fun j => (Pool.item? q j).isSome)) = true) :
    isLowestFree q cap i := by
  simp only [Bool.and_eq_true, decide_eq_true_eq, Option.isNone_iff_eq_none, List.all_eq_true, List.mem_range] at h
  exact ⟨h.1.1, h.1.2, fun j hj hn => by simpa [hn] using h.2 j hj⟩

theorem freeRun_of {s : State} {room plane lo hi : Nat} {own : Option Nat}
    (h : s.liveRecs.all (fun e => !(e.2.room == room && e.2.plane == plane && own != some e.1) ||
      !(decide (lo < e.2.padEnd) && decide (e.2.padStart < hi))) = true) : s.freeRun room plane lo hi own := by
  intro e he hr hp ho hc
  have := List.all_eq_true.mp h e he
  simp_all

theorem rooms_of {s : State} {P : Room → Prop} (hd : P Room.cold) (h : ∀ e, e ∈ s.site.rooms → P e.2) (r : Nat) :
    P (s.room r) := Table.read_of_all hd h r

theorem recs_of {s : State} {P : Nat → Rec → Prop} (h : ∀ e, e ∈ s.liveRecs → P e.1 e.2) (i : Nat) (r : Rec)
    (hr : s.rec? i = some r) : P i r := Pool.item?_of_all h i r hr

def tablesB (s : State) : Bool :=
  Table.wf Room.cold s.site.rooms && Table.wf PoolEntry.fresh s.book.pool && Table.wf Vacancy.cold s.book.vacancy &&
  Table.wf PoolEntry.fresh s.wait.pool && Table.wf none s.wait.fates && Table.wf Chain.cold s.link.chains &&
  Table.wf none s.link.locations && Table.wf Display.cold s.link.displays && Table.wf Kitchen.cold s.plan.kitchens &&
  Table.wf 0 s.plan.profile && Table.wf none s.plan.classes && Table.wf 0 s.plan.transit &&
  Table.wf LoadEntry.cold s.plan.load && Table.wf PoolEntry.fresh s.plan.orders &&
  Table.wf RoomUsage.zero s.monitor.rooms && Table.wf KitchenUsage.zero s.monitor.kitchens &&
  Table.wf RoomUsage.zero s.monitor.bank.rooms && Table.wf KitchenUsage.zero s.monitor.bank.kitchens &&
  Table.wf ChronicState.cold s.monitor.chronic && Table.wf Route.cold s.routes &&
  s.link.chains.all (fun e => Table.wf Position.cold e.2.positions && Table.wf none e.2.noted)

theorem tablesOk_of {s : State} (h : tablesB s = true) : s.tablesOk := by
  simp only [tablesB, Bool.and_eq_true, and_assoc, List.all_eq_true] at h
  obtain ⟨h1, h2, h3, h4, h5, h6, h7, h8, h9, h10, h11, h12, h13, h14, h15, h16, h17, h18, h19, h20, h21⟩ := h
  exact ⟨h1, h2, h3, h4, h5, h6, h7, h8, h9, h10, h11, h12, h13, h14, h15, h16, h17, h18, h19, h20,
    fun c => Table.read_of_all (P := fun v : Chain => Table.wf Position.cold v.positions = true ∧
      Table.wf none v.noted = true) ⟨rfl, rfl⟩ h21 c⟩

/-! ### States and operands that meet the premises of the statements -/

def demoPort (p : Port) (a : AgentPort) : State := demo.setPort p a
def answered : AgentPort := { demo.ports.a with base := .answerReady, slot := some ⟨1, Reply.refusal .range⟩ }

theorem met_StepRunsFrontCommand : { demo with pending := [.secondTick, .minuteSync] }.pending =
    .secondTick :: [.minuteSync] ∧ demo.pending = [] := by decide +kernel

theorem met_CommandTakenOnlyWhenIdle :
    (commandOf? (.status .a 5) = some (.a, 5, .status) ∧ (demoPort .a answered).resetLow = false ∧
      ((demoPort .a answered).port .a).base ≠ .idle ∧ ((demoPort .a answered).port .a).reading = none ∧
      ((demoPort .a answered).port .a).holdsCommand 5 .status = false) ∧ demo.canTake .a :=
  ⟨by decide +kernel, canTake_of (by decide +kernel)⟩

theorem met_ResetLineHoldsPorts : { demo with resetLow := true }.resetLow = true ∧
    commandOf? (.status .a 5) = some (.a, 5, .status) ∧ portEventOf? (.readByte .b) = some .b := by decide +kernel

theorem met_CommandsAreGuarded :
    (demoPort .a { demo.ports.a with roles := ⟨false, true, true⟩ }).canTake .a ∧
    permits .a ⟨false, true, true⟩ (.confirm ⟨0, 0⟩ 1) = false ∧
    (configuring.canTake .a ∧ permits .a (configuring.port .a).roles (.confirm ⟨0, 0⟩ 1) = true ∧
      needsServing (.confirm ⟨0, 0⟩ 1) = true ∧ configuring.serving = false) ∧
    (exhaustedDemo.canTake .a ∧ permits .a (exhaustedDemo.port .a).roles (.confirm ⟨0, 0⟩ 1) = true ∧
      needsRevision (.confirm ⟨0, 0⟩ 1) = true ∧ exhaustedDemo.serving = true ∧ exhaustedDemo.exhausted = true) ∧
    (exhaustedDemo.port .a).roles.facil = true ∧ exhaustedDemo.roomRecs 0 ≠ [] :=
  ⟨canTake_of (by decide +kernel), by decide +kernel,
    ⟨canTake_of (by decide +kernel), by decide +kernel⟩, ⟨canTake_of (by decide +kernel), by decide +kernel⟩,
    by decide +kernel⟩

def receivingA : State := demoPort .a { demo.ports.a with receiving := true }

/-- A frame at the greatest length passes and one byte more is a fault; its check is the one of 12.4. -/
theorem met_CommandTransactions :
    (∀ b, b = .executing ∨ b = .answerReady →
      ((demoPort .a { demo.ports.a with receiving := true, base := b }).port .a).receiving = true ∧
      ((demoPort .a { demo.ports.a with receiving := true, base := b }).port .a).base = b) ∧
    (demo.port .a).quiet = true ∧ (0x00 : Byte) ≠ 0x5A ∧ (0x00 : Byte) ≠ 0xA5 ∧ receivingA.resetLow = false ∧
    (receivingA.port .a).receiving = true ∧ (receivingA.port .a).reading = none ∧ 60 < (61 : Byte).toNat ∧
    (60 : Byte).toNat ≤ 60 ∧ (List.replicate 60 (0 : Byte)).length = (60 : Byte).toNat ∧
    (receivingA.port .a).base = .idle ∧ (0 : BitVec 16) ≠ crc16 [0, 1, 1] ∧ (demo.port .a).reading = none :=
  ⟨fun _ _ => ⟨rfl, rfl⟩, by decide +kernel⟩

def reads (f : ReadFrame) (superseded : Bool) : State := demoPort .a { demo.ports.a with
  reading := some ⟨f, ⟨true, false, false, false⟩, ⟨false, false, false, false⟩, superseded⟩
  flags := ⟨true, false, false, false⟩
  queue := [demo.formNotice { kind := .dayRolled, subject := .snapshot 1 }] }

theorem met_ReadTransactions :
    (demo.port .a).quiet = true ∧ demo.resetLow = false ∧
    (∀ r : Response, ((reads (.response r) false).port .a).reading =
      some ⟨.response r, ⟨true, false, false, false⟩, ⟨false, false, false, false⟩, false⟩) ∧
    (∃ n, ((reads (.notice n) false).port .a).queue = n :: [] ∧ ((reads (.notice n) true).port .a).reading =
      some ⟨.notice n, ⟨true, false, false, false⟩, ⟨false, false, false, false⟩, true⟩) ∧
    ((reads .empty false).port .a).reading =
      some ⟨.empty, ⟨true, false, false, false⟩, ⟨false, false, false, false⟩, false⟩ :=
  ⟨by decide +kernel, by decide +kernel, fun _ => rfl, ⟨_, rfl, rfl⟩, rfl⟩

/-- A port narrows itself, and one that holds FACIL narrows another; 7 is the greatest mask. -/
theorem met_NarrowingAndUnknownCommands : demo.canTake .a ∧ portOfLetter 0 = some .a ∧ portOfLetter 2 = some .c ∧
    RoleMask.any (demo.port .a).roles = true ∧ (demo.port .a).roles.facil = true ∧ 7 ≤ 7 :=
  ⟨canTake_of (by decide +kernel), by decide +kernel⟩

theorem met_OnlyTheirCommandsChangeMasksAndMode : (∃ t, exec .resetAsserted demo = .next t) ∧
    (∀ a b d, Instr.resetAsserted ≠ .coldReset a b d) ∧ (∀ q tag l m, Instr.resetAsserted ≠ .narrowRoles q tag l m) ∧
    (∀ p tag, Instr.resetAsserted ≠ .openDevice p tag) ∧ ∀ p tag, Instr.resetAsserted ≠ .reconfigure p tag :=
  ⟨⟨_, rfl⟩, nofun, nofun, nofun, nofun⟩

/-- A handle of an earlier generation, one of a free entry's present generation, a block named by a booking's command, and a stale revision; for orders, a handle
with no order and a stale revision. -/
theorem met_HandlesAreChecked :
    (commandOf? (.cancel .a 1 ⟨9, 0⟩ 9) = some (.a, 1, .cancel ⟨9, 0⟩ 9) ∧ demo.ready .a (.cancel ⟨9, 0⟩ 9) ∧
      demo.fieldsInRange (.cancel ⟨9, 0⟩ 9) = true ∧ Pool.named? demo.book.pool ⟨9, 0⟩ = none ∧
      Pool.named? demo.book.pool ⟨9, 1⟩ = none ∧ (Pool.entry demo.book.pool 9).gen = 1) ∧
    (demo.ready .a (.cancel ⟨3, 0⟩ 4) ∧ Pool.named? demo.book.pool ⟨3, 0⟩ = some blockRec ∧ blockRec.kind ≠ .booking) ∧
    (demo.ready .a (.cancel ⟨0, 0⟩ 5) ∧ Pool.named? demo.book.pool ⟨0, 0⟩ = some heldRec ∧ heldRec.rev ≠ 5) ∧
    (changesOrder? (.caterCancel ⟨7, 0⟩ 1) = some (⟨7, 0⟩, 1) ∧ demo.ready .a (.caterCancel ⟨7, 0⟩ 1) ∧
      Pool.named? demo.plan.orders ⟨7, 0⟩ = none) ∧
    (demo.ready .a (.caterCancel ⟨0, 0⟩ 1) ∧ Pool.named? demo.plan.orders ⟨0, 0⟩ = some acceptedOrder ∧
      acceptedOrder.rev ≠ 1) :=
  ⟨⟨by decide +kernel, ready_of (by decide +kernel), by decide +kernel, by decide +kernel⟩,
    ⟨ready_of (by decide +kernel), by decide +kernel, by decide +kernel⟩,
    ⟨ready_of (by decide +kernel), by decide +kernel, by decide +kernel⟩,
    ⟨by decide +kernel, ready_of (by decide +kernel), by decide +kernel⟩,
    ⟨ready_of (by decide +kernel), by decide +kernel, by decide +kernel⟩⟩

theorem met_FreeEntriesAndDayLists : demo.firstConflict 1 0 120 122 none = some 2 ∧
    demo.firstConflict 1 0 120 122 (some 2) = none ∧ Pool.lowestFree demo.book.pool 2048 = some 6 := by decide +kernel

def statusFrame : CommandFrame := ⟨0, 7, 1, [], crc16 [0, 7, 1], .status⟩

/-- A STATUS frame that completes at port A, and port A with the STATUS it took, its values those of that moment. -/
theorem met_StatusTakenEarlier : receivingA.resetLow = false ∧ (receivingA.port .a).receiving = true ∧
    (receivingA.port .a).base = .idle ∧ wellFormedFrame statusFrame = true ∧ statusFrame.cmd = .status ∧
    ((demoPort .a { demo.ports.a with base := .executing, inHand := some (receivingA.takenNow .a 7 .status) }).port
      .a).inHand = some ⟨statusFrame.tag, .status, (receivingA.port .a).roles, some (receivingA.statusReading .a)⟩ := by
  decide +kernel

theorem met_ReadsOfTables : demo.canTake .a ∧ demo.ready .a (.readUsage (.rooms 159)) ∧
    demo.ready .a (.readUsage (.kitchen 3)) ∧ demo.ready .a (.readKitchenSetup .classes) ∧
    demo.ready .a (.readKitchenSetup (.kitchen 3)) ∧ demo.ready .a (.kitchenLoad 3 752 16) ∧ 752 + 16 ≤ 768 :=
  ⟨canTake_of (by decide +kernel), ready_of (by decide +kernel), ready_of (by decide +kernel),
    ready_of (by decide +kernel), ready_of (by decide +kernel), ready_of (by decide +kernel), by decide⟩

theorem met_ReadsOfRecords : demo.ready .a (.queryBooking ⟨2047, 0⟩) ∧ demo.ready .a (.queryRoomDay 1 0 3) ∧
    3 ≤ (demo.dayList 1 0).length ∧ demo.ready .a (.queryWaitlist 2) ∧
    (∀ w, w ∈ demo.wait.order → (demo.waitEntry? w).isSome = true) ∧ demo.ready .a (.queryOrder (.order ⟨511, 0⟩)) ∧
    demo.ready .a (.queryOrder (.booking ⟨4, 0⟩)) ∧ Pool.named? demo.book.pool ⟨4, 0⟩ = some cateredRec :=
  ⟨ready_of (by decide +kernel), ready_of (by decide +kernel), by decide +kernel, ready_of (by decide +kernel),
    by decide +kernel, ready_of (by decide +kernel), ready_of (by decide +kernel), by decide +kernel⟩

/-- The first and the last position of the last chain, chain 4 and position 41, a port without FACIL, and the last
room. -/
theorem met_PanelsAreRead : demo.ready .a (.readPanels 3 1) ∧ demo.ready .a (.readPanels 3 40) ∧
    demo.ready .a (.readPanels 4 1) ∧ demo.ready .a (.readPanels 0 41) ∧
    (demoPort .a { demo.ports.a with roles := ⟨true, true, false⟩ }).canTake .a ∧ demo.canTake .a ∧ 159 ≤ 159 :=
  ⟨ready_of (by decide +kernel), ready_of (by decide +kernel), ready_of (by decide +kernel),
    ready_of (by decide +kernel), canTake_of (by decide +kernel), canTake_of (by decide +kernel), by decide⟩

/-- The first and the last kind, the kinds outside them, and a port that holds no role. -/
theorem met_RoutesAreRead : demo.canTake .a ∧ RoleMask.any (demo.port .a).roles = true ∧ (1 ≤ 20 ∧ 20 ≤ 20) ∧
    (0 < 1 ∧ 20 < 21) ∧ (demoPort .a { demo.ports.a with roles := ⟨false, false, false⟩ }).canTake .a :=
  ⟨canTake_of (by decide +kernel), by decide +kernel, by decide, by decide, canTake_of (by decide +kernel)⟩

/-- Counts 0 and 13, one building too few for room 1, a room never configured, and rooms with and without records. -/
theorem met_SiteAndRoomStates : demo.ready .a (.configSite 0) ∧ demo.ready .a (.configSite 13) ∧
    (demo.canTake .a ∧ (demo.port .a).roles.facil = true ∧ 159 < 160) ∧ demo.ready .a (.configSite 12) ∧ demo.serving = true ∧
    (configuring.ready .a (.configSite 1) ∧ configuring.serving = false ∧
      ∀ e, e ∈ configuring.site.rooms → e.2.configured = true → e.2.building < 1) ∧
    (∃ e, e ∈ ({ demo with site := { demo.site with mode := .configuring } } : State).site.rooms ∧
      e.2.configured = true ∧ 1 ≤ e.2.building) ∧ Table.wf Room.cold demo.site.rooms = true ∧
    demo.ready .a (.openRoom 159) ∧ (demo.room 159).configured = false ∧ (demo.room 2).configured = true ∧
    demo.ready .a (.closeRoom 3) ∧ (∃ e l, demo.roomRecs 3 = e :: l) ∧ ∀ e, e ∈ demo.liveRecs → e.2.room ≠ 2 :=
  ⟨ready_of (by decide +kernel), ready_of (by decide +kernel), ⟨canTake_of (by decide +kernel), by decide +kernel⟩,
    ready_of (by decide +kernel), by decide +kernel,
    ⟨ready_of (by decide +kernel), by decide +kernel, by decide +kernel⟩, by decide +kernel, by decide +kernel,
    ready_of (by decide +kernel), by decide +kernel, by decide +kernel, ready_of (by decide +kernel),
    ⟨_, _, rfl⟩, by decide +kernel⟩

/-- Room 1 keeps its building and takes panel 101; the seats fall to the greatest number of its attendees. -/
def roomChange : ConfigRoomArgs :=
  { room := 1, building := 1, seats := 5, setup := 6, clear := 6, options := RoomOptions.cold, grace := some 31
    threshold := some 15, unitChoice := .bind 101 }

theorem met_ConfigRoomStoresAndBinds : demo.ready .a (.configRoom roomChange) ∧
    (∀ v, roomChange.unitChoice = .bind v → ∀ e, e ∈ demo.site.rooms → e.1 ≠ 1 → e.2.unitId ≠ some v) ∧
    roomChange.building = (demo.room 1).building ∧
    (∀ e n, e ∈ demo.liveRecs → e.2.room = 1 → e.2.attendees = some n → n ≤ 5) ∧
    (demo.tablesOk ∧ demo.findUnit 101 = some ⟨0, 2⟩ ∧ demo.findUnit 55 = none) := by
  refine ⟨ready_of (by decide +kernel), ?_, by decide +kernel, ?_, tablesOk_of (by decide +kernel), by decide +kernel⟩
  · intro v hv
    cases hv
    decide +kernel
  · have : ∀ e, e ∈ demo.liveRecs → e.2.attendees.all (fun n => decide (n ≤ 5)) = true := by decide +kernel
    intro e n he _ hn
    simpa [hn] using this e he

/-- A seat count of 401, the panel of room 0, another building, and fewer seats than a record's attendees. -/
theorem met_ConfigRoomRefusals : (demo.ready .a (.configRoom { roomChange with seats := 401 }) ∧ 400 < 401) ∧
    (demo.ready .a (.configRoom { roomChange with unitChoice := .bind 100 }) ∧ (demo.room 0).unitId = some 100 ∧
      Table.wf Room.cold demo.site.rooms = true) ∧
    (demo.ready .a (.configRoom { roomChange with building := 0 }) ∧ (demo.room 1).configured = true ∧
      0 ≠ (demo.room 1).building ∧ ∀ q, q ≠ 1 → (demo.room q).unitId ≠ some 101) ∧
    (demo.ready .a (.configRoom { roomChange with seats := 4 }) ∧ (∃ post, demo.roomRecs 1 = [] ++ (2, arrivedRec) :: post) ∧
      arrivedRec.attendees = some 5 ∧ 4 < 5) := by
  refine ⟨⟨ready_of (by decide +kernel), by decide⟩, ⟨ready_of (by decide +kernel), by decide +kernel⟩,
    ⟨ready_of (by decide +kernel), by decide +kernel, by decide +kernel, fun q _ => ?_⟩, ready_of (by decide +kernel),
    ⟨_, rfl⟩, by decide +kernel⟩
  match q with
  | 0 | 1 | 2 | 3 => decide +kernel
  | q + 4 => rw [show demo.room (q + 4) = Room.cold by simp [State.room, demo, State.cold, Table.read, Table.look?]]; nofun

theorem met_ForcedCloseFinishesRecords : demo.ready .a (.closeRoomForce 3) ∧ demo.ready .a (.closeRoomForce 2) ∧
    Table.wf PoolEntry.fresh demo.book.pool = true ∧ demo.book.ring.length ≤ 256 ∧
    (∀ i r, demo.rec? i = some r → r.room = 3 → r.order = none ∧ r.plane ≤ 7) ∧ demo.roomRecs 2 = [] ∧
    demo.roomRecs 3 ≠ [] ∧ demo.exhausted = false :=
  ⟨ready_of (by decide +kernel), ready_of (by decide +kernel), by decide +kernel, by decide +kernel,
    recs_of (P := fun _ r => r.room = 3 → r.order = none ∧ r.plane ≤ 7) (by decide +kernel), by decide +kernel⟩

theorem met_DeviceModes : demo.ready .a .openDevice ∧ demo.serving = true ∧ demo.ready .a .reconfigure ∧
    configuring.ready .a .openDevice ∧ configuring.ready .a .reconfigure ∧ (configuring.serving = false ∧
    configuring.clock.set = true ∧ (configuring.room 0).isOpen = true ∧
    (∀ e, e ∈ ({ configuring with site := { configuring.site with rooms := [] } } : State).site.rooms →
      e.2.isOpen = false) ∧ State.reset.clock.set = false ∧ State.reset.serving = false) ∧
    State.reset.ready .c .openDevice :=
  ⟨ready_of (by decide +kernel), by decide +kernel, ready_of (by decide +kernel), ready_of (by decide +kernel),
    ready_of (by decide +kernel), by decide +kernel, ready_of (by decide +kernel)⟩

theorem met_ClockRanges : demo.ready .a (.setTime 7 0 0) ∧ demo.ready .a (.setTime 0 1440 0) ∧
    demo.ready .a (.setTime 0 0 60) ∧ demo.ready .a (.adjustTimeForward 0) ∧ demo.ready .a (.adjustTimeForward 16) ∧
    demo.ready .a (.adjustTimeBackward 0) ∧ demo.ready .a (.adjustTimeBackward 16) :=
  ⟨ready_of (by decide +kernel), ready_of (by decide +kernel), ready_of (by decide +kernel),
    ready_of (by decide +kernel), ready_of (by decide +kernel), ready_of (by decide +kernel),
    ready_of (by decide +kernel)⟩

theorem met_ClockCommands : demo.outstanding = [] ∧ demo.clock.oldDay = false ∧ demo.ready .a (.setMinuteSync true) ∧
    demo.ready .a (.setTime 6 1439 59) ∧ demo.serving = true ∧ configuring.ready .a (.setTime 6 1439 59) ∧
    configuring.serving = false ∧ demo.ready .a (.adjustTimeForward 15) ∧ demo.clock.set = true ∧
    demo.clock.minute < 1440 ∧ State.reset.ready .c (.adjustTimeForward 1) ∧ State.reset.clock.set = false ∧
    demo.ready .a (.adjustTimeBackward 15) ∧ State.reset.ready .c (.adjustTimeBackward 1) :=
  ⟨by decide +kernel, by decide +kernel, ready_of (by decide +kernel), ready_of (by decide +kernel), by decide +kernel,
    ready_of (by decide +kernel), by decide +kernel, ready_of (by decide +kernel), by decide +kernel,
    by decide +kernel, ready_of (by decide +kernel), by decide +kernel, ready_of (by decide +kernel),
    ready_of (by decide +kernel)⟩

/-- Seconds 58, 59, 29 and 30, where the clauses meet. -/
theorem met_ClockTicks : State.reset.clock.set = false ∧ demo.clock.set = true ∧ 58 < 59 ∧ 59 ≤ 59 ∧
    State.reset.clock.syncEnabled = false ∧ demo.clock.syncEnabled = true ∧ 29 < 30 ∧ 30 ≤ demo.clock.seconds := by
  decide +kernel

def noSensor (s : State) : Prop := ∀ r, (s.room r).options.sensorCheckin = false

theorem demo_noSensor : noSensor demo :=
  rooms_of (P := fun v => v.options.sensorCheckin = false) (by decide) (by decide +kernel)

def timed : State := demo.setVacancy 1 ⟨some ⟨2, 0⟩, 3⟩

theorem met_MinuteAdvanceMarksDeadlines : (timed.clock.set = true ∧ timed.clock.minute < 1440 ∧
    timed.clock.oldDay = false ∧ timed.outstanding = []) ∧ timed.tablesOk ∧ noSensor timed ∧
    (timed.vacancy 1).subject = some ⟨2, 0⟩ ∧ timed.rec? 0 = some heldRec ∧ timed.order? 0 = some acceptedOrder ∧
    timed.waitEntry? 0 = some (waiting 1 none) :=
  ⟨by decide +kernel, tablesOk_of (by decide +kernel),
    rooms_of (P := fun v => v.options.sensorCheckin = false) (by decide) (by decide +kernel), by decide +kernel⟩

def timedAtEnd : State := { timed with clock := ⟨1, 620, 0, true, true, false⟩ }

/-- R92: the covering booking is the subject; at its end minute the subject stays, and a CONFIRMED one is none. -/
theorem met_VacancySubject :
    ((2, arrivedRec) ∈ timed.liveRecs ∧ ∀ e, e ∈ timed.liveRecs → e.2.room = 1 → e.2.state = .arrived →
      e = (2, arrivedRec)) ∧ arrivedRec.start ≤ timed.currentSlot ∧ timed.currentSlot < arrivedRec.stop ∧
    (∀ e, e ∈ timedAtEnd.liveRecs → e.2.state = .arrived → e.2.stop ≤ timedAtEnd.currentSlot) ∧
    arrivedRec.stop = timedAtEnd.currentSlot ∧ timedAtEnd.vacancySubject 1 = some ⟨2, 0⟩ ∧
    (demo.vacancy 1).subject = none ∧ demo.location 0 = some ⟨0, 1⟩ ∧
    (demo.setVacancy 0 ⟨some ⟨1, 0⟩, 3⟩).vacancySubject 0 = none := by decide +kernel

/-- Midnight with nothing left on plane 0. -/
def midnight : State := { demo with
  clock := ⟨6, 1440, 0, true, false, true⟩
  book := { demo.book with pool := [(3, ⟨0, some blockRec⟩)] }
  plan := { demo.plan with orders := [] } }

theorem met_RolloverRenumbers : demo.clock.oldDay = false ∧ midnight.clock.oldDay = true ∧ midnight.outstanding = [] ∧
    midnight.tablesOk ∧ noSensor midnight ∧ (∀ i r, midnight.rec? i = some r → 1 ≤ r.plane) ∧
    midnight.servedOrders = [] ∧ midnight.monitor.autoSnapshot = true :=
  ⟨by decide +kernel, by decide +kernel, by decide +kernel, tablesOk_of (by decide +kernel), demo_noSensor,
    recs_of (P := fun _ r => 1 ≤ r.plane) (by decide +kernel), by decide +kernel⟩

/-- Midnight with records of plane 0 left and no order, and midnight with one DELIVERED order of plane 0. -/
def midnightLeft : State := { midnight with
  book := { demo.book with pool := [(0, ⟨0, some heldRec⟩), (3, ⟨0, some blockRec⟩)] }
  wait := { pool := [], order := [], fates := [] } }
def midnightServed : State := { midnight with
  plan := { midnight.plan with orders := [(0, ⟨0, some { acceptedOrder with state := .delivered, deadline := none }⟩)] }
  monitor := { midnight.monitor with autoSnapshot := false } }

theorem met_RolloverFinishesAndFrees :
    (midnightLeft.clock.oldDay = true ∧ midnightLeft.outstanding = [] ∧ midnightLeft.tablesOk ∧
      noSensor midnightLeft ∧ midnightLeft.wait.order = [] ∧ (∀ j, midnightLeft.order? j = none) ∧
      (∀ i r, midnightLeft.rec? i = some r → r.room < 160 ∧ r.order = none) ∧
      midnightLeft.rec? 0 = some heldRec ∧ midnightLeft.rec? 3 = some blockRec ∧
      midnightLeft.entriesOfToday.length ≤ 256) ∧
    (midnightServed.outstanding = [] ∧ midnightServed.tablesOk ∧ midnightServed.monitor.autoSnapshot = false ∧
      midnightServed.servedOrders = [0] ∧ midnightServed.book.ring.length < 256) :=
  ⟨⟨by decide +kernel, by decide +kernel, tablesOk_of (by decide +kernel), demo_noSensor, by decide +kernel,
    fun _ => rfl, recs_of (P := fun _ r => r.room < 160 ∧ r.order = none) (by decide +kernel), by decide +kernel,
    by decide +kernel, by decide +kernel⟩,
    ⟨by decide +kernel, tablesOk_of (by decide +kernel), by decide +kernel⟩⟩

def dueRec (r : Rec) : Rec := { r with deadline := { r.deadline with due := true } }

/-- One witness for each of the five deadlines that finish a record: a hold, a grace end at a LINKED panel, an
UNVERIFIED end, and the ends of a booking and of a block. -/
theorem met_DeadlinesThatFinish :
    (∀ i r, (i, r) ∈ [(0, dueRec heldRec), (1, dueRec confirmedRec), (2, dueRec arrivedRec), (3, dueRec blockRec)] →
      (demoWith i r).rec? i = some r ∧ r.deadline.due = true ∧ r.order = none) ∧
    clockFinish (demoWith 0 (dueRec heldRec)) 0 (dueRec heldRec) (.holdEnd 0) .expired ∧
    clockFinish (demoWith 1 (dueRec confirmedRec)) 1 (dueRec confirmedRec) (.graceEnd 1) .released ∧
    clockFinish demo 1 { confirmedRec with deadline := ⟨.unverifiedEnd, 625, true⟩ } (.unverifiedEnd 1) .ended ∧
    clockFinish (demoWith 2 (dueRec arrivedRec)) 2 (dueRec arrivedRec) (.endDeadline 2) .ended ∧
    clockFinish (demoWith 3 (dueRec blockRec)) 3 (dueRec blockRec) (.endDeadline 3) .removed := by
  refine ⟨?_, .inl (by decide +kernel), .inr (.inl (by decide +kernel)), .inr (.inr (.inl (by decide +kernel))),
    .inr (.inr (.inr (by decide +kernel))), .inr (.inr (.inr (by decide +kernel)))⟩
  intro i r h
  simp only [List.mem_cons, Prod.mk.injEq, List.not_mem_nil, or_false] at h
  rcases h with ⟨rfl, rfl⟩ | ⟨rfl, rfl⟩ | ⟨rfl, rfl⟩ | ⟨rfl, rfl⟩ <;> decide +kernel

theorem met_OrderFollowsFinish :
    (demoWith 4 (dueRec cateredRec)).rec? 4 = some (dueRec cateredRec) ∧ (dueRec cateredRec).deadline.due = true ∧
    clockFinish (demoWith 4 (dueRec cateredRec)) 4 (dueRec cateredRec) (.holdEnd 4) .expired ∧
    (dueRec cateredRec).order = some ⟨0, 0⟩ ∧
    Pool.named? (demoWith 4 (dueRec cateredRec)).plan.orders ⟨0, 0⟩ = some acceptedOrder ∧
    acceptedOrder.state = .accepted ∧ preparingOrder.state = .preparing :=
  ⟨by decide +kernel, by decide +kernel, .inl (by decide +kernel), by decide +kernel⟩

/-- An ARRIVED booking of room 1 that covers the current slot and carries an order, with twenty vacancy minutes. -/
def arrivedCatered : Rec := { arrivedRec with order := some ⟨1, 0⟩ }
def cateredVacated : State := (demoWith 2 arrivedCatered).setVacancy 1 ⟨some ⟨2, 0⟩, 20⟩

/-- CANCEL, a forced close of room 0 with its one record, END_NOW and the vacancy timer, each on a booking with an
order. -/
theorem met_OrderFollowsOtherFinishes :
    (demo.ready .a (.cancel ⟨4, 0⟩ cateredRec.rev) ∧ Pool.named? demo.book.pool ⟨4, 0⟩ = some cateredRec ∧
      cateredRec.order = some ⟨0, 0⟩ ∧ Pool.named? demo.plan.orders ⟨0, 0⟩ = some acceptedOrder) ∧
    ((demo.setPool [(4, ⟨0, some cateredRec⟩)]).ready .a (.closeRoomForce 0) ∧
      (demo.setPool [(4, ⟨0, some cateredRec⟩)]).roomRecs 0 = [(4, cateredRec)] ∧
      Table.wf PoolEntry.fresh (demo.setPool [(4, ⟨0, some cateredRec⟩)]).book.pool = true ∧
      (demo.setPool [(4, ⟨0, some cateredRec⟩)]).exhausted = false) ∧
    (cateredVacated.coveringArrived 1 = some (2, arrivedCatered) ∧
      Pool.named? cateredVacated.plan.orders ⟨1, 0⟩ = some preparingOrder) ∧
    (20 ≤ (cateredVacated.vacancy 1).minutes ∧ (cateredVacated.vacancy 1).subject = some ⟨2, 0⟩ ∧
      Pool.named? cateredVacated.book.pool ⟨2, 0⟩ = some arrivedCatered) :=
  ⟨⟨ready_of (by decide +kernel), by decide +kernel⟩, ⟨ready_of (by decide +kernel), by decide +kernel⟩,
    by decide +kernel, by decide +kernel⟩

theorem met_DeadlinesThatGoOn :
    ((demoWith 5 (dueRec lockedRec)).rec? 5 = some (dueRec lockedRec) ∧ (dueRec lockedRec).deadline.due = true ∧
      (dueRec lockedRec).deadline.kind = .arrival) ∧
    (((demoWith 1 (dueRec confirmedRec)).setLocation 0 none).rec? 1 = some (dueRec confirmedRec) ∧
      (dueRec confirmedRec).deadline.kind = .graceEnd ∧
      (((demoWith 1 (dueRec confirmedRec)).setLocation 0 none).room 0).unitId ≠ none ∧
      ((demoWith 1 (dueRec confirmedRec)).setLocation 0 none).linkedPosition? 0 = none) ∧
    ((demo.setDisplay 0 ⟨Content.closed, some ⟨600, true⟩⟩).display 0).deadline = some ⟨600, true⟩ ∧
    (∀ r, demo.rec? 0 = some r → r.deadline.due = false) ∧
    (∀ o d, demo.order? 0 = some o → o.deadline = some d → d.due = false) ∧
    (∀ e, demo.waitEntry? 0 = some e → e.due = false) ∧ (demo.display 0).deadline = none ∧
    (timed.vacancy 1).minutes < 20 := by
  refine ⟨by decide +kernel, by decide +kernel, by decide +kernel, ?_, ?_, ?_, by decide +kernel, by decide +kernel⟩
  · intro r hr; cases hr; rfl
  · intro o d ho hd; cases ho; cases hd; rfl
  · intro e he; cases he; rfl

/-- R121, R122, R124: room 1 has a current and a next booking, room 3 a block next, room 2 is CLOSED; 630 is the least
candidate of room 1, 23:45 of the day before the block of room 3. -/
theorem met_DisplayClauses :
    demo.serving = true ∧ configuring.serving = false ∧ (demo.room 1).isOpen = true ∧ (demo.room 2).isOpen = false ∧
    ((2, arrivedRec) ∈ demo.liveRecs ∧ ∀ e, e ∈ demo.liveRecs → e.2.room = 1 → e.2.plane = 0 →
      e.2.start ≤ demo.currentSlot → demo.currentSlot < e.2.stop → e = (2, arrivedRec)) ∧
    ((0, heldRec) ∈ demo.liveRecs ∧ ∀ e, e ∈ demo.liveRecs → e.2.room = 1 → e.2.plane ≤ 1 →
      demo.now < e.2.startMinute → e = (0, heldRec) ∨ heldRec.startMinute < e.2.startMinute) ∧
    (∀ e, e ∈ demo.liveRecs → e.2.room = 3 → e = (3, blockRec)) ∧ demo.now < blockRec.startMinute ∧
    demo.contentOf 1 = ⟨.busy, some ⟨arrivedRec.label, arrivedRec.organizer, 620⟩, some ⟨0, 650, heldRec.label⟩, .none⟩ ∧
    demo.displayDeadlineOf 1 = some ⟨620, false⟩ ∧ demo.displayDeadlineOf 3 = some ⟨1475, false⟩ := by
  decide +kernel

def vacated : State := demo.setVacancy 1 ⟨some ⟨2, 0⟩, 20⟩

theorem met_ExpiryAndAutoEnd :
    (demo.addEntry 5 { waiting 1 none with due := true }).waitEntry? 5 = some { waiting 1 none with due := true } ∧
    20 ≤ (vacated.vacancy 1).minutes ∧ (vacated.vacancy 1).subject = some ⟨2, 0⟩ ∧
    Pool.named? vacated.book.pool ⟨2, 0⟩ = some arrivedRec ∧ arrivedRec.order = none := by decide +kernel

def dueOrderRec (o : Order) : Order := { o with deadline := o.deadline.map (fun d => { d with due := true }) }

theorem met_OrderDeadlines :
    ((demoOrder 0 (dueOrderRec acceptedOrder)).order? 0 = some (dueOrderRec acceptedOrder) ∧
      (dueOrderRec acceptedOrder).deadline = some ⟨.cutoff, 630, true⟩ ∧
      Pool.named? demo.book.pool ⟨4, 0⟩ = some cateredRec ∧ cateredRec.state = .held ∧ lockedRec.state ≠ .held) ∧
    (∀ k, demo.overWindows k = []) ∧
    ((demoOrder 1 (dueOrderRec preparingOrder)).order? 1 = some (dueOrderRec preparingOrder) ∧
      (dueOrderRec preparingOrder).deadline = some ⟨.dispatch, 698, true⟩ ∧
      Pool.named? demo.book.pool ⟨5, 0⟩ = some lockedRec) ∧
    (dueOrderRec { preparingOrder with deadline := some ⟨.late, 725, false⟩ }).deadline =
      some ⟨.late, 725, true⟩ := by
  refine ⟨by decide +kernel, ?_, by decide +kernel, by decide +kernel⟩
  intro k
  simp [State.overWindows, demo, State.cold]

/-! Pools with no free entry. -/

theorem look_full {α : Type} (v : α) (n a i : Nat) (h : a ≤ i) (hi : i < a + n) :
    Table.look? ((List.range' a n).map (fun j => (j, v))) i = some v := by
  induction n generalizing a with
  | zero => omega
  | succ n ih =>
    simp only [List.range'_succ, List.map_cons, Table.look?]
    split
    · rfl
    · exact ih (a + 1) (by omega) (by omega)

def fullOf {α : Type} (n : Nat) (r : α) : Pool α := (List.range' 0 n).map (fun j => (j, ⟨0, some r⟩))

theorem item_full {α : Type} (n i : Nat) (r : α) (h : i < n) : Pool.item? (fullOf n r) i = some r := by
  simp [Pool.item?, Pool.entry, Table.read, fullOf, look_full _ n 0 i (Nat.zero_le _) (by omega)]

theorem live_full {α : Type} {n : Nat} {r : α} {e : Nat × α} (h : e ∈ Pool.live (fullOf n r)) : e.2 = r := by
  simp only [Pool.live, fullOf, List.mem_filterMap, List.mem_map] at h
  obtain ⟨x, ⟨j, _, rfl⟩, hx⟩ := h
  cases hx
  rfl

def bookFull : State := demo.setPool (fullOf 2048 heldRec)
def waitFull : State := { demo with wait := { demo.wait with pool := fullOf 64 (waiting 1 none) } }
def ordersFull : State := demo.setOrders (fullOf 512 acceptedOrder)

theorem bookFull_full (i : Nat) (h : i < 2048) : bookFull.rec? i ≠ none := by
  rw [show bookFull.rec? i = _ from item_full 2048 i heldRec h]; nofun
theorem waitFull_full (w : Nat) (h : w < 64) : waitFull.waitEntry? w ≠ none := by
  rw [show waitFull.waitEntry? w = _ from item_full 64 w _ h]; nofun
theorem ordersFull_full (j : Nat) (h : j < 512) : ordersFull.order? j ≠ none := by
  rw [show ordersFull.order? j = _ from item_full 512 j _ h]; nofun
theorem bookFull_free (plane lo hi : Nat) : bookFull.freeRun 3 plane lo hi none := by
  intro e he hr
  rw [live_full (n := 2048) (r := heldRec) he] at hr
  exact absurd hr (by decide)

/-- A hold of room 3 of the greatest length and with as many attendees as seats. -/
def longHold : HoldArgs :=
  { room := 3, plane := 0, start := 600, stop := 1320, attendees := 20, organizer := 7, label := 9, holdMinutes := 255
    cater := none, waitIfBusy := true }

theorem met_HoldCreatesBooking : demo.ready .a (.hold longHold) ∧ 600 / 5 < (1320 + 4) / 5 ∧
    (1320 + 4) / 5 - 600 / 5 ≤ 144 ∧ ((demo.room 2).isOpen = false ∧ (demo.room 3).isOpen = true ∧
    ¬ (0 = 0 ∧ 600 / 5 < demo.currentSlot) ∧ 599 / 5 < demo.currentSlot ∧ (demo.room 3).seats < 21 ∧
    20 ≤ (demo.room 3).seats) ∧ isLowestFree demo.book.pool 2048 6 ∧ demo.freeRun 3 0 120 264 none :=
  ⟨ready_of (by decide +kernel), by decide, by decide, by decide +kernel, lowest_of (by decide +kernel),
    freeRun_of (by decide +kernel)⟩

def addArgs : WaitAddArgs :=
  { rooms := [3, 1], plane := 0, start := 720, stop := 740, flex := 24, attendees := 20, organizer := 7, label := 9
    expiry := some (0, 720), cater := none }

theorem met_RefusedPlacementsAndBusyHolds :
    (demo.ready .a (.hold { longHold with room := 160 }) ∧ 159 < 160) ∧
    (demo.ready .a (.hold { longHold with stop := 1321 }) ∧ 144 < (1321 + 4) / 5 - 600 / 5) ∧
    (demo.ready .a (.block ⟨3, 8, 600, 660, 0, 0⟩) ∧ 7 < 8) ∧
    (demo.ready .a (.waitAdd { addArgs with flex := 25 }) ∧ 24 < 25) ∧
    (demo.firstConflict 3 1 15 16 none = some 3 ∧ demo.ready .a (.hold longHold)) ∧
    (bookFull.ready .a (.hold longHold) ∧ bookFull.freeRun 3 0 120 264 none ∧
      ∀ i, i < 2048 → bookFull.rec? i ≠ none) ∧
    (∀ w, w < 64 → waitFull.waitEntry? w ≠ none) ∧ isLowestFree demo.wait.pool 64 3 :=
  ⟨⟨ready_of (by decide +kernel), by decide⟩, ⟨ready_of (by decide +kernel), by decide⟩,
    ⟨ready_of (by decide +kernel), by decide⟩, ⟨ready_of (by decide +kernel), by decide⟩,
    ⟨by decide +kernel, ready_of (by decide +kernel)⟩,
    ⟨ready_of (by decide +kernel), bookFull_free 0 120 264, bookFull_full⟩, waitFull_full, lowest_of (by decide +kernel)⟩

theorem met_ConfirmAndModify :
    (demo.ready .a (.confirm ⟨0, 0⟩ heldRec.rev) ∧ Pool.named? demo.book.pool ⟨0, 0⟩ = some heldRec ∧
      heldRec.state = .held ∧ (demo.room 1).options.checkinRequired = false) ∧
    (demo.ready .a (.confirm ⟨4, 0⟩ cateredRec.rev) ∧ (demo.room 0).options.checkinRequired = true) ∧
    (demo.ready .a (.confirm ⟨1, 0⟩ confirmedRec.rev) ∧ confirmedRec.state ≠ .held) ∧
    (demo.ready .a (.modify ⟨0, 0⟩ heldRec.rev ⟨some 9, some 7, some 5⟩) ∧
      demo.ready .a (.modify ⟨0, 0⟩ heldRec.rev ⟨none, none, some 20⟩) ∧ 20 ≤ (demo.room 1).seats ∧
      (demo.room 1).seats < 21 ∧ some 20 ≠ heldRec.attendees) :=
  ⟨⟨ready_of (by decide +kernel), by decide +kernel⟩, ⟨ready_of (by decide +kernel), by decide +kernel⟩,
    ⟨ready_of (by decide +kernel), by decide +kernel⟩, ready_of (by decide +kernel), ready_of (by decide +kernel),
    by decide +kernel⟩

/-- A booking that may not move, one moved to where it stands, one moved to room 3, one with catering in preparation, and
one that drops its ACCEPTED order. -/
theorem met_MoveRelocates :
    (demo.ready .a (.move ⟨2, 0⟩ arrivedRec.rev ⟨some 3, none, none, false⟩) ∧ arrivedRec.state ≠ .held ∧
      arrivedRec.state ≠ .confirmed) ∧
    (demo.ready .a (.move ⟨0, 0⟩ heldRec.rev ⟨some 1, none, none, false⟩) ∧ heldRec.state = .held ∧
      demo.freeRun 1 0 130 136 (some 0)) ∧
    (demo.ready .a (.move ⟨0, 0⟩ heldRec.rev ⟨some 3, none, none, false⟩) ∧ heldRec.order = none ∧
      (demo.room 3).isOpen = true ∧ ¬ (0 = 0 ∧ 130 < demo.currentSlot) ∧ demo.freeRun 3 0 130 136 (some 0)) ∧
    (demo.ready .a (.move ⟨5, 0⟩ lockedRec.rev ⟨some 3, none, none, false⟩) ∧ lockedRec.order = some ⟨1, 0⟩ ∧
      Pool.named? demo.plan.orders ⟨1, 0⟩ = some preparingOrder ∧ demo.freeRun 3 0 150 156 (some 5)) ∧
    (demo.ready .a (.move ⟨4, 0⟩ cateredRec.rev ⟨some 3, none, none, true⟩) ∧ cateredRec.order = some ⟨0, 0⟩ ∧
      Pool.named? demo.plan.orders ⟨0, 0⟩ = some acceptedOrder ∧ demo.freeRun 3 0 144 150 (some 4)) :=
  ⟨⟨ready_of (by decide +kernel), by decide +kernel⟩,
    ⟨ready_of (by decide +kernel), by decide +kernel, freeRun_of (by decide +kernel)⟩,
    ⟨ready_of (by decide +kernel), by decide +kernel, by decide +kernel, by decide +kernel,
      freeRun_of (by decide +kernel)⟩,
    ⟨ready_of (by decide +kernel), by decide +kernel, by decide +kernel, freeRun_of (by decide +kernel)⟩,
    ⟨ready_of (by decide +kernel), by decide +kernel, by decide +kernel, freeRun_of (by decide +kernel)⟩⟩

def movedTo (room start stop : Nat) (drop : Bool) : MoveArgs := ⟨some room, none, some (5 * start, 5 * stop), drop⟩

/-- A move to a closed room, to a start that has passed, to a room with 4 seats, and onto another record. -/
theorem met_MoveRefusals :
    (demo.ready .a (.move ⟨0, 0⟩ heldRec.rev (movedTo 2 130 136 false)) ∧ (demo.room 2).isOpen = false) ∧
    (demo.ready .a (.move ⟨0, 0⟩ heldRec.rev (movedTo 3 119 125 false)) ∧ 119 < demo.currentSlot ∧
      (demo.room 3).isOpen = true) ∧
    ((demo.setRoom 3 { demo.room 3 with seats := 4 }).ready .a (.move ⟨0, 0⟩ heldRec.rev (movedTo 3 130 136 false)) ∧
      ((demo.setRoom 3 { demo.room 3 with seats := 4 }).room 3).seats < 5 ∧ heldRec.attendees = some 5) ∧
    (demo.ready .a (.move ⟨0, 0⟩ heldRec.rev (movedTo 1 148 152 false)) ∧
      demo.firstConflict 1 0 148 152 (some 0) = some 5 ∧ 5 ≤ (demo.room 1).seats) :=
  ⟨⟨ready_of (by decide +kernel), by decide +kernel⟩, ⟨ready_of (by decide +kernel), by decide +kernel⟩,
    ⟨ready_of (by decide +kernel), by decide +kernel⟩, ⟨ready_of (by decide +kernel), by decide +kernel⟩⟩

/-- An ACCEPTED order tested again, where the test gives the order as it is and where it fails; an order in preparation
kept at a move within one building that keeps plane and start; and one dropped. -/
theorem met_MoveWithOrder :
    (∃ m, (demo.withoutShares acceptedOrder).admission false 3 720 acceptedOrder.request = .ok m) ∧
    (demo.withoutShares acceptedOrder).admission false 3 650 acceptedOrder.request = .error .tooSoon ∧
    (demo.ready .a (.move ⟨5, 0⟩ lockedRec.rev (movedTo 1 150 154 false)) ∧ demo.freeRun 1 0 150 154 (some 5) ∧
      (lockedRec.state = .confirmed ∧ lockedRec.flags.unverified = false)) ∧
    (demo.ready .a (.move ⟨5, 0⟩ lockedRec.rev (movedTo 3 150 156 true)) ∧ demo.freeRun 3 0 150 156 (some 5)) :=
  ⟨⟨_, rfl⟩, rfl, ⟨ready_of (by decide +kernel), freeRun_of (by decide +kernel), by decide⟩,
    ⟨ready_of (by decide +kernel), freeRun_of (by decide +kernel)⟩⟩

theorem met_CancelAndUnblock :
    (demo.ready .a (.cancel ⟨0, 0⟩ heldRec.rev) ∧ Pool.named? demo.book.pool ⟨0, 0⟩ = some heldRec ∧
      heldRec.order = none) ∧
    (demo.ready .c (.unblock ⟨3, 0⟩ blockRec.rev) ∧ Pool.named? demo.book.pool ⟨3, 0⟩ = some blockRec ∧
      blockRec.order = none) :=
  ⟨⟨ready_of (by decide +kernel), by decide +kernel⟩, ⟨ready_of (by decide +kernel), by decide +kernel⟩⟩

theorem met_BlockCreatesBlock :
    (demo.ready .c (.block ⟨2, 0, 600, 605, 7, 9⟩) ∧ (demo.room 2).isOpen = false) ∧
    (demo.ready .c (.block ⟨3, 0, 595, 605, 7, 9⟩) ∧ 595 / 5 < demo.currentSlot) ∧
    (demo.ready .c (.block ⟨3, 1, 95, 105, 7, 9⟩) ∧ demo.firstConflict 3 1 19 21 none = some 3) ∧
    (bookFull.ready .c (.block ⟨3, 7, 1435, 1440, 7, 9⟩) ∧ bookFull.freeRun 3 7 287 288 none) ∧
    (demo.ready .c (.block ⟨3, 7, 1435, 1440, 7, 9⟩) ∧ demo.freeRun 3 7 287 288 none ∧
      isLowestFree demo.book.pool 2048 6) :=
  ⟨⟨ready_of (by decide +kernel), by decide +kernel⟩, ⟨ready_of (by decide +kernel), by decide +kernel⟩,
    ⟨ready_of (by decide +kernel), by decide +kernel⟩, ⟨ready_of (by decide +kernel), bookFull_free 7 287 288⟩,
    ⟨ready_of (by decide +kernel), freeRun_of (by decide +kernel), lowest_of (by decide +kernel)⟩⟩

def listingDemo : State := { demo with book := { demo.book with listings := ⟨some ⟨10, 4, false⟩, none, none⟩ } }

theorem met_ListingBatches : demo.ready .a .listNext ∧ demo.book.listings.at .a = none ∧
    listingDemo.ready .a .listNext ∧ listingDemo.book.listings.at .a = some ⟨10, 4, false⟩ ∧
    demo.ready .a (.listChanges 11) ∧ demo.book.rev < 11 ∧ demo.ready .a (.listChanges 10) ∧ 10 ≤ demo.book.rev :=
  ⟨ready_of (by decide +kernel), by decide +kernel, ready_of (by decide +kernel), by decide +kernel,
    ready_of (by decide +kernel), by decide +kernel, ready_of (by decide +kernel), by decide +kernel⟩

theorem met_WaitlistCommands :
    (demo.ready .a (.waitAdd addArgs) ∧ addArgs.rooms.Nodup ∧ (0 : Int) * 1440 + 720 ≤ 0 * 1440 + 5 * (720 / 5) ∧
      ¬ (addArgs.plane = 0 ∧ 720 / 5 < demo.currentSlot) ∧ 20 ≤ (demo.room 3).seats ∧ (demo.room 3).seats < 21 ∧
      599 / 5 < demo.currentSlot) ∧
    (∀ w, w < 64 → waitFull.waitEntry? w ≠ none) ∧ isLowestFree demo.wait.pool 64 3 ∧
    (demo.ready .a (.waitRemove ⟨63, 0⟩) ∧ Pool.named? demo.wait.pool ⟨63, 0⟩ = none) ∧
    (demo.ready .b (.waitRemove ⟨0, 0⟩) ∧ Pool.named? demo.wait.pool ⟨0, 0⟩ = some (waiting 1 none)) :=
  ⟨⟨ready_of (by decide +kernel), by decide +kernel⟩, waitFull_full, lowest_of (by decide +kernel),
    ⟨ready_of (by decide +kernel), by decide +kernel⟩, ⟨ready_of (by decide +kernel), by decide +kernel⟩⟩

def lateWait : WaitEntry := { waiting 3 (some ⟨.kitchen 0, 0, 5, -10⟩) with earliest := 144, expiry := 720 }

theorem bookFull_slot (start : Nat) (h : 120 ≤ start) (h2 : start ≤ 284) :
    placementFits bookFull (waiting 3 none) 3 start :=
  ⟨by decide +kernel, by decide +kernel, by rintro ⟨-, hs⟩; have : bookFull.currentSlot = 120 := rfl; omega,
    by show start + 4 ≤ 288; omega, bookFull_free _ _ _⟩

/-- An entry with no placement, one placed without catering, one whose catering is too soon, and one whose catering is
admitted. -/
theorem met_PromotionTakesFirstFit : (demo.waitEntry? 3 = none ∧ demo.waitEntry? 0 = some (waiting 1 none) ∧
    demo.placement (waiting 1 none) = none ∧ demo.waitEntry? 1 = some (waiting 3 none) ∧
    (demo.port .a).roles.sched = true ∧ demo.placement (waiting 3 none) = some (3, 130)) ∧
    placementFits bookFull (waiting 3 none) 3 130 ∧ isLowestFree demo.book.pool 2048 6 ∧
    demo.admission true 3 (0 * 1440 + 5 * 130) ⟨.kitchen 0, 0, 5, 0⟩ = .error .tooSoon ∧
    demo.placement lateWait = some (3, 144) ∧
    (∃ m, demo.admission true 3 (0 * 1440 + 5 * 144) ⟨.kitchen 0, 0, 5, -10⟩ = .ok m) ∧
    isLowestFree demo.plan.orders 512 2 :=
  ⟨by decide +kernel,
    bookFull_slot 130 (by decide) (by decide), lowest_of (by decide +kernel), rfl, by decide +kernel, ⟨_, rfl⟩,
    lowest_of (by decide +kernel)⟩

/-- A check-in before, and in, its window; extensions with room for three slots, at the eighth, and with no room. -/
theorem met_CheckInAndExtend :
    (demo.ready .a (.checkIn ⟨0, 0⟩ heldRec.rev) ∧ heldRec.state ≠ .confirmed) ∧
    (demo.ready .a (.checkIn ⟨5, 0⟩ lockedRec.rev) ∧ lockedRec.state = .confirmed ∧
      demo.now < lockedRec.startMinute - 10) ∧
    (demo.ready .a (.checkIn ⟨1, 0⟩ confirmedRec.rev) ∧ confirmedRec.startMinute - 10 ≤ demo.now) ∧
    (demo.ready .a (.extend ⟨2, 0⟩ arrivedRec.rev) ∧ arrivedRec.state = .arrived ∧ arrivedRec.extensions < 8 ∧
      demo.following 2 arrivedRec = some (0, heldRec) ∧ min (arrivedRec.stop + 3 + arrivedRec.clear) 288 ≤ heldRec.padStart) ∧
    (8 ≤ { arrivedRec with extensions := 8 }.extensions ∧
      ¬ min ({ arrivedRec with stop := 130 }.stop + 1 + arrivedRec.clear) 288 ≤ heldRec.padStart) :=
  ⟨⟨ready_of (by decide +kernel), by decide +kernel⟩, ⟨ready_of (by decide +kernel), by decide +kernel⟩,
    ⟨ready_of (by decide +kernel), by decide +kernel⟩, ⟨ready_of (by decide +kernel), by decide +kernel⟩,
    by decide +kernel⟩

/-- The door of room 0 with sensor check-in, an OCCUPIED panel and one CONFIRMED booking. -/
def doorDemo : State :=
  let s := demo.setPool [(1, ⟨0, some confirmedRec⟩), (2, ⟨0, some arrivedRec⟩)]
  s.setRoom 0 (testRoom 0 (some 100) ⟨true, true, true, false⟩)

theorem met_DoorActs :
    (doorDemo.clock.set = true ∧ doorDemo.clock.minute < 1439 ∧ doorDemo.clock.oldDay = false ∧
      doorDemo.outstanding = [] ∧ doorDemo.serving = true ∧ doorDemo.linkedPosition? 0 = some linkedPanel ∧
      linkedPanel.debounced = some .occupied ∧ doorDemo.rec? 1 = some confirmedRec ∧
      confirmedRec.openingMinute ≤ (doorDemo.clock.minute : Int) + 1 ∧
      (doorDemo.clock.minute : Int) + 1 < confirmedRec.deadline.minute) ∧
    doorDemo.tablesOk ∧ (∀ k, (doorDemo.room k).options.sensorCheckin = decide (k = 0)) ∧
    (∀ j b, doorDemo.rec? j = some b → b.room = 0 → j = 1) ∧
    (((1, confirmedRec) ∈ demo.liveRecs ∧ demo.windowOpen confirmedRec = true ∧
      ∀ e, e ∈ demo.liveRecs → e.2.room = 0 → demo.windowOpen e.2 = true → e = (1, confirmedRec)) ∧
    (∀ e, e ∈ demo.liveRecs → e.2.room = 3 → demo.windowOpen e.2 = false) ∧ demo.coveringArrived 3 = none ∧
    (demo.coveringArrived 1 = some (2, arrivedRec) ∧ arrivedRec.order = none) ∧
    demo.walkupSpan 3 = some 126) ∧ isLowestFree demo.book.pool 2048 6 := by
  refine ⟨by decide +kernel, tablesOk_of (by decide +kernel), ?_, recs_of (P := fun j b => b.room = 0 → j = 1)
    (by decide +kernel), by decide +kernel, lowest_of (by decide +kernel)⟩
  intro k
  match k with
  | 0 | 1 | 2 | 3 => decide +kernel
  | k + 4 =>
    have : doorDemo.room (k + 4) = Room.cold := by
      simp [State.room, doorDemo, demo, State.cold, State.setRoom, State.setPool, Table.read, Table.look?, Table.write,
        Table.put, testRoom, Room.cold]
    rw [this]
    simp [Room.cold, RoomOptions.cold]

/-- A press of EXTEND on the covering booking with room for three slots, of DELIVERED on a linked booking that is next,
and on a room with none; a walk-up that ends after six slots and one that does not fit. -/
theorem met_DoorKeys :
    (demo.coveringArrived 1 = some (2, arrivedRec) ∧ demo.following 2 arrivedRec = some (0, heldRec) ∧
      arrivedRec.stop + 3 ≤ heldRec.padStart) ∧
    ((∀ e, e ∈ demo.liveRecs → e.2.room = 1 → e.2.order ≠ none → e = (5, lockedRec)) ∧
      demo.currentSlot < lockedRec.start ∧ lockedRec.order = some ⟨1, 0⟩ ∧
      Pool.named? demo.plan.orders ⟨1, 0⟩ = some preparingOrder) ∧
    (∀ e, e ∈ demo.liveRecs → e.2.room = 3 → e.2.order = none) ∧
    ((∀ e, e ∈ demo.liveRecs → e.2.start < e.2.stop ∧ e.2.stop ≤ 288) ∧ demo.walkupSpan 3 = some 126 ∧
      demo.walkupSpan 0 = none) := by decide +kernel

/-- The last chain and the one past it; and the counts at which a window sets, keeps and clears DEGRADED. -/
theorem met_ChainCommandsAndErrorWindow : demo.ready .a (.readLinkCounters 3) ∧ demo.ready .a (.readLinkCounters 4) ∧
    demo.ready .a (.chainReset 3) ∧ demo.ready .a (.chainReset 4) ∧ demo.tablesOk ∧
    (48 ≤ 48 ∧ ¬ 48 ≤ 47 ∧ 12 ≤ 12 ∧ ¬ 12 ≤ 11) ∧
    ((∀ k, 1 ≤ k → k ≤ 40 → (demo.position 1 k).presence ≠ .linked) ∧ (demo.chain 1).degraded = false) :=
  ⟨ready_of (by decide +kernel), ready_of (by decide +kernel), ready_of (by decide +kernel),
    ready_of (by decide +kernel), tablesOk_of (by decide +kernel), by decide,
    ⟨fun k _ _ => by rw [show (demo.position 1 k).presence = .absent from rfl]; nofun, rfl⟩⟩

def enumReply (address : Byte) : UpFrame :=
  { cut := false, header := 4, kind := some .enumReply, rerr := false, address := address, length := 4
    payload := [0, 0, 0, 7], check := crc16 [4, address, 4, 0, 0, 0, 7], sensor := .none, key := .none
    faults := ⟨false, false, false⟩ }

theorem demo_unitsDistinct : demo.unitsDistinct := by
  have h : ∀ r, (demo.room r).unitId ≠ none → r = 0 := by
    intro r
    match r with
    | 0 | 1 | 2 | 3 => decide +kernel
    | r + 4 =>
      have : demo.room (r + 4) = Room.cold := by simp [State.room, demo, State.cold, Table.read, Table.look?]
      rw [this]
      exact fun hn => absurd rfl hn
  intro r q v hr hq
  rw [h r (by rw [hr]; nofun), h q (by rw [hq]; nofun)]

theorem good_of {f : UpFrame} (h : (!f.cut && f.payload.length == f.length.toNat && f.kind != none &&
    decide (f.address.toNat ≤ 40) && decide (f.length.toNat ≤ 48) && (f.kind != some .enumReply || f.length == 4) &&
    (f.kind != some .rollReply || f.length == 6) && f.check == crc16 (f.header :: f.address :: f.length :: f.payload) &&
    !f.rerr) = true) : frameGood f := by
  simp only [Bool.and_eq_true, Bool.or_eq_true, Bool.not_eq_true', beq_iff_eq, bne_iff_ne, decide_eq_true_eq,
    and_assoc] at h
  obtain ⟨h1, h2, h3, h4, h5, h6, h7, h8, h9⟩ := h
  exact ⟨h1, h2, h3, h4, h5, fun k => h6.resolve_left (fun n => n k), fun k => h7.resolve_left (fun n => n k), h8, h9⟩

/-- A frame whose RERR bit is set, good and due frames from address 1 and from address 40 of a chain that enumerates, its
quiet timer, and a chain in WAIT with an enumeration pending. -/
theorem met_FramesAndEnumeration : ¬ frameGood { enumReply 1 with rerr := true } ∧ frameGood (enumReply 1) ∧
    frameGood (enumReply 40) ∧ frameDue (demo.chain 3) (enumReply 1) ∧ frameDue (demo.chain 3) (enumReply 40) ∧
    (enumReply 1).address.toNat ≠ 40 ∧ (enumReply 40).address.toNat = 40 ∧ demo.tablesOk ∧ demo.unitsDistinct ∧
    (demo.chain 3).activity = .enumerating ∧ (demo.chain 3).quietAt = some 10 ∧
    (demo.chain 0).activity ≠ .enumerating ∧
    ((demoChain 0 { chainInWait with enumPending := true }).chain 0).activity = .wait ∧
    ((demoChain 0 { chainInWait with enumPending := true }).chain 0).enumPending = true :=
  ⟨fun h => (nomatch h.2.2.2.2.2.2.2.2), good_of (by decide +kernel), good_of (by decide +kernel),
    Or.inl (by decide +kernel), Or.inl (by decide +kernel), by decide, by decide, tablesOk_of (by decide +kernel),
    demo_unitsDistinct, by decide +kernel⟩

def inRound : State := demoChain 0 { chainInWait with
  activity := .rollcall, roundNow := 7, round := 8, lastAnswered := 0, roundTimeoutAt := some 110 }
def inSending : State := demoChain 0 { chainInWait with
  activity := .displaySend, positions := [(1, { linkedPanel with due := true }), (2, seekingPanel)] }
def rollFrame : UpFrame :=
  { cut := false, header := 5, kind := some .rollReply, rerr := false, address := 1, length := 6
    payload := [7, 1, 0, 2, 0, 0], check := crc16 [5, 1, 6, 7, 1, 0, 2, 0, 0], sensor := .occupied, key := .checkIn
    faults := ⟨false, false, false⟩ }

/-- The chain in its round with position 1 the last enumerated. -/
def lastTurn : Chain := { inRound.chain 0 with count := 1 }

theorem met_RoundsAndReplies :
    ((demo.chain 0).activity = .wait ∧ (demo.chain 0).enumPending = false ∧
      (demo.chain 0).nextRoundStart = some 2000 ∧ 0 < (demo.chain 0).count) ∧
    ((demoChain 0 { chainInWait with count := 0 }).chain 0).count = 0 ∧
    rollReply inRound 0 rollFrame 2 0 ∧ inRound.tablesOk ∧
    ((inRound.chain 0).activity = .rollcall ∧ (inRound.chain 0).roundTimeoutAt = some 110) ∧
    ((inSending.chain 0).activity = .displaySend ∧ (inSending.position 0 1).due = true ∧
      (∀ k, k < 1 → (inSending.position 0 k).due = false) ∧ inSending.tablesOk) ∧
    ((inRound.position 0 1).lastSeq = some 1 ∧ inRound.boundRoom 0 1 = some 0 ∧ (inRound.position 0 1).unitId ≠ none ∧
      rollFrame.address.toNat ≠ (inRound.chain 0).count) ∧
    (rollReply (demoChain 0 lastTurn) 0 rollFrame 2 0 ∧
      rollFrame.address.toNat = ((demoChain 0 lastTurn).chain 0).count) ∧
    (rollReply (demoChain 0 { lastTurn with positions := [] }) 0 rollFrame 2 0 ∧
      ((demoChain 0 { lastTurn with positions := [] }).position 0 1).unitId = none) := by
  have h : frameGood rollFrame := good_of (by decide +kernel)
  exact ⟨by decide +kernel, by decide +kernel,
    ⟨by decide, h, by decide, .inr (by decide +kernel), by decide +kernel, by decide +kernel⟩,
    tablesOk_of (by decide +kernel), by decide +kernel,
    ⟨by decide +kernel, by decide +kernel, by decide +kernel, tablesOk_of (by decide +kernel)⟩, by decide +kernel,
    ⟨⟨by decide, h, by decide, .inr (by decide +kernel), by decide +kernel, by decide +kernel⟩, by decide +kernel⟩,
    ⟨⟨by decide, h, by decide, .inr (by decide +kernel), by decide +kernel, by decide +kernel⟩, by decide +kernel⟩⟩

/-- Every field at the greatest value its rule gives, and a capacity one above 4095. -/
theorem met_KitchenSetup : demo.tablesOk ∧ demo.ready .a (.configKitchen 3 true 25) ∧
    demo.ready .a (.setCapacity 3 95 [4096]) ∧ 95 + [4096].length ≤ 96 ∧ demo.ready .a (.defineClass 15 63 16 50) ∧
    demo.ready .a (.setTransit 11 60 60 60 60) :=
  ⟨tablesOk_of (by decide +kernel), ready_of (by decide +kernel), ready_of (by decide +kernel), by decide,
    ready_of (by decide +kernel), ready_of (by decide +kernel)⟩

theorem met_KitchenRanges : demo.ready .a (.configKitchen 4 true 25) ∧ demo.ready .a (.configKitchen 3 true 26) ∧
    demo.ready .a (.setCapacity 0 0 []) ∧ demo.ready .a (.setCapacity 0 95 [1, 2]) ∧
    demo.ready .a (.defineClass 0 64 1 1) ∧ demo.ready .a (.setTransit 12 0 0 0 0) :=
  ⟨ready_of (by decide +kernel), ready_of (by decide +kernel), ready_of (by decide +kernel),
    ready_of (by decide +kernel), ready_of (by decide +kernel), ready_of (by decide +kernel)⟩

theorem met_LimitOfKitchen : (demo.kitchen 1).isOpen = false ∧ (demo.kitchen 0).isOpen = true ∧
    Table.read 0 demo.plan.profile (0 * 96 + 42 % 96) = 40 ∧ (demo.kitchen 0).overbook = 10 ∧
    (40, 10, 44) ∈ [(40, 10, 44), (33, 10, 36), (9, 25, 11), (3, 25, 3), (4095, 25, 5118)] := by decide +kernel

theorem met_SharesOfLoad : 1 ≤ 6 ∧ 3 < 6 ∧ 2 < 6 - 3 := by decide

/-- The first worked case of chapter 8: it passes with empty windows, is too soon at window 42, and fails at window 44
where 31 units are committed. -/
def firstCase : CaterRequest := ⟨.kitchen 0, 0, 36, -10⟩

theorem met_AdmissionDecides :
    (ordersFull.menuClass 0 = some ⟨15, 4, 1⟩ ∧ (720 : Int) + -10 ≤ 11519 ∧
      ∀ j, j < 512 → ordersFull.order? j ≠ none) ∧
    (demo.menuClass 0 = some ⟨15, 4, 1⟩ ∧ (∃ j, j < 512 ∧ demo.order? j = none) ∧
      firstCase.kitchen = .kitchen 0 ∧ ¬ (45 - 4 + 1 ≤ (demo.currentWindow : Int) ∨ (45 : Int) - 4 + 1 < 0)) ∧
    (∀ v, v ∈ sharesOf 30 4 45 → 1 ≤ v.2 → (demo.loadEntry 0 v.1.toNat).load + v.2 ≤ demo.limit 0 v.1.toNat) ∧
    (∃ pre w post, sharesOf 30 4 46 = pre ++ w :: post ∧ 1 ≤ w.2 ∧
      demo.limit 0 w.1.toNat < (demo.loadEntry 0 w.1.toNat).load + w.2 ∧
      ∀ v, v ∈ pre → 1 ≤ v.2 → (demo.loadEntry 0 v.1.toNat).load + v.2 ≤ demo.limit 0 v.1.toNat) :=
  ⟨⟨by decide +kernel, by decide, ordersFull_full⟩, ⟨by decide +kernel, ⟨2, by decide, rfl⟩, rfl, by decide +kernel⟩,
    by decide +kernel, ⟨[(43, 7), (44, 7), (45, 8)], (46, 8), [], by decide +kernel⟩⟩

theorem met_OrderCommands :
    (demo.ready .b (.caterOrder ⟨4, 0⟩ cateredRec.rev firstCase) ∧ demo.requestOut firstCase = false ∧
      cateredRec.order = some ⟨0, 0⟩) ∧
    ((demoWith 4 { cateredRec with order := none }).ready .b (.caterOrder ⟨4, 0⟩ cateredRec.rev firstCase) ∧
      (∃ m, (demoWith 4 { cateredRec with order := none }).admission true 0 720 ⟨.kitchen 0, 0, 20, -10⟩ = .ok m) ∧
      demo.admission true 0 650 firstCase = .error .tooSoon ∧ isLowestFree demo.plan.orders 512 2) ∧
    (demo.ready .b (.hold { longHold with cater := some firstCase }) ∧
      (0 : Int) * 1440 + 5 * 120 + firstCase.offset ≤ 11519) ∧
    (demo.ready .b (.caterChange ⟨0, 0⟩ acceptedOrder.rev ⟨some 20, none, none, none⟩) ∧
      (demo.caterChangeOut ⟨some 20, none, none, none⟩ = false ∧
      Pool.named? demo.plan.orders ⟨0, 0⟩ = some acceptedOrder ∧ acceptedOrder.booking = some ⟨4, 0⟩ ∧
      Pool.named? demo.book.pool ⟨4, 0⟩ = some cateredRec ∧ acceptedOrder.state = .accepted) ∧
      ∃ m, (demo.withoutShares acceptedOrder).admission false 0 720 ⟨.kitchen 0, 0, 20, -10⟩ = .ok m) ∧
    (demo.ready .b (.caterCancel ⟨0, 0⟩ acceptedOrder.rev) ∧ demo.ready .b (.caterCancel ⟨1, 0⟩ preparingOrder.rev) ∧
      preparingOrder.state = .preparing) ∧
    (demo.ready .b (.caterDelivered ⟨1, 0⟩ preparingOrder.rev) ∧
      demo.ready .b (.caterDelivered ⟨0, 0⟩ acceptedOrder.rev) ∧ acceptedOrder.state ≠ .preparing) :=
  ⟨⟨ready_of (by decide +kernel), by decide +kernel⟩,
    ⟨ready_of (by decide +kernel), ⟨_, rfl⟩, rfl, lowest_of (by decide +kernel)⟩,
    ⟨ready_of (by decide +kernel), by decide⟩,
    ⟨ready_of (by decide +kernel), by decide +kernel, ⟨_, rfl⟩⟩,
    ⟨ready_of (by decide +kernel), ready_of (by decide +kernel), by decide⟩,
    ⟨ready_of (by decide +kernel), ready_of (by decide +kernel), by decide⟩⟩

/-- Kinds 0, 1, 20 and 21, where the clauses of CONFIG_ROUTE meet. -/
theorem met_UsageAndRouting : demo.ready .a .snapshot ∧ demo.ready .a (.setAutoSnapshot true) ∧
    demo.ready .a (.configRoute ⟨21, true, some .fixed, ⟨true, false, false⟩, 7⟩) ∧ (0 < 1 ∧ 20 < 21) ∧
    (1 ≤ 20 ∧ 20 ≤ 20 ∧ 7 ≤ 7) :=
  ⟨ready_of (by decide +kernel), ready_of (by decide +kernel), ready_of (by decide +kernel), by decide, by decide⟩

def fullQueue : AgentPort := { demo.ports.a with
  queue := (List.range 24).map (fun k => demo.formNotice { kind := .dayRolled, subject := .room k }) }

/-- A kind that is not enabled, one routed in each mode, and queues with room, full, and holding a notice's subject. -/
theorem met_NoticesAreRoutedAndQueued : (demo.route NoticeKind.holdExpired.number).enabled = false ∧
    ((demo.route NoticeKind.dayRolled.number).enabled = true ∧ (demo.route NoticeKind.dayRolled.number).mode = .fixed) ∧
    ((demo.route NoticeKind.bookingChanged.number).mode = .owner) ∧
    ((demo.route NoticeKind.kitchenOver.number).mode = .least ∧
      portSetHolds (demo.route NoticeKind.kitchenOver.number).ports .b = true ∧ (demo.port .b).queue.length < 24) ∧
    (24 ≤ fullQueue.queue.length ∧ topicsDistinct fullQueue.queue = true ∧ priorityOrdered fullQueue.queue = true ∧
      fullQueue.queue = [] ++ demo.formNotice { kind := .dayRolled, subject := .room 0 } :: fullQueue.queue.tail) := by
  decide +kernel

def overRaised : Raised := { kind := .kitchenOver, subject := .kitchen 0 }
def overFull : AgentPort := { fullQueue with
  queue := fullQueue.queue.map (fun n => { n with kind := .kitchenOver, subject := .kitchen 9 }) }

/-- LEAST over ports B and C: C holds the notice's kind and subject, B and C hold as many notices, and both are full. -/
theorem met_LeastRouting :
    (portOfLetter 2 = some .c ∧ portOfLetter 1 = some .b ∧
      ((demo.raise overRaised).setPort .c ((demo.raise overRaised).port .b)).ports.c.holdsTopic
        (demo.formNotice overRaised) = true ∧ (demo.port .b).holdsTopic (demo.formNotice overRaised) = false) ∧
    ((demo.port .b).queue.length = (demo.port .c).queue.length ∧ (demo.port .b).queue.length < 24) ∧
    (24 ≤ overFull.queue.length ∧ overFull.holdsTopic (demo.formNotice overRaised) = false) := by decide +kernel

/-! Each invariant is met by a state from which a step goes on. -/

theorem goes_on (s : State) : ∃ t, exec .resetAsserted s = .next t := ⟨_, rfl⟩


theorem met_QueuesStayOrdered : demo.queuesOk ∧ ∃ t, exec .resetAsserted demo = .next t :=
  ⟨fun p => by cases p <;> decide, goes_on demo⟩

theorem met_PortsStayConsistent : demo.portsOk ∧ ∃ t, exec .resetAsserted demo = .next t := by
  refine ⟨fun p => ?_, _, rfl⟩
  have h : (demo.port p).slot = none ∧ (demo.port p).base = .idle ∧ (demo.port p).inHand = none ∧
      (demo.port p).reading = none := by cases p <;> decide +kernel
  simp [AgentPort.consistent, AgentPort.readsSlot, h]

theorem met_RevisionsStayOrdered : demo.revisionsOk ∧ demo.ringOk ∧ ∃ t, exec .resetAsserted demo = .next t :=
  ⟨⟨by decide +kernel, recs_of (P := fun _ r => r.rev ≤ demo.book.rev) (by decide +kernel),
    fun j o h => Pool.item?_of_all (P := fun _ (o : Order) => o.rev ≤ demo.book.rev) (by decide +kernel) j o h,
    by decide +kernel⟩,
    ⟨by decide +kernel, List.pairwise_singleton _ _⟩, goes_on demo⟩

theorem met_CountersStayInWidth : demo.countersOk ∧ ∃ t, exec .resetAsserted demo = .next t :=
  ⟨⟨fun _ => rfl, fun _ => rfl, fun _ => rfl, fun _ => rfl, fun _ => ⟨Nat.zero_le _, Nat.zero_le _⟩,
    Table.read_of_all (P := fun v : Chain => v.countersFit = true) rfl (by decide +kernel),
    fun c p => Table.read_of_all (P := fun v : Chain => (v.position p).good ≤ 2 ∧ (v.position p).miss ≤ 3)
      ⟨Nat.zero_le _, Nat.zero_le _⟩ (fun e he => by
        rw [show e = (0, chainInWait) by simpa [demo, State.cold] using he]
        exact Table.read_of_all (P := fun q : Position => q.good ≤ 2 ∧ q.miss ≤ 3) (by decide) (by decide +kernel) p) c,
    fun _ => Nat.zero_le _, recs_of (P := fun _ r => r.extensions ≤ 8) (by decide +kernel),
    fun p n hn => by cases p <;> exact absurd hn (List.not_mem_nil)⟩, goes_on demo⟩

theorem met_TablesStayCanonical : demo.tablesOk ∧ ∃ t, exec .resetAsserted demo = .next t :=
  ⟨tablesOk_of (by decide +kernel), _, rfl⟩

/-- The test state with one live order, its load committed. -/
def loaded : State := { demo with plan := { demo.plan with
  orders := [(0, ⟨0, some acceptedOrder⟩)]
  load := [(42, ⟨13, false⟩), (43, ⟨13, false⟩), (44, ⟨14, false⟩), (45, ⟨14, false⟩)] } }

theorem loaded_order (j : Nat) : loaded.order? j = if j = 0 then some acceptedOrder else none := by
  unfold State.order? Pool.item? Pool.entry Table.read
  simp only [loaded, Table.look?]
  by_cases h : j = 0
  · simp [h]
  · simp [h, Ne.symm h, PoolEntry.fresh]

theorem loaded_entry (k g : Nat) (h : g < 768) : (loaded.loadEntry k g) =
    if k = 0 ∧ g = 42 then ⟨13, false⟩ else if k = 0 ∧ g = 43 then ⟨13, false⟩
    else if k = 0 ∧ g = 44 then ⟨14, false⟩ else if k = 0 ∧ g = 45 then ⟨14, false⟩ else LoadEntry.cold := by
  unfold State.loadEntry Table.read
  simp only [loaded, Table.look?, Config.windowCount]
  repeat' split
  all_goals first | rfl | (exfalso; omega)

theorem sum_single (f : Nat → Nat) (n : Nat) (h : ∀ j, j ≠ 0 → f j = 0) :
    ((List.range (n + 1)).map f).sum = f 0 := by
  induction n with
  | zero => simp
  | succ n ih => rw [List.range_succ, List.map_append, List.sum_append, ih]; simp [h (n + 1) (by omega)]

theorem loaded_shares (k g : Nat) : loaded.sharesIn k g = acceptedOrder.shareIn k g := by
  unfold State.sharesIn Config.orderCap
  rw [sum_single _ 511 (fun j hj => by simp [loaded_order, hj])]
  simp [loaded_order]

theorem accepted_share (k g : Nat) : acceptedOrder.shareIn k g =
    if k = 0 ∧ g = 42 then 13 else if k = 0 ∧ g = 43 then 13 else if k = 0 ∧ g = 44 then 14
    else if k = 0 ∧ g = 45 then 14 else 0 := by
  have hs : acceptedOrder.shares = [(42, 13), (43, 13), (44, 14), (45, 14)] := by decide +kernel
  unfold Order.shareIn
  rw [hs]
  by_cases hk : k = 0
  · subst hk
    have hg : ∀ n : Nat, ((n : Int) = (g : Int)) = (g = n) := fun n => by
      rw [eq_iff_iff]; omega
    have h1 := hg 42; have h2 := hg 43; have h3 := hg 44; have h4 := hg 45
    push_cast at h1 h2 h3 h4
    simp only [acceptedOrder, List.filter, h1, h2, h3, h4, true_and, if_true]
    by_cases a : g = 42
    · subst a; decide
    by_cases b : g = 43
    · subst b; decide
    by_cases c : g = 44
    · subst c; decide
    by_cases d : g = 45
    · subst d; decide
    simp [a, b, c, d]
  · have : ¬ acceptedOrder.kitchen = k := fun h => hk (h ▸ rfl)
    simp [this, hk]

theorem met_LoadStaysExplained :
    (loaded.loadOk ∧ loaded.order? 0 = some acceptedOrder) ∧ loaded.overOk ∧
      ∃ t, exec .resetAsserted loaded = .next t := by
  refine ⟨⟨⟨fun j o h => ?_, fun k g hg => ?_⟩, by decide +kernel⟩, fun k g hg h => ?_, goes_on loaded⟩
  · rw [loaded_order] at h
    split at h
    · cases h
      next hj => subst hj; decide
    · cases h
  · rw [loaded_shares, accepted_share, loaded_entry k g hg]
    repeat' split
    all_goals rfl
  · exfalso
    rw [loaded_entry k g hg] at h
    have h44 : loaded.limit 0 42 = 44 ∧ loaded.limit 0 43 = 44 ∧ loaded.limit 0 44 = 44 ∧ loaded.limit 0 45 = 44 := by
      decide +kernel
    repeat' split at h
    all_goals first
      | (rename_i hc; obtain ⟨rfl, rfl⟩ := hc; simp [h44] at h)
      | (simp [LoadEntry.cold] at h)

theorem met_RecordsStayDisjoint : (demo.tablesOk ∧ demo.bookSound) ∧ ∃ t, exec .resetAsserted demo = .next t := by
  refine ⟨⟨tablesOk_of (by decide +kernel), fun r hr => ?_, recs_of (P := fun _ r => r.inPlane)
    (by unfold Rec.inPlane; decide +kernel), fun w e he => Pool.item?_of_all (P := fun _ (e : WaitEntry) => e.inPlane)
    (by unfold WaitEntry.inPlane; decide +kernel) w e he, fun i j r q hi hj => ?_⟩,
    goes_on demo⟩
  · match r with
    | 0 | 1 | 2 | 3 => decide
    | r + 4 =>
      have : demo.room (r + 4) = Room.cold := by simp [State.room, demo, State.cold, Table.read, Table.look?]
      rw [this] at hr
      cases hr
  · refine recs_of (P := fun i r => i ≠ j → r.apart q) (fun e he => ?_) i r hi
    refine recs_of (P := fun j q => e.1 ≠ j → e.2.apart q) ?_ j q hj
    revert e he
    unfold Rec.apart
    decide +kernel

theorem met_ConfiguringStaysEmpty : configuring.emptyWhileConfiguring ∧ configuring.serving = false ∧
    ∃ t, exec .resetAsserted configuring = .next t :=
  ⟨fun _ => ⟨fun _ => rfl, rfl, fun _ => rfl, fun _ => rfl, fun _ _ => rfl⟩, by decide, goes_on configuring⟩

/-! ### Single steps of the manual's worked cases -/

/-- The state a step answers. -/
def after (i : Instr) (s : State) : State :=
  match exec i s with
  | .next t => t
  | _ => s

/-- The answer a step leaves in port A's slot. -/
def answerA (i : Instr) (s : State) : Option Reply := ((after i s).port .a).slot.map Response.reply

/-- The check value of this generator and initial value over the nine digits (a published figure of the CRC). -/
theorem test_crc16 : crc16 [0x31, 0x32, 0x33, 0x34, 0x35, 0x36, 0x37, 0x38, 0x39] = 0x29B1 := by decide +kernel

/-- Room 12 of the worked case "placing into a padded day list" of chapter 2, with free entry 0. -/
def paddedRoom : State :=
  let s := State.cold allRoles allRoles allRoles
  { s with
    clock := ⟨1, 500, 0, true, false, false⟩
    site := { buildings := 1, mode := .serving, rooms := [(12, { testRoom 0 none RoomOptions.cold with setup := 1, clear := 2 })] }
    book := { s.book with pool :=
      [(5, ⟨0, some { bookingRec 12 0 108 120 .confirmed (.port .a) ⟨.arrival, 540, false⟩ 0 with setup := 1, clear := 2 }⟩),
       (9, ⟨1, some { blockRec with room := 12, plane := 0, start := 132, stop := 144, rev := 0 }⟩)] } }

def holdTwelve (start stop : Nat) : Instr := .hold .a 0 ⟨12, 0, start, stop, 5, 0, 0, 10, none, false⟩

/-- Chapter 2: 10:05 to 11:00 conflicts with both records and names B5.0; 10:15 to 10:55 runs into the block B9.1. -/
theorem test_hold_conflict :
    answerA (holdTwelve 605 660) paddedRoom = some { code := .conflict, payload := .booking ⟨5, 0⟩ } ∧
    answerA (holdTwelve 615 655) paddedRoom = some { code := .conflict, payload := .booking ⟨9, 1⟩ } := by decide +kernel

/-- Chapter 2: 10:15 to 10:50 touches both and fits between them, padded 122 to 132. -/
theorem test_hold_between : ((after (holdTwelve 615 650) paddedRoom).dayList 12 0).map
    (fun e => (e.1, e.2.padStart, e.2.padEnd)) = [(5, 107, 122), (0, 122, 132), (9, 132, 144)] := by decide +kernel

/-- Chapter 3, 09:55 and 09:56: the version is checked before the state. -/
theorem test_move_stale_then_state :
    answerA (.move .a 0 ⟨2, 0⟩ 2 ⟨some 3, none, none, false⟩) demo = some { code := .stale, payload := .stale 3 } ∧
    answerA (.move .a 0 ⟨2, 0⟩ 3 ⟨some 3, none, none, false⟩) demo = some { code := .state } := by decide +kernel

/-- The first scan of the worked case of chapter 4: W5.0 is promoted into the room B50.0 leaves, W2.1 and W9.0 stay. -/
def promotionChain : State :=
  let s := State.cold allRoles allRoles allRoles
  let e := { waiting 20 none with plane := 1, earliest := 168, length := 12, flex := 6, expiry := 9999, requester := .b }
  { s with
    clock := ⟨1, 602, 0, true, false, false⟩
    site := { buildings := 1, mode := .serving, rooms :=
      [(20, { testRoom 0 none RoomOptions.cold with clear := 1 }), (21, testRoom 0 none RoomOptions.cold)] }
    book := { s.book with rev := 7000, pool :=
      [(0, ⟨0, some { bookingRec 20 1 168 180 .confirmed (.port .a) ⟨.arrival, 2280, false⟩ 1 with clear := 1 }⟩),
       (1, ⟨0, some { bookingRec 20 1 182 192 .held (.port .a) ⟨.holdEnd, 2350, false⟩ 2 with clear := 1 }⟩),
       (2, ⟨0, some (bookingRec 21 1 168 192 .confirmed (.port .c) ⟨.arrival, 2280, false⟩ 3)⟩)] }
    wait := { pool := [(2, ⟨1, some { e with rooms := [21, 20], earliest := 174, length := 6, flex := 0 }⟩), (5, ⟨0, some e⟩),
        (9, ⟨0, some { e with rooms := [21], earliest := 180, flex := 0 }⟩)], order := [5, 2, 9], fates := [] } }

theorem test_promotion_chain :
    let t := after (.cancel .a 0 ⟨0, 0⟩ 1) promotionChain
    t.book.rev = 7002 ∧ (t.rec? 0).map (fun r => (r.padStart, r.padEnd, r.deadline.minute, r.rev)) = some (168, 181, 612, 7002) ∧
    (Pool.entry t.book.pool 0).gen = 1 ∧ t.wait.order = [2, 9] ∧
    t.wait.fates = [(5, some ⟨0, .promoted ⟨0, 1⟩⟩)] := by decide +kernel

/-- A finish of the worked case of chapter 10 added to room 58's counters. -/
def counted (u : RoomUsage) (start stop : Nat) (arrival : Option Nat) (ext : Nat) (walkup : Bool) (fin : FinState)
    (actor : Actor) : RoomUsage :=
  u.add (factsOf ⟨0, 0⟩ { bookingRec 58 0 start stop .arrived (.port .a) ⟨.endAt, 0, false⟩ 0 with
    arrival := arrival, extensions := ext, flags := ⟨false, false, walkup, false⟩ } fin actor 0)

theorem test_four_finishes :
    let first := counted RoomUsage.zero 108 118 (some 108) 0 false .ended .panel
    let second := counted first 126 141 (some 130) 1 false .ended .clock
    let third := counted second 146 151 (some 146) 0 true .ended .panel
    (first = ⟨10, 10, 0, 1, 0, 0, 0⟩ ∧ second = ⟨25, 21, 0, 1, 0, 1, 0⟩ ∧ third = ⟨30, 26, 0, 2, 1, 1, 0⟩) ∧
    counted third 156 168 none 0 false .released .clock = ⟨42, 26, 1, 2, 1, 1, 0⟩ := by decide +kernel

/-- Windows 4, 5 and 7 of the worked case "a chain sliding into FAULT" of chapter 6. -/
theorem test_error_windows :
    let window (v : Chain) := ((after (.errorWindowEnd 0) (demoChain 0 { chainInWait with
      degraded := v.degraded, fault := v.fault, streak := v.streak, windowDiscards := v.windowDiscards })).chain 0)
    let four := window { chainInWait with degraded := true, streak := 3, windowDiscards := 47 }
    let five := window { four with windowDiscards := 48 }
    let seven := window { five with windowDiscards := 11 }
    (four.degraded, four.streak, four.fault) = (true, 4, false) ∧ (five.degraded, five.streak, five.fault) = (true, 5, true) ∧
    (seven.degraded, seven.streak, seven.fault) = (false, 0, false) := by decide +kernel

/-- The first worked case of chapter 8: shares 13, 13, 14 and 14, limit 44, cut-off 630, dispatch 698. -/
theorem test_first_order : sharesOf 54 4 45 = [(42, 13), (43, 13), (44, 14), (45, 14)] ∧ demo.limit 0 42 = 44 ∧
    answerA (.caterOrder .a 0 ⟨4, 0⟩ 5 firstCase) ((demoWith 4 { cateredRec with order := none }).setRoom 0
      { testRoom 0 (some 100) RoomOptions.cold with seats := 40 }) =
      some { code := .ok, payload := .ordered ⟨2, 0⟩ 12 11 0 36 630 698 710 } := by decide +kernel

/-- Chapter 11: a full queue drops a notice and sets OVERRUN; a second KITCHEN_OVER coalesces in its place. -/
theorem test_queue_under_pressure :
    let s := demo.setPort .a fullQueue
    let t := s.raise { kind := .dayRolled, subject := .snapshot 9 }
    let u := (s.raise { kind := .kitchenOver, subject := .kitchen 2, cond := some (.flag true) }).raise
      { kind := .kitchenOver, subject := .kitchen 2, cond := some (.flag false) }
    ((t.port .a).queue = fullQueue.queue ∧ (t.port .a).flags.overrun = true) ∧
    (u.port .b).queue.map (fun n => (n.subject, n.cond, n.transitions)) = [(.kitchen 2, some (.flag false), 2)] := by
  decide +kernel

/-- The worked case of chapter 12: a frame that completes while a command is with the book sets COLLISION and is not
taken; the cut read keeps the slot and sets INCOMPLETE; the whole read clears both. -/
theorem test_collision_and_cut_read :
    let busy := demoPort .a { demo.ports.a with base := .executing, inHand := some (demo.takenNow .a 7 .status) }
    let t := after (.confirm .a 8 ⟨0, 0⟩ 1) busy
    let u := after (.status .a 7) t
    let v := after (.readCutShort .a) (after (.readByte .a) u)
    let w := after (.readCompletesWhole .a) (after (.readByte .a) v)
    ((t.port .a).flags = ⟨true, false, false, false⟩ ∧ (t.port .a).base = .executing) ∧
    ((u.port .a).base = .answerReady ∧ ((u.port .a).slot.map Response.tag) = some 7) ∧
    ((v.port .a).flags = ⟨true, true, false, false⟩ ∧ (v.port .a).base = .answerReady) ∧
    ((w.port .a).flags = PortFlags.clear ∧ (w.port .a).base = .idle ∧ (w.port .a).slot = none) := by decide +kernel

/-- R36: after its generations have come round, a free entry's present generation finds no tombstone. -/
theorem test_present_generation :
    let s := { demo with book := { demo.book with ring := [⟨⟨9, 1⟩, .booking, .ended, 3⟩, ⟨⟨9, 0⟩, .booking, .cancelled, 9⟩] } }
    answerA (.queryBooking .a 0 ⟨9, 1⟩) s = some { code := .noSuch, payload := .noSuch none } ∧
    answerA (.queryBooking .a 0 ⟨9, 0⟩) s =
      some { code := .noSuch, payload := .noSuch (some ⟨⟨9, 0⟩, .booking, .cancelled, 9⟩) } := by decide +kernel

/-- R142 step 2: 8 covers raised to the minimum of 10 and lowered to the 8 seats are CLAMPED; 8 of 8 alone are not. -/
theorem test_clamped_both_ways : clampCovers 8 10 8 = 8 ∧ coversAdjusted 8 10 8 = true ∧ coversAdjusted 8 1 8 = false := by
  decide

/-- R114: the last due DISPLAY of a chain whose next round start is reached goes out, and the ROLLCALL after it. -/
theorem test_display_then_rollcall :
    let t := after (.displayFrameSent 0 1) (demoChain 0 { inSending.chain 0 with nextRoundStart := some 101, round := 7 })
    (t.chain 0).sent = [demo.displayFrame 0 1, .rollcall 7] ∧ (t.chain 0).activity = .rollcall ∧
    (t.position 0 1).due = false := by decide +kernel

/-- R194: an EMPTY frame has sync, length 0, kind, tag echo 0, result OK, flags and its check; then fill bytes. -/
theorem test_empty_frame :
    (List.range 4).map (fun k => (after (.readByte .a) demo).sdo .a (.clocked 0xA5 k)) =
      [.byte 0xC3, .byte 0, .byte (Config.frameKindCode .empty), .byte 0] ∧
    (after (.readByte .a) demo).sdo .a (.clocked 0xA5 8) = .byte 0 := ⟨rfl, rfl⟩

/-- R188: a completed command frame still gets the fill byte while SEL is held, and high impedance once it has risen. -/
theorem test_fill_after_frame : (after (.commandFrameCompletes .a statusFrame) receivingA).sdo .a (.clocked 0x5A 7) =
      .byte 0 ∧ (after (.commandFrameCompletes .a statusFrame) receivingA).sdo .a .deselected = .highImpedance :=
  ⟨rfl, rfl⟩

/-- R194: the tag of a notice stands at offset 7 of its fixed part. -/
theorem test_notice_tag (n : Notice) : { n with tag := some 0x2A }.fixedBytes[7]? = some 0x2A := rfl

/-- R126: the DISPLAY payload of a room whose next booking starts at 09:00, minute 540. -/
theorem test_display_payload :
    (DownFrame.display 3 18 ⟨.soon, none, some ⟨0, 540, 0x1234⟩, .due⟩).payload =
      [18, Config.displayStateCode .soon, Config.presenceBits false true] ++ List.replicate 8 0 ++
      [0, 0x02, 0x1C, 0x12, 0x34, Config.badgeCode .due] := rfl

/-- R80: an ARRIVAL taken first on plane 1, as at the advance to midnight, leaves the successor its check-in. -/
theorem test_arrives_first_plane_1 (s : State) (e : Nat × Rec) (h : e.2.plane = 1) : s.arrivesFirst e = false := by
  simp [State.arrivesFirst, h]

/-- R196: a STATUS taken at 10:00:30 and answered a second later returns the seconds of its taking. -/
theorem test_status_latched :
    answerA (.status .a 7) (after .secondTick (after (.commandFrameCompletes .a statusFrame) receivingA)) =
      some (Reply.okWith (.status (demo.statusReading .a))) := by decide +kernel

end Sys2Proof.Tests
end

section
/-! SUPPORT. The settling of PanelsAreRead (R120, and READ_ROOM by R1): what READ_PANELS answers once it is taken, what
its page of positions holds, and that a reading command changes nothing but its port. -/

namespace Sys2Proof.Machine

/-! ### The two reading commands at a port -/

theorem exec_readPanels (p : Port) (tag : Byte) (chain start : Nat) (s : State) :
    exec (.readPanels p tag chain start) s =
      .next (s.atPort p tag (.readPanels chain start) (runReadPanels p chain start)) := by
  rfl

theorem exec_readRoom (p : Port) (tag : Byte) (room : Nat) (s : State) :
    exec (.readRoom p tag room) s = .next (s.atPort p tag (.readRoom room) (runReadRoom room)) := by
  rfl

/-- A command that only answers leaves its port's answer and changes nothing else (R191, R193). -/
theorem atPort_of_answers {s : State} {p : Port} {tag : Byte} {cmd : Command} {run : State → State × Reply} {r : Reply}
    (hc : s.canTake p) (hr : run (s.taking p tag cmd) = (s.taking p tag cmd, r)) :
    s.atPort p tag cmd run = (s.taking p tag cmd).placed p tag r := by
  rw [atPort_of_canTake s p tag cmd run hc, hr]

/-! ### What a reading command sees -/

/-- Taking a command leaves the link controller as it is (R191). -/
@[simp] theorem State.taking_link (s : State) (p : Port) (tag : Byte) (cmd : Command) :
    (s.taking p tag cmd).link = s.link := rfl

/-- A chain is what the link controller holds. -/
theorem State.chain_congr {s t : State} (h : t.link = s.link) (c : Nat) : t.chain c = s.chain c := by
  simp only [State.chain, h]

/-- A position record as READ_PANELS returns it is what the link controller holds (R120). -/
theorem State.panelReading_congr {s t : State} (h : t.link = s.link) (c : Nat) :
    t.panelReading c = s.panelReading c := by
  funext q
  simp only [State.panelReading, State.position, State.boundRoom, State.chain_congr h, h]

/-- The page from a start position on is the next eight positions, ending at the last (R120). -/
theorem take_drop_positionsTo {n start : Nat} (h : 1 ≤ start) (k : Nat) :
    ((positionsTo n).drop (start - 1)).take k = (List.range (min k (n + 1 - start))).map (start + ·) := by
  apply List.ext_getElem
  · simp only [positionsTo, List.length_take, List.length_drop, List.length_map, List.length_range]
    omega
  · intro j _ _
    simp only [positionsTo, List.getElem_take, List.getElem_drop, List.getElem_map, List.getElem_range]
    omega

/-! ### READ_PANELS -/

/-- READ_PANELS without FACIL (R189). -/
theorem runReadPanels_of_role {p : Port} {s : State} (chain start : Nat) (h : s.mayIssue p .facil = false) :
    runReadPanels p chain start s = (s, Reply.refusal .role) := by
  unfold runReadPanels
  rw [h]
  rfl

/-- READ_PANELS with a chain or start position that does not exist (R120). -/
theorem runReadPanels_of_range {p : Port} {chain start : Nat} {s : State} (h : s.mayIssue p .facil = true)
    (ho : 3 < chain ∨ start < 1 ∨ 40 < start) :
    runReadPanels p chain start s = (s, Reply.refusal .range) := by
  unfold runReadPanels
  rw [h, if_neg (by decide), if_pos ho]
  rfl

/-- READ_PANELS in range (R120). -/
theorem runReadPanels_of_ok {p : Port} {chain start : Nat} {s : State} (h : s.mayIssue p .facil = true)
    (hc : chain ≤ 3) (h1 : 1 ≤ start) (h40 : start ≤ 40) :
    runReadPanels p chain start s = (s, Reply.okWith (.panels
      ((List.range (min 8 (41 - start))).map (fun j => s.panelReading chain (start + j)))
      (s.chain chain).count (s.chain chain).activity (s.chain chain).gap)) := by
  unfold runReadPanels
  rw [h, if_neg (by decide), if_neg (by omega), take_drop_positionsTo h1, List.map_map]
  rfl

/-- READ_PANELS in range, as taken: it reads the state before it was taken (R120, R191). -/
theorem runReadPanels_taking {p : Port} {chain start : Nat} {s : State} (tag : Byte) (cmd : Command)
    (h : (s.port p).roles.facil = true) (hc : chain ≤ 3) (h1 : 1 ≤ start) (h40 : start ≤ 40) :
    runReadPanels p chain start (s.taking p tag cmd) = (s.taking p tag cmd, Reply.okWith (.panels
      ((List.range (min 8 (41 - start))).map (fun j => s.panelReading chain (start + j)))
      (s.chain chain).count (s.chain chain).activity (s.chain chain).gap)) := by
  have hm : (s.taking p tag cmd).mayIssue p .facil = true := (mayIssue_taking s p tag cmd .facil).trans h
  have hl : (s.taking p tag cmd).link = s.link := s.taking_link p tag cmd
  rw [runReadPanels_of_ok hm hc h1 h40, State.panelReading_congr hl, State.chain_congr hl]

/-! ### READ_ROOM -/

/-- READ_ROOM in range (R1). -/
theorem runReadRoom_of_ok {room : Nat} (s : State) (h : room ≤ 159) :
    runReadRoom room s =
      (s, Reply.okWith (.room (s.room room) (s.location room) (s.chronicState room).chronic)) := by
  have hr : roomOut room = false := decide_eq_false (by omega)
  unfold runReadRoom
  rw [hr]
  rfl

/-- Settles O15: each clause is what the command answers, placed at the port that took it. -/
theorem panelsAreRead : Obligations.PanelsAreRead := by
  unfold Obligations.PanelsAreRead
  refine ⟨fun p tag chain start s hready => ?_, fun p tag chain start s hcan hrole => ?_,
    fun p tag room s hcan hroom => ?_⟩
  · obtain ⟨hcan, hfacil, -, -⟩ := hready
    have hm := (mayIssue_taking s p tag (.readPanels chain start) .facil).trans hfacil
    constructor
    · intro hchain h1 h40
      rw [exec_readPanels, atPort_of_answers hcan (runReadPanels_taking tag _ hfacil hchain h1 h40)]
      rfl
    · intro hout
      rw [exec_readPanels, atPort_of_answers hcan (runReadPanels_of_range hm hout)]
  · have hm := (mayIssue_taking s p tag (.readPanels chain start) .facil).trans hrole
    rw [exec_readPanels, atPort_of_answers hcan (runReadPanels_of_role chain start hm)]
  · rw [exec_readRoom, atPort_of_answers hcan (runReadRoom_of_ok _ hroom)]
    rfl

end Sys2Proof.Machine
end

section
/-! SUPPORT. The settling of SharesOfLoad and LimitOfKitchen (R143, R139): an order's shares as the earlier windows
followed by the last ones, and the limit of an open and of a closed kitchen with its bound. -/

namespace Sys2Proof.Machine

/-! ### The shares of an order -/

@[simp] theorem sharesOf_length (load lead : Nat) (f : Int) : (sharesOf load lead f).length = lead := by
  simp [sharesOf]

/-- The `j`-th prep window and its share (R142, R143). -/
theorem sharesOf_getElem? {load lead j : Nat} (f : Int) (h : j < lead) :
    (sharesOf load lead f)[j]? = some (f - (lead : Int) + 1 + (j : Int), shareAt load lead j) := by
  simp [sharesOf, h]

theorem shareAt_of_early {load lead j : Nat} (h : j < lead - load % lead) : shareAt load lead j = load / lead := by
  rw [shareAt, if_neg (Nat.not_le.mpr h), Nat.add_zero]

theorem shareAt_of_late {load lead j : Nat} (h : lead - load % lead ≤ j) :
    shareAt load lead j = load / lead + 1 := by
  rw [shareAt, if_pos h]

/-- The remainder as R143 writes it. -/
theorem sub_base_mul_eq_mod (load lead : Nat) : load - load / lead * lead = load % lead := by
  rw [Nat.mul_comm, ← Nat.mod_eq_sub]

/-- The shares, first to last: the base in the earlier windows, one more in the last `r` of them (R143). -/
theorem sharesOf_shares {load lead : Nat} (f : Int) (hlead : 1 ≤ lead) : (sharesOf load lead f).map Prod.snd =
    List.replicate (lead - load % lead) (load / lead) ++ List.replicate (load % lead) (load / lead + 1) := by
  have hr : load % lead < lead := Nat.mod_lt load hlead
  apply List.ext_getElem
  · simp only [List.length_map, sharesOf_length, List.length_append, List.length_replicate]
    omega
  · intro j hj _
    have hshare : ((sharesOf load lead f).map Prod.snd)[j] = shareAt load lead j := by simp [sharesOf]
    rw [hshare, List.getElem_append]
    split
    next hearly =>
      rw [List.length_replicate] at hearly
      rw [shareAt_of_early hearly, List.getElem_replicate]
    next hlate =>
      rw [List.length_replicate, Nat.not_lt] at hlate
      rw [shareAt_of_late hlate, List.getElem_replicate]

/-- No unit of the load is lost or made up by the spreading (R143). -/
theorem sharesOf_sum {load lead : Nat} (f : Int) (hlead : 1 ≤ lead) :
    ((sharesOf load lead f).map Prod.snd).sum = load := by
  have hr : load % lead ≤ lead := Nat.le_of_lt (Nat.mod_lt load hlead)
  calc ((sharesOf load lead f).map Prod.snd).sum
      = (lead - load % lead) * (load / lead) + load % lead * (load / lead + 1) := by
        rw [sharesOf_shares f hlead, List.sum_append_nat, List.sum_replicate_nat, List.sum_replicate_nat]
    _ = (lead - load % lead + load % lead) * (load / lead) + load % lead := by
        rw [Nat.mul_add, Nat.mul_one, ← Nat.add_assoc, ← Nat.add_mul]
    _ = load := by rw [Nat.sub_add_cancel hr, Nat.div_add_mod]

/-- A load below the number of windows leaves the earliest of them without a share (R143). -/
theorem shareAt_eq_zero {load lead j : Nat} (hload : load < lead) (hj : j < lead - load) : shareAt load lead j = 0 := by
  have hearly : j < lead - load % lead := by rwa [Nat.mod_eq_of_lt hload]
  rw [shareAt_of_early hearly, Nat.div_eq_of_lt hload]

/-- Settles O47: the positions and their shares, the sum, the windows of share 0, and the table of R143 from the split
of the shares into earlier and last windows. -/
theorem sharesOfLoad : Obligations.SharesOfLoad := by
  unfold Obligations.SharesOfLoad
  intro load lead f hlead
  rw [sub_base_mul_eq_mod]
  refine ⟨sharesOf_length load lead f, Nat.mod_lt load hlead, fun j hj => ?position, sharesOf_sum f hlead,
    fun hload j hj => ?zero, sharesOf_shares f (by decide), sharesOf_shares f (by decide),
    sharesOf_shares f (by decide), sharesOf_shares f (by decide), sharesOf_shares f (by decide)⟩
  case position =>
    rw [sharesOf_getElem? f hj]
    split
    next hlate => rw [shareAt_of_late hlate]
    next hearly => rw [shareAt_of_early (Nat.not_le.mp hearly)]
  case zero =>
    rw [sharesOf_getElem? f (by omega), Option.map_some, shareAt_eq_zero hload hj]

/-! ### The limit of a kitchen -/

theorem State.limit_of_closed (s : State) {k : Nat} (g : Nat) (h : (s.kitchen k).isOpen = false) : s.limit k g = 0 := by
  rw [State.limit, h]
  rfl

theorem State.limit_of_open (s : State) {k : Nat} (g : Nat) (h : (s.kitchen k).isOpen = true) :
    s.limit k g = s.capacity k g * (100 + (s.kitchen k).overbook) / 100 := by
  rw [State.limit, if_pos h]

/-- The greatest capacity with the greatest overbook bounds every limit (R139). -/
theorem State.limit_le_greatest (s : State) {k g : Nat} (hc : s.capacity k g ≤ 4095)
    (ho : (s.kitchen k).overbook ≤ 25) : s.limit k g ≤ 5118 := by
  cases h : (s.kitchen k).isOpen with
  | false => rw [s.limit_of_closed g h]; exact Nat.zero_le 5118
  | true =>
    calc s.limit k g
        = s.capacity k g * (100 + (s.kitchen k).overbook) / 100 := s.limit_of_open g h
      _ ≤ 4095 * (100 + 25) / 100 := Nat.div_le_div_right (Nat.mul_le_mul hc (Nat.add_le_add_left ho 100))

/-- The rows of the table of R139: capacity, overbook and limit. -/
theorem limit_table : ∀ e ∈ [(40, 10, 44), (33, 10, 36), (9, 25, 11), (3, 25, 3), (4095, 25, 5118)],
    e.1 * (100 + e.2.1) / 100 = e.2.2 := by decide

/-- Settles O46: the limit by the kitchen's open flag, its bound, and the table of R139 as rows of the formula. -/
theorem limitOfKitchen : Obligations.LimitOfKitchen := by
  unfold Obligations.LimitOfKitchen
  intro s k g
  refine ⟨s.limit_of_closed g, s.limit_of_open g, s.limit_le_greatest, fun e he hopen hcap hover => ?_⟩
  have hcap' : s.capacity k g = e.1 := hcap
  rw [s.limit_of_open g hopen, hcap', hover, limit_table e he]

end Sys2Proof.Machine
end

section
/-! SUPPORT. The settling of RoutesAreRead (R179): the kinds READ_ROUTES returns, and what it answers once it is
taken. -/

namespace Sys2Proof.Machine

/-! ### The kinds of a page -/

/-- The first `n` numbers from `first` on that are at most `last` are consecutive. -/
theorem filter_le_consecutive (n first last : Nat) :
    ((List.range n).map (fun j => first + j)).filter (fun k => decide (k ≤ last)) =
      (List.range (min n (last + 1 - first))).map (fun j => first + j) := by
  induction n with
  | zero => rw [Nat.zero_min]; rfl
  | succ n ih =>
    rw [List.range_succ, List.map_append, List.filter_append, ih]
    by_cases h : first + n ≤ last
    · have hpage : min n (last + 1 - first) = n := by omega
      have hnext : min (n + 1) (last + 1 - first) = n + 1 := by omega
      rw [hpage, hnext, List.range_succ, List.map_append]
      simp [h]
    · have hsame : min (n + 1) (last + 1 - first) = min n (last + 1 - first) := by omega
      rw [hsame]
      simp [h]

/-- READ_ROUTES returns ten kinds, or those up to kind 20 where they are fewer (R179). -/
theorem routeKinds_eq (first : Nat) :
    routeKinds first = (List.range (min 10 (21 - first))).map (fun j => first + j) :=
  filter_le_consecutive 10 first 20

/-! ### What the command sees -/

/-- The command a port has taken has any one role where the port's mask has one (R189). -/
theorem mayIssueAny_taking (s : State) (p : Port) (tag : Byte) (cmd : Command) :
    (s.taking p tag cmd).mayIssueAny p = RoleMask.any (s.port p).roles := by
  simp only [State.mayIssueAny, mayIssue_taking, roleIn, RoleMask.any]

/-- Taking a command leaves the routing table as it is (R191). -/
@[simp] theorem State.route_taking (s : State) (p : Port) (tag : Byte) (cmd : Command) (k : Nat) :
    (s.taking p tag cmd).route k = s.route k := rfl

/-! ### READ_ROUTES -/

theorem exec_readRoutes (p : Port) (tag : Byte) (first : Nat) (s : State) :
    exec (.readRoutes p tag first) s = .next (s.atPort p tag (.readRoutes first) (runReadRoutes p first)) := by
  rfl

/-- READ_ROUTES at a port that holds no role (R179, R189). -/
theorem runReadRoutes_of_role {p : Port} {s : State} (first : Nat) (h : s.mayIssueAny p = false) :
    runReadRoutes p first s = (s, Reply.refusal .role) := by
  unfold runReadRoutes
  rw [h]
  rfl

/-- READ_ROUTES with a first kind that does not exist (R179). -/
theorem runReadRoutes_of_range {p : Port} {first : Nat} {s : State} (h : s.mayIssueAny p = true)
    (ho : first < 1 ∨ 20 < first) : runReadRoutes p first s = (s, Reply.refusal .range) := by
  unfold runReadRoutes
  rw [h, if_neg (by decide), if_pos ho]
  rfl

/-- READ_ROUTES in range: each kind with its entry (R179). -/
theorem runReadRoutes_of_ok {p : Port} {first : Nat} {s : State} (h : s.mayIssueAny p = true)
    (h1 : 1 ≤ first) (h20 : first ≤ 20) :
    runReadRoutes p first s = (s, Reply.okWith (.routes
      ((List.range (min 10 (21 - first))).map (fun j => (first + j, s.route (first + j)))))) := by
  unfold runReadRoutes
  rw [h, if_neg (by decide), if_neg (by omega), routeKinds_eq, List.map_map]
  rfl

/-- Settles O16: each clause is what the command answers, placed at the port that took it. -/
theorem routesAreRead : Obligations.RoutesAreRead := by
  unfold Obligations.RoutesAreRead
  intro p tag first s hcan
  rw [exec_readRoutes, ← mayIssueAny_taking s p tag (.readRoutes first)]
  refine ⟨fun hany h1 h20 => ?page, fun hany hout => ?range, fun hnone => ?role⟩
  case page =>
    rw [atPort_of_answers hcan (runReadRoutes_of_ok hany h1 h20)]
    simp only [State.route_taking]
  case range => rw [atPort_of_answers hcan (runReadRoutes_of_range hany hout)]
  case role => rw [atPort_of_answers hcan (runReadRoutes_of_role first hnone)]

end Sys2Proof.Machine
end

section
/-! SUPPORT. What a step can do: the single acts of the part, each with what is known where it is made, and the runs of
such acts. Every invariant is derived from the acts alone, so that no proof of one walks through the commands again. -/

namespace Sys2Proof.Machine

/-! ### Acts -/

/-- What an act inside the part may do to a port: its state, slot and command stay, a read in progress stays with its
frame, and the queue keeps the form of R183. -/
structure AgentPort.Passive (a b : AgentPort) : Prop where
  receiving : b.receiving = a.receiving
  base : b.base = a.base
  slot : b.slot = a.slot
  inHand : b.inHand = a.inHand
  frame : b.reading.map Reading.frame = a.reading.map Reading.frame
  queue : queueOk a.queue = true → queueOk b.queue = true

/-- What an act may do to a chain: its tables keep their canonical form. -/
structure Chain.Steady (a b : Chain) : Prop where
  positions : Table.wf Position.cold a.positions = true → Table.wf Position.cold b.positions = true
  noted : Table.wf none a.noted = true → Table.wf none b.noted = true

/-- A record may stand in entry `i`: it lies in its plane and is apart from every record of another entry (R19, R24). -/
def State.roomFor (s : State) (i : Nat) (r : Rec) : Prop :=
  r.inPlane ∧ ∀ j q, s.rec? j = some q → j ≠ i → r.apart q

/-- The device is known to be SERVING, unless it is CONFIGURING with something booked, which no run reaches (R8, R10). -/
def State.knownServing (s : State) : Prop := s.emptyWhileConfiguring → s.serving = true

/-- An order keeps its kitchen and its prep windows, and with them its shares (R142). -/
def Order.sameShares (o n : Order) : Prop :=
  n.kitchen = o.kitchen ∧ n.load = o.load ∧ n.lead = o.lead ∧ n.last = o.last

/-- Shares that an admission has tested: they end inside the load table, and each passes its window's limit
(R142, R144). -/
def State.admits (s : State) (m : Admission) : Prop :=
  m.last < (Config.windowCount : Int) ∧ ∀ w, w ∈ sharesOf m.load m.lead m.last → s.shareFails m.kitchen w = false

/-- One act of the part while it runs `c`. -/
inductive Act (c : Instr) (s : State) : State → Prop
  | registers (choices : Nat) (resetLow : Bool) (clock : Clock) (buildings : Nat)
      (listings : PerPort (Option Listing)) (autoSnapshot : Bool) :
      Act c s { s with
        choices := choices, resetLow := resetLow, clock := clock, site := { s.site with buildings := buildings }
        book := { s.book with listings := listings }
        monitor := { s.monitor with autoSnapshot := autoSnapshot } }
  | setClass (m : Nat) (v : MenuClass) : Act c s (s.setClass m v)
  | setTransit (b : Nat) (e : Nat × Nat) : Act c s (State.setTransitEntry b s e)
  | setRoute (k : Nat) (v : Route) : Act c s (s.setRoute k v)
  | setLocation (r : Nat) (l : Option Location) : Act c s (s.setLocation r l)
  | setDisplay (r : Nat) (v : Display) : Act c s (s.setDisplay r v)
  | setVacancy (r : Nat) (v : Vacancy) : Act c s (s.setVacancy r v)
  | setChronic (r : Nat) (v : ChronicState) : Act c s (s.setChronic r v)
  | setRoom (r : Nat) (v : Room) (h : v.isOpen = true → r < Config.roomCount ∨ (s.room r).isOpen = true) :
      Act c s (s.setRoom r v)
  | setChain (n : Nat) (v : Chain) (h : (s.chain n).Steady v) : Act c s (s.setChain n v)
  | setPort (p : Port) (a : AgentPort) (hr : a.roles = (s.port p).roles) (h : (s.port p).Passive a) :
      Act c s (s.setPort p a)
  | narrow (p q : Port) (tag : Byte) (letter mask : Nat) (m : RoleMask) (hc : c = .narrowRoles p tag letter mask) :
      Act c s (s.setPort q ((s.port q).narrow m))
  | changeRec (i : Nat) (r : Rec) (hs : s.knownServing) (hr : s.tablesOk → s.bookSound → s.roomFor i r) :
      Act c s (s.changeRec i r)
  | finishRec (i : Nat) (r : Rec) (fin : FinState) (a : Actor) : Act c s (s.finishRec i r fin a)
  | changeOrder (j : Nat) (o n : Order) (ho : s.order? j = some o) (h : o.sameShares n) : Act c s (s.changeOrder j n)
  | createOrder (j : Nat) (p : Port) (b : Handle) (q : CaterRequest) (m : Admission) (hs : s.knownServing)
      (ho : s.order? j = none) (hj : j < Config.orderCap) (hm : s.admits m) : Act c s (s.createOrder j p b q m)
  | readmit (j : Nat) (o : Order) (q : CaterRequest) (m : Admission) (ho : s.order? j = some o)
      (hm : (s.withoutShares o).admits m) :
      Act c s ((s.moveLoad o.kitchen o.shares m.kitchen (sharesOf m.load m.lead m.last)).changeOrder j
        (readmittedOrder o q m))
  | removeOrder (j : Nat) (o : Order) (fin : FinState) (ho : s.order? j = some o) :
      Act c s ((s.freeOrder j fin).removeLoad o.kitchen o.shares)
  | addEntry (w : Nat) (e : WaitEntry) (hs : s.serving = true) (h : e.inPlane) : Act c s (s.addEntry w e)
  | freeEntry (w : Nat) (f : Fate) : Act c s (s.freeEntry w f)
  | markAllDue : Act c s s.markAllDue
  | renumber (h : ∀ i r, s.rec? i = some r → r.room < Config.roomCount → r.plane ≠ 0) : Act c s s.renumber
  | closePeriod (k : SnapshotKind) (day minute : Nat) :
      Act c s { s with monitor := s.monitor.closePeriod k day minute }
  | countOrder (o : Order) : Act c s (s.countOrder o)
  | setKitchen (k : Nat) (v : Kitchen) :
      Act c s ((List.range Config.windowCount).foldl (State.alignOver k) (s.setKitchen k v))
  | setProfile (k first : Nat) (values : List Nat) (h : first + values.length ≤ 96) :
      Act c s ((windowsOfDay first values.length).foldl (State.alignOver k)
        { s with plan := { s.plan with profile := storeProfile s.plan.profile k first values } })
  | serve (p : Port) (tag : Byte) (hc : c = .openDevice p tag) :
      Act c s { s with site := { s.site with mode := .serving } }
  | reconfigure (p : Port) (tag : Byte) (hc : c = .reconfigure p tag) :
      Act c s { s.clearBooking with site := { s.site with mode := .configuring } }

/-- A run of acts. -/
abbrev Does (c : Instr) : State → State → Prop := Relation.ReflTransGen (Act c)

variable {c : Instr}

theorem Does.refl (s : State) : Does c s s := Relation.ReflTransGen.refl

theorem Act.does {s t : State} (h : Act c s t) : Does c s t := Relation.ReflTransGen.single h

theorem Does.foldl {β : Type} {f : State → β → State} (h : ∀ s a, Does c s (f s a)) (l : List β) (s : State) :
    Does c s (l.foldl f s) := by
  induction l generalizing s with
  | nil => exact .refl s
  | cons a l ih => exact (h s a).trans (ih (f s a))

/-- A property that every act keeps is kept by every run. -/
theorem Does.keeps {P : State → Prop} (h : ∀ s t, P s → Act c s t → P t) {s t : State} (hd : Does c s t)
    (hs : P s) : P t := by
  induction hd with
  | refl => exact hs
  | tail _ ha ih => exact h _ _ ih ha

theorem Does.iteBool {b : Bool} {s t u : State} (ht : Does c s t) (hu : Does c s u) :
    Does c s (if b then t else u) := by cases b <;> assumption

/-! ### Registers -/

theorem does_clock (s : State) (k : Clock) : Does c s { s with clock := k } :=
  (Act.registers s.choices s.resetLow k s.site.buildings s.book.listings s.monitor.autoSnapshot).does

theorem does_countChoice (s : State) : Does c s s.countChoice :=
  (Act.registers (s.choices + 1) s.resetLow s.clock s.site.buildings s.book.listings s.monitor.autoSnapshot).does

theorem does_setListing (s : State) (p : Port) (l : Option Listing) : Does c s (s.setListing p l) :=
  (Act.registers s.choices s.resetLow s.clock s.site.buildings (s.book.listings.set p l) s.monitor.autoSnapshot).does

/-! ### Queues -/

theorem Notice.sameTopic_iff (n m : Notice) : Notice.sameTopic n m = true ↔ n.kind = m.kind ∧ n.subject = m.subject := by
  simp [Notice.sameTopic]

theorem Notice.coalesce_kind (n m : Notice) : (Notice.coalesce n m).kind = n.kind := rfl
theorem Notice.coalesce_subject (n m : Notice) : (Notice.coalesce n m).subject = n.subject := rfl
theorem Notice.coalesce_priority (n m : Notice) : (Notice.coalesce n m).priority = m.priority := rfl

/-- The topic of a notice, by which copies coalesce (R177). -/
def Notice.topic (n : Notice) : NoticeKind × Subject := (n.kind, n.subject)

theorem Notice.sameTopic_iff_topic (n m : Notice) : Notice.sameTopic n m = true ↔ n.topic = m.topic := by
  simp [Notice.sameTopic, Notice.topic]

theorem topicsDistinct_iff (l : List Notice) : topicsDistinct l = true ↔ (l.map Notice.topic).Nodup := by
  induction l with
  | nil => simp [topicsDistinct]
  | cons n l ih =>
    simp only [topicsDistinct, Bool.and_eq_true, Bool.not_eq_true', ih, List.map_cons, List.nodup_cons, List.any_eq_false,
      Notice.sameTopic_iff_topic, List.mem_map, not_exists, not_and]
    exact and_congr_left' (forall₂_congr fun m _ => not_congr eq_comm)

theorem priorityOrdered_iff (l : List Notice) :
    priorityOrdered l = true ↔ l.Pairwise (fun n m => m.priority ≤ n.priority) := by
  induction l with
  | nil => simp [priorityOrdered]
  | cons n l ih => simp [priorityOrdered, ih]

theorem queueOk_iff (l : List Notice) : queueOk l = true ↔
    l.length ≤ Config.queueCap ∧ (l.map Notice.topic).Nodup ∧ l.Pairwise (fun n m => m.priority ≤ n.priority) := by
  simp [queueOk, topicsDistinct_iff, priorityOrdered_iff, and_assoc]

/-- Where a notice is placed: after all of equal or higher priority, before the first lower one (R183). -/
theorem queueInsert_split (n : Notice) (l : List Notice) : ∃ pre post, l = pre ++ post ∧
    queueInsert n l = pre ++ n :: post ∧ (∀ m, m ∈ pre → n.priority ≤ m.priority) ∧
    (∀ m, post.head? = some m → m.priority < n.priority) := by
  induction l with
  | nil => exact ⟨[], [], rfl, rfl, by simp, by simp⟩
  | cons m l ih =>
    by_cases h : n.priority ≤ m.priority
    · obtain ⟨pre, post, hl, hq, hpre, hpost⟩ := ih
      refine ⟨m :: pre, post, by simp [hl], by simp [queueInsert, h, hq], ?_, hpost⟩
      intro k hk
      rcases List.mem_cons.1 hk with rfl | hk
      · exact h
      · exact hpre k hk
    · exact ⟨[], m :: l, rfl, by simp [queueInsert, h], by simp, by simp; omega⟩

/-- In a queue in order everything behind the place of a notice is of lower priority (R183). -/
theorem lower_of_head_lower {n : Notice} {post : List Notice}
    (hp : post.Pairwise (fun n m => m.priority ≤ n.priority))
    (hh : ∀ m, post.head? = some m → m.priority < n.priority) : ∀ m, m ∈ post → m.priority < n.priority := by
  cases post with
  | nil => simp
  | cons k l =>
    intro m hm
    have hk := hh k rfl
    rcases List.mem_cons.1 hm with rfl | hm
    · exact hk
    · exact Nat.lt_of_le_of_lt ((List.pairwise_cons.1 hp).1 m hm) hk

theorem queueInsert_perm (n : Notice) (l : List Notice) : (queueInsert n l).Perm (n :: l) := by
  obtain ⟨pre, post, hl, hq, -, -⟩ := queueInsert_split n l
  rw [hq, hl]
  exact List.perm_middle

theorem queueOk_queueInsert {n : Notice} {l : List Notice} (hq : queueOk l = true) (hl : l.length < Config.queueCap)
    (hn : ∀ m, m ∈ l → m.topic ≠ n.topic) : queueOk (queueInsert n l) = true := by
  obtain ⟨-, htopics, hord⟩ := (queueOk_iff l).1 hq
  have hperm := queueInsert_perm n l
  refine (queueOk_iff _).2 ⟨?length, ?topics, ?order⟩
  case length => rw [hperm.length_eq]; exact hl
  case topics =>
    rw [(hperm.map Notice.topic).nodup_iff, List.map_cons, List.nodup_cons]
    exact ⟨by simpa [eq_comm] using hn, htopics⟩
  case order =>
    obtain ⟨pre, post, rfl, hins, hpre, hpost⟩ := queueInsert_split n l
    rw [List.pairwise_append] at hord
    obtain ⟨h1, h2, h12⟩ := hord
    have hlow := lower_of_head_lower h2 hpost
    rw [hins, List.pairwise_append, List.pairwise_cons]
    refine ⟨h1, ⟨fun m hm => Nat.le_of_lt (hlow m hm), h2⟩, fun a ha b hb => ?_⟩
    rcases List.mem_cons.1 hb with rfl | hb
    · exact hpre a ha
    · exact h12 a ha b hb

theorem queueOk_coalesce {n : Notice} {l : List Notice} (hq : queueOk l = true) :
    queueOk (l.map (fun m => if Notice.sameTopic n m then Notice.coalesce n m else m)) = true := by
  have htopic : ∀ m, (if Notice.sameTopic n m then Notice.coalesce n m else m).topic = m.topic := by
    intro m
    split
    next h => exact (Notice.sameTopic_iff_topic n m).1 h
    next => rfl
  have hprio : ∀ m, (if Notice.sameTopic n m then Notice.coalesce n m else m).priority = m.priority := by
    intro m
    split <;> rfl
  obtain ⟨hlen, htopics, hord⟩ := (queueOk_iff l).1 hq
  refine (queueOk_iff _).2 ⟨by rwa [List.length_map], ?_, ?_⟩
  · rw [List.map_map, show Notice.topic ∘ _ = Notice.topic from funext htopic]
    exact htopics
  · rw [List.pairwise_map]
    exact hord.imp (fun {a b} h => by rw [hprio a, hprio b]; exact h)

/-- A part of a queue, in its order, keeps the form of R183. -/
theorem queueOk_sublist {k l : List Notice} (hs : k.Sublist l) (hq : queueOk l = true) : queueOk k = true := by
  obtain ⟨hlen, htopics, hord⟩ := (queueOk_iff l).1 hq
  exact (queueOk_iff k).2 ⟨hs.length_le.trans hlen, (hs.map _).nodup htopics, hord.sublist hs⟩

/-! ### Notices -/

theorem AgentPort.holdsTopic_eq_false {a : AgentPort} {n : Notice} (h : ¬ a.holdsTopic n = true) :
    ∀ m, m ∈ a.queue → m.topic ≠ n.topic := by
  intro m hm he
  exact h (List.any_eq_true.2 ⟨m, hm, (Notice.sameTopic_iff_topic n m).2 he.symm⟩)

theorem Reading.supersede_frame (r : Reading) (n : Notice) : (r.supersede n).frame = r.frame := by
  unfold Reading.supersede
  split
  · split <;> rfl
  · rfl

theorem AgentPort.setFlags_passive (a : AgentPort) (f : PortFlags) : a.Passive (a.setFlags f) where
  receiving := rfl
  base := rfl
  slot := rfl
  inHand := rfl
  frame := by cases h : a.reading <;> simp [AgentPort.setFlags, h]
  queue := id

theorem AgentPort.offer_roles (a : AgentPort) (n : Notice) : (a.offer n).roles = a.roles := by
  unfold AgentPort.offer
  split
  · rfl
  · split <;> rfl

theorem AgentPort.offer_passive (a : AgentPort) (n : Notice) : a.Passive (a.offer n) := by
  unfold AgentPort.offer
  split
  · exact ⟨rfl, rfl, rfl, rfl, by cases h : a.reading <;> simp [Reading.supersede_frame], queueOk_coalesce⟩
  next hn =>
    split
    next hl =>
      exact ⟨rfl, rfl, rfl, rfl, rfl, fun hq => queueOk_queueInsert hq hl (AgentPort.holdsTopic_eq_false hn)⟩
    next => exact a.setFlags_passive _

theorem does_offer (s : State) (p : Port) (n : Notice) : Does c s (s.offer p n) :=
  (Act.setPort p _ (AgentPort.offer_roles _ n) (AgentPort.offer_passive _ n)).does

theorem does_setFlags (s : State) (p : Port) (f : PortFlags) : Does c s (s.setPort p ((s.port p).setFlags f)) :=
  (Act.setPort p ((s.port p).setFlags f) rfl (AgentPort.setFlags_passive _ f)).does

theorem does_routeFixed (s : State) (l : List Port) (n : Notice) : Does c s (s.routeFixed l n) :=
  Does.foldl (fun t p => does_offer t p n) l s

theorem does_routeLeast (s : State) (l : List Port) (n : Notice) : Does c s (s.routeLeast l n) := by
  unfold State.routeLeast
  split
  · exact does_offer s _ n
  · split
    · exact does_offer s _ n
    · exact Does.foldl (fun t p => does_setFlags t p _) l s

theorem does_raise (s : State) (e : Raised) : Does c s (s.raise e) := by
  unfold State.raise
  dsimp only
  split
  · exact .refl s
  · split
    · exact does_routeFixed s _ _
    · exact does_routeLeast s _ _
    · split
      · exact does_offer s _ _
      · exact does_routeFixed s _ _

theorem does_raiseChanged (s : State) (h : Handle) (o : Owner) (a : Actor) (k : Cause) (d : List Datum) :
    Does c s (s.raiseChanged h o a k d) := by
  unfold State.raiseChanged
  split
  · exact does_raise s _
  · exact .refl s

/-! ### Displays and timers -/

theorem does_recompute (s : State) (r : Nat) : Does c s (s.recompute r) := by
  have hd : Does c s (s.setDisplay r ⟨s.contentOf r, s.displayDeadlineOf r⟩) := (Act.setDisplay r _).does
  unfold State.recompute
  dsimp only
  split
  · exact hd
  · exact hd.tail (Act.setRoom r { s.room r with displayRev := (s.room r).displayRev + 1 } (fun h => .inr h))

theorem does_recomputeRooms (s : State) (l : List Nat) : Does c s (s.recomputeRooms l) := Does.foldl does_recompute l s

theorem does_recomputeAll (s : State) : Does c s s.recomputeAll := Does.foldl does_recompute _ s

theorem does_updateSubject (s : State) (r : Nat) : Does c s (s.updateSubject r) := by
  unfold State.updateSubject
  split
  · exact .refl s
  · exact (Act.setVacancy r _).does

theorem does_roomChanged (s : State) (r : Nat) : Does c s (s.roomChanged r) :=
  (does_updateSubject s r).trans (does_recompute _ r)

end Sys2Proof.Machine
end

section
/-! SUPPORT. Facts about the book that several statements need: live records and day lists, the conflict rule, and where
a record may stand (R19, R22 to R24). -/

namespace Sys2Proof.Machine

/-! ### What frames keep of the pools -/

theorem rec?_of_sameBut {l : List Part} {s t : State} (h : sameBut l s t) (hl : Part.records ∉ l) (i : Nat) :
    t.rec? i = s.rec? i := congrArg (fun p => Pool.item? p i) (h .records hl)

theorem order?_of_sameBut {l : List Part} {s t : State} (h : sameBut l s t) (hl : Part.orders ∉ l) (j : Nat) :
    t.order? j = s.order? j := congrArg (fun p => Pool.item? p j) (h .orders hl)

/-! ### Live records -/

/-- In a canonical pool a listed live record is its entry's. -/
theorem Pool.item?_of_mem_live {α : Type} [DecidableEq α] {p : Pool α} (h : Table.wf PoolEntry.fresh p = true) {i : Nat}
    {r : α} (hm : (i, r) ∈ Pool.live p) : Pool.item? p i = some r := by
  simp only [Pool.live, List.mem_filterMap, Option.map_eq_some_iff] at hm
  obtain ⟨e, he, x, hx, hxr⟩ := hm
  cases hxr
  have hrise : Table.rising none p = true := by
    simp only [Table.wf, Bool.and_eq_true] at h
    exact h.1
  unfold Pool.item? Pool.entry Table.read
  rw [Table.look?_of_mem hrise he]
  exact hx

theorem Pool.mem_live_iff {α : Type} [DecidableEq α] {p : Pool α} (h : Table.wf PoolEntry.fresh p = true) {e : Nat × α} :
    e ∈ Pool.live p ↔ Pool.item? p e.1 = some e.2 :=
  ⟨fun hm => Pool.item?_of_mem_live h hm, fun hi => Pool.mem_live_of_item? hi⟩

theorem State.mem_liveRecs_of_rec? {s : State} {i : Nat} {r : Rec} (h : s.rec? i = some r) : (i, r) ∈ s.liveRecs :=
  Pool.mem_live_of_item? h

theorem State.rec?_of_mem_liveRecs {s : State} (hw : s.tablesOk) {e : Nat × Rec} (h : e ∈ s.liveRecs) :
    s.rec? e.1 = some e.2 := Pool.item?_of_mem_live hw.2.1 h

/-! ### Day lists -/

theorem insertByPad_perm (e : Nat × Rec) (l : List (Nat × Rec)) : (insertByPad e l).Perm (e :: l) := by
  induction l with
  | nil => exact .refl _
  | cons f l ih =>
    unfold insertByPad
    split
    · exact .refl _
    · exact (ih.cons f).trans (.swap e f l)

theorem sortByPad_perm (l : List (Nat × Rec)) : (sortByPad l).Perm l := by
  induction l with
  | nil => exact .refl _
  | cons e l ih => exact (insertByPad_perm e _).trans (ih.cons e)

/-- Records in order of padded start (R22). -/
def padSorted (l : List (Nat × Rec)) : Prop := l.Pairwise (fun e f => e.2.padStart ≤ f.2.padStart)

theorem padSorted_insertByPad {e : Nat × Rec} {l : List (Nat × Rec)} (h : padSorted l) :
    padSorted (insertByPad e l) := by
  induction l with
  | nil => exact List.pairwise_singleton _ e
  | cons f l ih =>
    obtain ⟨hf, hl⟩ := List.pairwise_cons.1 h
    unfold insertByPad
    split
    next hlt =>
      refine List.pairwise_cons.2 ⟨fun g hg => ?_, h⟩
      rcases List.mem_cons.1 hg with rfl | hg
      · exact Nat.le_of_lt hlt
      · exact Nat.le_trans (Nat.le_of_lt hlt) (hf g hg)
    next hge =>
      refine List.pairwise_cons.2 ⟨fun g hg => ?_, ih hl⟩
      rcases List.mem_cons.1 ((insertByPad_perm e l).mem_iff.1 hg) with rfl | hg
      · exact Nat.not_lt.1 hge
      · exact hf g hg

theorem padSorted_sortByPad (l : List (Nat × Rec)) : padSorted (sortByPad l) := by
  induction l with
  | nil => exact List.Pairwise.nil
  | cons e l ih => exact padSorted_insertByPad ih

theorem State.dayList_padSorted (s : State) (room plane : Nat) : padSorted (s.dayList room plane) :=
  padSorted_sortByPad _

/-- A day list holds exactly the live records of its room and plane (R22, R23). -/
theorem State.mem_dayList {s : State} {room plane : Nat} {e : Nat × Rec} :
    e ∈ s.dayList room plane ↔ e ∈ s.liveRecs ∧ e.2.room = room ∧ e.2.plane = plane := by
  unfold State.dayList
  rw [(sortByPad_perm _).mem_iff, List.mem_filter]
  simp

theorem overlap_eq_true {lo hi lo' hi' : Nat} : overlap lo hi lo' hi' = true ↔ lo < hi' ∧ lo' < hi := by
  simp [overlap]

/-- No record conflicts with a candidate exactly where its run is free (R24). -/
theorem State.firstConflict_eq_none {s : State} {room plane lo hi : Nat} {own : Option Nat} :
    s.firstConflict room plane lo hi own = none ↔ s.freeRun room plane lo hi own := by
  simp only [State.firstConflict, Option.map_eq_none_iff, List.find?_eq_none, State.mem_dayList, State.freeRun,
    Bool.and_eq_true, overlap_eq_true, Bool.not_eq_true', beq_eq_false_iff_ne]
  exact ⟨fun h e he hr hp ho hov => h e ⟨he, hr, hp⟩ ⟨ho, hov⟩, fun h e he hov => h e he.1 he.2.1 he.2.2 hov.1 hov.2⟩

/-- In a list in order of padded start, the first record of a kind starts no later than any other of it. -/
theorem padStart_le_of_find? {l : List (Nat × Rec)} {p : Nat × Rec → Bool} {e f : Nat × Rec} (hs : padSorted l)
    (hf : l.find? p = some f) (he : e ∈ l) (hp : p e = true) : f.2.padStart ≤ e.2.padStart := by
  induction l with
  | nil => simp at he
  | cons g l ih =>
    obtain ⟨hg, hl⟩ := List.pairwise_cons.1 hs
    rw [List.find?_cons] at hf
    split at hf
    next => cases hf; rcases List.mem_cons.1 he with rfl | he
            · exact Nat.le_refl _
            · exact hg e he
    next hpg =>
      rcases List.mem_cons.1 he with rfl | he
      · rw [hp] at hpg; cases hpg
      · exact ih hl hf he

/-! ### Where a record may stand -/

/-- A live record's padded interval is not empty. -/
theorem Rec.inPlane.pad_lt {r : Rec} (h : r.inPlane) : r.padStart < r.padEnd := by
  obtain ⟨-, -, hlt, hle, -⟩ := h
  unfold Rec.padStart Rec.padEnd
  omega

theorem Rec.apart_of_not_overlap {r q : Rec} (h : ¬ (r.padStart < q.padEnd ∧ q.padStart < r.padEnd)) : r.apart q := by
  unfold Rec.apart
  omega

/-- Room for a record whose padded interval is free (R24). -/
theorem State.roomFor_of_freeRun {s : State} {i : Nat} {r : Rec} {own : Option Nat} (hp : r.inPlane)
    (hf : s.freeRun r.room r.plane r.padStart r.padEnd own) (ho : ∀ j, own = some j → j = i) : s.roomFor i r := by
  refine ⟨hp, fun j q hq hj => ?_⟩
  by_cases hroom : q.room = r.room
  · by_cases hplane : q.plane = r.plane
    · refine Rec.apart_of_not_overlap (hf (j, q) (State.mem_liveRecs_of_rec? hq) hroom hplane ?_)
      intro h
      exact hj (ho j h)
    · exact .inr (.inl (Ne.symm hplane))
  · exact .inl (Ne.symm hroom)

/-- A record with the room, plane, slots and padding of another. -/
def Rec.sameSpan (r q : Rec) : Prop :=
  q.kind = r.kind ∧ q.room = r.room ∧ q.plane = r.plane ∧ q.start = r.start ∧ q.stop = r.stop ∧ q.setup = r.setup ∧
  q.clear = r.clear

theorem Rec.sameSpan.inPlane {r q : Rec} (h : r.sameSpan q) (hr : r.inPlane) : q.inPlane := by
  obtain ⟨hk, hroom, hplane, hstart, hstop, -, -⟩ := h
  unfold Rec.inPlane at *
  rwa [hk, hroom, hplane, hstart, hstop]

theorem Rec.sameSpan.apart_right {r q : Rec} (h : r.sameSpan q) {x : Rec} (hx : r.apart x) : q.apart x := by
  obtain ⟨-, hroom, hplane, hstart, hstop, hsetup, hclear⟩ := h
  unfold Rec.apart Rec.padStart Rec.padEnd at *
  rwa [hroom, hplane, hstart, hstop, hsetup, hclear]

/-- A record that keeps its span keeps its room in the book. -/
theorem State.roomFor_of_sameSpan {s : State} {i : Nat} {r q : Rec} (hb : s.bookSound) (hr : s.rec? i = some r)
    (h : r.sameSpan q) : s.roomFor i q := by
  obtain ⟨-, hin, -, hap⟩ := hb
  exact ⟨h.inPlane (hin i r hr), fun j x hx hj => h.apart_right (hap i j r x hr hx (Ne.symm hj))⟩

/-- The list after an entry's first place. -/
theorem nextAfter_eq_some {i : Nat} {l : List (Nat × Rec)} (h : ∃ r, (i, r) ∈ l) :
    ∃ pre r post, l = pre ++ (i, r) :: post ∧ nextAfter i l = post.head? := by
  induction l with
  | nil => obtain ⟨r, hr⟩ := h; simp at hr
  | cons e l ih =>
    by_cases he : e.1 = i
    · subst he
      exact ⟨[], e.2, l, rfl, by simp [nextAfter]⟩
    · obtain ⟨r, hr⟩ := h
      rcases List.mem_cons.1 hr with rfl | hr
      · exact absurd rfl he
      · obtain ⟨pre, x, post, rfl, hn⟩ := ih ⟨r, hr⟩
        exact ⟨e :: pre, x, post, rfl, by simp [nextAfter, he, hn]⟩

/-- The records of a room and plane beside one, each wholly before it or no earlier than the record that follows it in
the day list (R22, R24, R87). -/
theorem State.before_or_following {s : State} (hw : s.tablesOk) (hb : s.bookSound) {i j : Nat} {r q : Rec}
    (hr : s.rec? i = some r) (hq : s.rec? j = some q) (hj : j ≠ i) (hroom : q.room = r.room) (hplane : q.plane = r.plane) :
    q.padEnd ≤ r.padStart ∨ ∃ f, s.following i r = some f ∧ f.2.padStart ≤ q.padStart := by
  have hmem : (i, r) ∈ s.dayList r.room r.plane := State.mem_dayList.2 ⟨State.mem_liveRecs_of_rec? hr, rfl, rfl⟩
  have hqmem : (j, q) ∈ s.dayList r.room r.plane := State.mem_dayList.2 ⟨State.mem_liveRecs_of_rec? hq, hroom, hplane⟩
  obtain ⟨pre, x, post, hl, hn⟩ := nextAfter_eq_some ⟨r, hmem⟩
  have hx : x = r := by
    have hxm : (i, x) ∈ s.dayList r.room r.plane := by rw [hl]; simp
    have := State.rec?_of_mem_liveRecs hw (State.mem_dayList.1 hxm).1
    exact Option.some.inj (this.symm.trans hr)
  subst hx
  have hsort := s.dayList_padSorted x.room x.plane
  rw [hl] at hsort hqmem
  obtain ⟨-, hpost, hpre⟩ := List.pairwise_append.1 hsort
  rcases List.mem_append.1 hqmem with hq' | hq'
  · left
    have hle := hpre _ hq' (i, x) (by simp)
    have hap := hb.2.2.2 i j x q hr hq (Ne.symm hj)
    have hpad := (hb.2.1 i x hr).pad_lt
    unfold Rec.apart at hap
    simp only at hle
    omega
  · right
    rcases List.mem_cons.1 hq' with he | hq'
    · cases he; exact absurd rfl hj
    · cases post with
      | nil => simp at hq'
      | cons f post =>
        refine ⟨f, by unfold State.following; rw [hn]; rfl, ?_⟩
        rcases List.mem_cons.1 hq' with rfl | hq'
        · exact Nat.le_refl _
        · exact (List.pairwise_cons.1 (List.pairwise_cons.1 hpost).2).1 _ hq'

/-- Room for a record extended by a fit (R87). -/
theorem State.roomFor_extendedRec {s : State} (hw : s.tablesOk) (hb : s.bookSound) {i k : Nat} {r : Rec}
    (hr : s.rec? i = some r) (hk : fitAllows r (s.following i r) k = true) : s.roomFor i (extendedRec r k) := by
  obtain ⟨hroom, hplane, hlt, -, -⟩ := hb.2.1 i r hr
  simp only [fitAllows, lengthAllows, Bool.and_eq_true, decide_eq_true_eq] at hk
  obtain ⟨⟨hday, hlen⟩, hnext⟩ := hk
  refine ⟨⟨hroom, hplane, ?_, hday, fun _ => hlen⟩, fun j q hq hj => ?_⟩
  · change r.start < r.stop + k
    omega
  · by_cases h : q.room = r.room ∧ q.plane = r.plane
    · rcases State.before_or_following hw hb hr hq hj h.1 h.2 with hbefore | ⟨f, hf, hle⟩
      · exact .inr (.inr (.inr hbefore))
      · rw [hf] at hnext
        simp only [decide_eq_true_eq] at hnext
        exact .inr (.inr (.inl (Nat.le_trans hnext hle)))
    · unfold Rec.apart
      simp only [extendedRec]
      omega

/-- The fit of an extension, where it is not 0, is one the conditions allow (R87). -/
theorem State.fitAllows_extensionFit {s : State} {i : Nat} {r : Rec} (h : s.extensionFit i r ≠ 0) :
    fitAllows r (s.following i r) (s.extensionFit i r) = true := by
  unfold State.extensionFit at h ⊢
  cases hf : [3, 2, 1].find? (fitAllows r (s.following i r)) with
  | none => rw [hf] at h; exact absurd rfl h
  | some k => exact List.find?_some hf

/-! ### Walk-ups -/

theorem walkupStop_some {clear slot stop : Nat} {next : Option (Nat × Rec)} (h : walkupStop clear slot next = some stop) :
    slot + 3 ≤ stop ∧ stop ≤ 288 ∧ stop ≤ slot + 6 ∧
      ∀ f, next = some f → min (stop + clear) 288 ≤ f.2.padStart := by
  unfold walkupStop at h
  have hp := List.find?_some h
  have hm := List.mem_of_find?_eq_some h
  simp only [Bool.and_eq_true, decide_eq_true_eq] at hp
  obtain ⟨hlow, hnext⟩ := hp
  have hle : stop ≤ min (slot + 6) 288 := by
    simp only [List.map_cons, List.map_nil, List.mem_cons, List.not_mem_nil, or_false] at hm
    omega
  refine ⟨hlow, by omega, by omega, fun f hf => ?_⟩
  rw [hf] at hnext
  simpa using hnext

/-- Room for a walk-up that passes its tests (R90). -/
theorem State.roomFor_walkupRec {s : State} (hb : s.bookSound) {room i stop : Nat}
    (h : s.walkupSpan room = some stop) : s.roomFor i (walkupRec room (s.room room) s.currentSlot stop) := by
  unfold State.walkupSpan at h
  dsimp only at h
  split at h
  · cases h
  next hopen =>
  split at h
  · cases h
  next hcover =>
  split at h
  · cases h
  next hbefore =>
  obtain ⟨hlow, hday, hlen, hnext⟩ := walkupStop_some h
  have hroom : room < Config.roomCount := hb.1 room (by
    simp only [Bool.or_eq_true, Bool.not_eq_true', not_or, Bool.not_eq_false] at hopen
    exact hopen.2)
  refine ⟨⟨hroom, Nat.zero_le 7, ?_, hday, fun _ => ?_⟩, fun j q hq _ => ?_⟩
  · simp only [walkupRec]; omega
  · simp only [walkupRec]; omega
  · by_cases hsame : q.room = room ∧ q.plane = 0
    · have hmem : (j, q) ∈ s.dayList room 0 := State.mem_dayList.2 ⟨State.mem_liveRecs_of_rec? hq, hsame.1, hsame.2⟩
      simp only [List.any_eq_true, List.mem_filter, not_exists, not_and, Bool.and_eq_true, decide_eq_true_eq,
        and_imp] at hcover hbefore
      by_cases hle : q.padStart ≤ s.currentSlot
      · exact .inr (.inr (.inr (Nat.not_lt.1 (hbefore (j, q) hmem hle))))
      · refine .inr (.inr (.inl ?_))
        cases hf : (s.dayList room 0).find? (fun e => decide (s.currentSlot < e.2.padStart)) with
        | none => exact absurd (List.find?_eq_none.1 hf (j, q) hmem) (by simpa using hle)
        | some f =>
          have := padStart_le_of_find? (s.dayList_padSorted room 0) hf hmem (by simpa using hle)
          exact Nat.le_trans (hnext f hf) this
    · unfold Rec.apart
      simp only [walkupRec]
      omega

/-! ### Placements -/

theorem State.fits_eq_true {s : State} {e : WaitEntry} {room start : Nat} :
    s.fits e room start = true ↔ placementFits s e room start := by
  simp only [State.fits, Bool.and_eq_true, decide_eq_true_eq, Bool.not_eq_true', Bool.and_eq_false_iff,
    beq_eq_false_iff_ne, decide_eq_false_iff_not, Option.isNone_iff_eq_none, State.firstConflict_eq_none, placementFits,
    not_and_or, and_assoc, ne_eq]

theorem State.placement_some {s : State} {e : WaitEntry} {room start : Nat} (h : s.placement e = some (room, start)) :
    room ∈ e.rooms ∧ placementFits s e room start := by
  unfold State.placement at h
  have hm := List.mem_of_find?_eq_some h
  have hfits := List.find?_some h
  simp only [List.mem_flatMap, List.mem_map, Prod.mk.injEq] at hm
  obtain ⟨q, hq, -, -, rfl, -⟩ := hm
  exact ⟨hq, State.fits_eq_true.1 hfits⟩

/-- Room for a booking that a promotion creates (R71, R72). -/
theorem State.roomFor_promotedRec {s : State} {e : WaitEntry} (he : e.inPlane) {room start : Nat} (hroom : room ∈ e.rooms)
    (hf : placementFits s e room start) (i : Nat) (o : Option Handle) (b : Bool) :
    s.roomFor i (promotedRec s e room start o b) := by
  obtain ⟨hrooms, hplane, hpos, hlen⟩ := he
  obtain ⟨-, -, -, hday, hfree⟩ := hf
  refine State.roomFor_of_freeRun (own := none) ⟨hrooms room hroom, hplane, ?_, hday, fun _ => ?_⟩ hfree (by simp)
  · simp only [promotedRec]; omega
  · simp only [promotedRec]; omega

theorem ceilDiv_five (n : Nat) : ceilDiv n 5 = (n + 4) / 5 := rfl

/-- The slots of a span in range (R11). -/
theorem slots_of_spanOut {plane start stop : Nat} (h : spanOut plane start stop = false) :
    plane ≤ 7 ∧ startSlot start ≤ 287 ∧ stopSlot stop ≤ 288 := by
  simp only [spanOut, Bool.or_eq_false_iff, decide_eq_false_iff_not, Nat.not_lt] at h
  unfold startSlot stopSlot
  rw [ceilDiv_five]
  omega

theorem lengthOut_eq_false {start stop most : Nat} :
    lengthOut start stop most = false ↔ start < stop ∧ stop - start ≤ most := by
  simp [lengthOut]

end Sys2Proof.Machine
end

section
/-! SUPPORT. The runs of acts that the shared operations make: orders and their load, finishes, promotions, attendance and
the deadlines. -/

namespace Sys2Proof.Machine

variable {c : Instr}

/-! ### The admission test -/

theorem State.tryKitchens_ok {s : State} {building lead load : Nat} {delivery : Int} {l : List Nat} {k : Nat}
    {d f : Int} (h : s.tryKitchens building lead load delivery l = .ok (k, d, f)) :
    s.testKitchen building lead load delivery k = .ok (d, f) := by
  induction l with
  | nil => simp [State.tryKitchens] at h
  | cons j l ih =>
    unfold State.tryKitchens at h
    split at h
    next hj => cases h; exact hj
    next =>
      split at h
      next hr => cases h; exact ih hr
      next => cases h

/-- A kitchen's test that passes: the dispatch minute, the last window, the lead time kept and every share under its
limit (R142, R144). -/
theorem State.testKitchen_ok {s : State} {building lead load : Nat} {delivery : Int} {k : Nat} {d f : Int}
    (h : s.testKitchen building lead load delivery k = .ok (d, f)) :
    d = delivery - (s.transit building k : Int) ∧ f = d / 15 - 1 ∧ (s.currentWindow : Int) < f - (lead : Int) + 1 ∧
      ∀ w, w ∈ sharesOf load lead f → s.shareFails k w = false := by
  unfold State.testKitchen at h
  dsimp only at h
  split at h
  · cases h
  next hsoon =>
    split at h
    · cases h
    next hnone =>
      cases h
      refine ⟨rfl, rfl, by omega, fun w hw => ?_⟩
      simpa using List.find?_eq_none.1 hnone w hw

theorem State.admission_ok {s : State} {isNew : Bool} {room : Nat} {start : Int} {q : CaterRequest} {m : Admission}
    (h : s.admission isNew room start q = .ok m) : ∃ v, s.menuClass q.cls = some v ∧
      start + q.offset ≤ Config.lastMinute ∧
      m.covers = clampCovers q.covers v.minCovers (s.room room).seats ∧ m.load = loadOf m.covers v.weight ∧
      m.lead = v.lead ∧ m.delivery = start + q.offset ∧
      s.testKitchen (s.room room).building m.lead m.load m.delivery m.kitchen = .ok (m.dispatch, m.last) := by
  unfold State.admission at h
  split at h
  · cases h
  next v hv =>
    split at h
    · cases h
    next hlast =>
      split at h
      · cases h
      · dsimp only at h
        split at h
        · cases h
        next k dispatch last htry =>
          cases h
          exact ⟨v, hv, by omega, rfl, rfl, rfl, rfl, State.tryKitchens_ok htry⟩

/-- An admission that passes has tested its shares (R142, R144). -/
theorem State.admits_of_admission {s : State} {isNew : Bool} {room : Nat} {start : Int} {q : CaterRequest}
    {m : Admission} (h : s.admission isNew room start q = .ok m) : s.admits m := by
  obtain ⟨v, -, hlast, -, -, -, hdel, htest⟩ := State.admission_ok h
  obtain ⟨hd, hf, -, hshares⟩ := State.testKitchen_ok htest
  refine ⟨?_, hshares⟩
  unfold Config.lastMinute at hlast
  unfold Config.windowCount
  omega

/-- Two states whose limits and load are the same. -/
def sameLoad (s t : State) : Prop :=
  t.plan.kitchens = s.plan.kitchens ∧ t.plan.profile = s.plan.profile ∧ t.plan.load = s.plan.load

theorem sameLoad_of_sameBut {l : List Part} {s t : State} (h : sameBut l s t)
    (hl : Part.kitchens ∉ l ∧ Part.profile ∉ l ∧ Part.load ∉ l) : sameLoad s t :=
  ⟨h .kitchens hl.1, h .profile hl.2.1, h .load hl.2.2⟩

theorem sameLoad.limit {s t : State} (h : sameLoad s t) : t.limit = s.limit := by
  funext k g
  unfold State.limit State.kitchen State.capacity
  rw [h.1, h.2.1]

theorem sameLoad.loadEntry {s t : State} (h : sameLoad s t) : t.loadEntry = s.loadEntry := by
  funext k g
  simp only [State.loadEntry, h.2.2]

theorem sameLoad.admits {s t : State} (h : sameLoad s t) {m : Admission} (hm : s.admits m) : t.admits m := by
  refine ⟨hm.1, fun w hw => ?_⟩
  rw [← hm.2 w hw]
  simp only [State.shareFails, h.limit, h.loadEntry]

theorem sameLoad.subShares {s t : State} (h : sameLoad s t) (k : Nat) (ws : List (Int × Nat)) :
    sameLoad (ws.foldl (State.subShare k) s) (ws.foldl (State.subShare k) t) := by
  induction ws generalizing s t with
  | nil => exact h
  | cons w ws ih =>
    apply ih
    unfold State.subShare
    split
    · exact ⟨h.1, h.2.1, by simp only [State.setLoadEntry, State.loadEntry, h.2.2]⟩
    · exact h

theorem sameLoad.withoutShares {s t : State} (h : sameLoad s t) (o : Order) :
    sameLoad (s.withoutShares o) (t.withoutShares o) := h.subShares o.kitchen o.shares

/-! ### What is known of the mode -/

theorem State.knownServing_of_serving {s : State} (h : s.serving = true) : s.knownServing := fun _ => h

theorem State.knownServing_of_rec? {s : State} {i : Nat} {r : Rec} (h : s.rec? i = some r) : s.knownServing := by
  intro he
  by_contra hs
  have := (he (Bool.not_eq_true _ ▸ hs)).1 i
  rw [h] at this
  cases this

theorem State.knownServing_of_waitEntry? {s : State} {w : Nat} {e : WaitEntry} (h : s.waitEntry? w = some e) :
    s.knownServing := by
  intro he
  by_contra hs
  have := (he (Bool.not_eq_true _ ▸ hs)).2.2.1 w
  rw [h] at this
  cases this

/-! ### Changes of a live record or order -/

/-- A change of a live record that keeps its span. -/
theorem does_changeRec_sameSpan {s : State} {i : Nat} {r q : Rec} (hr : s.rec? i = some r) (h : r.sameSpan q) :
    Does c s (s.changeRec i q) :=
  (Act.changeRec i q (State.knownServing_of_rec? hr) (fun _ hb => State.roomFor_of_sameSpan hb hr h)).does

theorem does_changeOrder {s : State} {j : Nat} {o n : Order} (ho : s.order? j = some o) (h : o.sameShares n) :
    Does c s (s.changeOrder j n) := (Act.changeOrder j o n ho h).does

theorem State.rec?_of_named? {s : State} {h : Handle} {r : Rec} (hn : Pool.named? s.book.pool h = some r) :
    s.rec? h.index = some r := (Pool.item?_of_named? hn).1

theorem State.order?_of_named? {s : State} {h : Handle} {o : Order} (hn : Pool.named? s.plan.orders h = some o) :
    s.order? h.index = some o := (Pool.item?_of_named? hn).1

/-! ### Orders -/

theorem does_announceAllOver (s : State) (was : Nat → List Int) : Does c s (s.announceAllOver was) := by
  refine Does.foldl (fun t k => ?_) _ s
  unfold State.announceOver
  split
  · exact .refl t
  · exact does_raise t _

theorem does_withdrawOrder {s : State} {j : Nat} {o : Order} (ho : s.order? j = some o) (b : Bool) :
    Does c s (s.withdrawOrder j o b) := by
  have h : Does c s ((s.freeOrder j .withdrawn).removeLoad o.kitchen o.shares) := (Act.removeOrder j o _ ho).does
  unfold State.withdrawOrder
  dsimp only
  split
  · exact h
  · exact h.trans (does_announceAllOver _ _)

theorem does_forfeitOrder {s : State} {j : Nat} {o : Order} (ho : s.order? j = some o) (b : Bool) (k : Cause)
    (a : Actor) : Does c s (s.forfeitOrder j o b k a) :=
  (does_changeOrder ho (by exact ⟨rfl, rfl, rfl, rfl⟩)).trans (does_raise _ _)

theorem does_unlinkOrder {s : State} {j : Nat} {o : Order} (ho : s.order? j = some o) : Does c s (s.unlinkOrder j o) :=
  does_changeOrder ho (by exact ⟨rfl, rfl, rfl, rfl⟩)

theorem does_deliverOrder {s : State} {j : Nat} {o : Order} (ho : s.order? j = some o) :
    Does c s (s.deliverOrder j o) := does_changeOrder ho (by exact ⟨rfl, rfl, rfl, rfl⟩)

theorem does_orderRoomChanged (s : State) (b : Option Handle) : Does c s (s.orderRoomChanged b) := by
  unfold State.orderRoomChanged
  split
  · exact .refl s
  · exact does_recompute s _

theorem does_followFinish (s : State) (f : Facts) (b : Bool) : Does c s (s.followFinish f b) := by
  unfold State.followFinish
  split
  · exact .refl s
  · split
    · exact .refl s
    next hn =>
      have ho := State.order?_of_named? hn
      split
      · exact does_withdrawOrder ho b
      · exact does_forfeitOrder ho _ _ _
      · exact does_forfeitOrder ho _ _ _
      · exact does_unlinkOrder ho
      · exact does_unlinkOrder ho

/-! ### Finishes -/

theorem does_finishFully (s : State) (i : Nat) (r : Rec) (fin : FinState) (a : Actor) {notify : Facts → State → State}
    (hn : ∀ f t, Does c t (notify f t)) (b : Bool) : Does c s (s.finishFully i r fin a notify b) :=
  ((Act.finishRec i r fin a).does.trans (hn _ _)).trans (does_followFinish _ _ b)

theorem does_noNotice (f : Facts) (s : State) : Does c s (noNotice f s) := .refl s

theorem does_notifyHoldExpired (f : Facts) (s : State) : Does c s (notifyHoldExpired f s) := does_raise s _

theorem does_notifyNoShow (f : Facts) (s : State) : Does c s (notifyNoShow f s) := does_raise s _

theorem does_notifyChanged (a : Actor) (k : Cause) (f : Facts) (s : State) : Does c s (notifyChanged a k f s) :=
  does_raiseChanged s _ _ _ _ _

theorem does_notifyEarlyEnd (k l : Cause) (f : Facts) (s : State) : Does c s (notifyEarlyEnd k l f s) :=
  (does_raise s _).trans (does_raiseChanged _ _ _ _ _ _)

/-! ### The promotion scan -/

theorem Pool.item?_of_lowestFree {α : Type} {p : Pool α} {cap j : Nat} (h : Pool.lowestFree p cap = some j) :
    Pool.item? p j = none := (Pool.lowestFree_spec h).1

theorem does_promote {s : State} {w : Nat} {e : WaitEntry} {room start i : Nat} (he : s.waitEntry? w = some e)
    (hp : s.placement e = some (room, start)) : Does c s (s.promote w e room start i) := by
  have hrec : ∀ o b, Does c s ((s.changeRec i (promotedRec s e room start o b)).freeEntry w
      (.promoted (s.recHandle i))) := fun o b =>
    (Act.changeRec i _ (State.knownServing_of_waitEntry? he) (fun _ hb => by
      obtain ⟨hroom, hfits⟩ := State.placement_some hp
      exact State.roomFor_promotedRec (hb.2.2.1 w e he) hroom hfits i o b)).does.tail (Act.freeEntry w _)
  unfold State.promote
  dsimp only
  split
  · exact ((hrec none false).trans (does_raise _ _)).trans (does_roomChanged _ _)
  · exact (((hrec none true).trans (does_raise _ _)).trans (does_raise _ _)).trans (does_roomChanged _ _)
  next q m hadm =>
    split
    · exact .refl s
    next j hj =>
      obtain ⟨q', -, hpair⟩ := Option.map_eq_some_iff.1 hadm
      obtain ⟨rfl, hok⟩ := Prod.mk.inj hpair
      obtain ⟨hfree, hcap, -⟩ := Pool.lowestFree_spec hj
      have hframe := sameBut_trans (sameBut_mono (m := [.records, .revision, .waitlist]) (by decide)
        (changeRec_sameBut s i (promotedRec s e room start (some (Pool.handle s.plan.orders j)) false)))
        (sameBut_mono (by decide) (freeEntry_sameBut _ w (.promoted (s.recHandle i))))
      refine (((hrec _ false).tail (Act.createOrder j e.requester (s.recHandle i) q' m ?serving ?free hcap
        ?tested)).trans (does_raise _ _)).trans (does_roomChanged _ _)
      case serving => exact State.knownServing_of_rec? (i := i) (rec?_changeRec s i i _ |>.trans (if_pos rfl))
      case free => exact (order?_of_sameBut hframe (by decide) j).trans hfree
      case tested =>
        exact (sameLoad_of_sameBut hframe (by decide)).admits (State.admits_of_admission hok)

theorem does_scan (s : State) (l : List Nat) : Does c s (s.scan l) := by
  induction l generalizing s with
  | nil => exact .refl s
  | cons w l ih =>
    unfold State.scan
    split
    · exact ih s
    next he =>
      split
      · exact ih s
      · split
        · exact ih s
        next hp =>
          split
          · exact .refl s
          · exact (does_promote he hp).trans (ih _)

theorem does_promotionScan (s : State) : Does c s s.promotionScan := does_scan s _

/-- A finish, its room's display and timer, and the one scan (R31, R70). -/
theorem does_finishAndScan (s : State) (i : Nat) (r : Rec) (fin : FinState) (a : Actor) {notify : Facts → State → State}
    (hn : ∀ f t, Does c t (notify f t)) (room : Nat) :
    Does c s ((s.finishFully i r fin a notify false).roomChanged room).promotionScan :=
  ((does_finishFully s i r fin a hn false).trans (does_roomChanged _ _)).trans (does_promotionScan _)

/-! ### Attendance -/

theorem earliest_mem {l : List (Nat × Rec)} {e : Nat × Rec} (h : earliest l = some e) : e ∈ l := by
  induction l generalizing e with
  | nil => simp [earliest] at h
  | cons f l ih =>
    unfold earliest at h
    split at h
    · cases h; exact List.mem_cons_self
    next g hg =>
      simp only [Option.some.injEq] at h
      unfold earlier at h
      split at h
      · cases h; exact List.mem_cons_self
      · cases h; exact List.mem_cons_of_mem _ (ih hg)

theorem State.checkInTarget_mem {s : State} {room : Nat} {e : Nat × Rec} (h : s.checkInTarget room = some e) :
    e ∈ s.liveRecs := (List.mem_filter.1 (earliest_mem h)).1

theorem State.coveringArrived_mem {s : State} {room : Nat} {e : Nat × Rec} (h : s.coveringArrived room = some e) :
    e ∈ s.liveRecs := List.mem_of_find?_eq_some h

theorem does_checkIn {s : State} {i : Nat} {r : Rec} (hs : s.knownServing) (hr : s.tablesOk → s.rec? i = some r)
    (a : Actor) (k : Cause) : Does c s (s.checkIn i r a k) :=
  (((Act.changeRec i (s.checkedIn r) hs (fun hw hb =>
    State.roomFor_of_sameSpan hb (hr hw) ⟨rfl, rfl, rfl, rfl, rfl, rfl, rfl⟩)).does.trans
      (does_raiseChanged _ _ _ _ _ _)).trans (does_roomChanged _ _))

theorem State.serving_of_sensorReady {s : State} {room : Nat} (h : s.sensorReady room = true) : s.serving = true := by
  unfold State.sensorReady at h
  simp only [Bool.and_eq_true] at h
  exact h.1.1.1

theorem does_sensorTest (s : State) (room : Nat) : Does c s (s.sensorTest room) := by
  unfold State.sensorTest
  split
  next hready =>
    split
    · exact .refl s
    next he =>
      exact does_checkIn (State.knownServing_of_serving (State.serving_of_sensorReady hready))
        (fun hw => State.rec?_of_mem_liveRecs hw (State.checkInTarget_mem he)) _ _
  · exact .refl s

theorem does_sensorTestAtAdvance (s : State) (room : Nat) : Does c s (s.sensorTestAtAdvance room) := by
  unfold State.sensorTestAtAdvance
  split
  next hready =>
    dsimp only
    have hserving := State.serving_of_sensorReady hready
    generalize hany : (s.liveRecs.filter (fun e => e.2.room = room && s.windowOpen e.2)).any
      (fun e => e.2.deadline.due) = counted
    have hcount : Does c s (if counted then s.countChoice else s) := .iteBool (does_countChoice s) (.refl s)
    split
    · exact hcount
    · split
      · exact hcount
      next he =>
        have hmem := (List.mem_filter.1 (List.mem_filter.1 (earliest_mem he)).1).1
        refine hcount.trans (does_checkIn ?_ ?_ _ _)
        · cases counted <;> exact State.knownServing_of_serving hserving
        · cases counted <;> exact fun hw => State.rec?_of_mem_liveRecs (s := s) hw hmem
  · exact .refl s

theorem does_earlyEnd (s : State) (i : Nat) (r : Rec) (k l : Cause) : Does c s (s.earlyEnd i r k l) :=
  does_finishAndScan s i _ _ _ (does_notifyEarlyEnd k l) _

theorem does_extendRec {s : State} {i : Nat} {r : Rec} (hs : s.knownServing) (hr : s.tablesOk → s.rec? i = some r)
    (hk : s.extensionFit i r ≠ 0) (a : Actor) : Does c s (s.extendRec i r (s.extensionFit i r) a) :=
  (((Act.changeRec i _ hs (fun hw hb => State.roomFor_extendedRec hw hb (hr hw)
    (State.fitAllows_extensionFit hk))).does.trans (does_raise _ _)).trans (does_raiseChanged _ _ _ _ _ _)).trans
    (does_roomChanged _ _)

theorem does_bookNow {s : State} (hs : s.knownServing) (room : Nat) : Does c s (s.bookNow room) := by
  unfold State.bookNow
  split
  · exact .refl s
  next hspan =>
    split
    · exact .refl s
    next =>
      exact ((Act.changeRec _ _ hs (fun _ hb => State.roomFor_walkupRec hb hspan)).does.trans (does_raise _ _)).trans
        (does_roomChanged _ _)

theorem does_deliveredKey (s : State) (room : Nat) : Does c s (s.deliveredKey room) := by
  unfold State.deliveredKey
  split
  · exact .refl s
  · split
    · exact .refl s
    next hn =>
      have ho := State.order?_of_named? hn
      split
      · exact (does_deliverOrder ho).trans (does_recompute _ _)
      · exact (does_deliverOrder ho).trans (does_recompute _ _)
      · exact .refl s

theorem does_press {s : State} (hs : s.serving = true) (room : Nat) (k : KeyCode) : Does c s (s.press room k) := by
  have hk := State.knownServing_of_serving hs
  cases k with
  | none => exact .refl s
  | checkIn =>
    unfold State.press State.checkInKey
    dsimp only
    split
    · exact .refl s
    next he => exact does_checkIn hk (fun hw => State.rec?_of_mem_liveRecs hw (State.checkInTarget_mem he)) _ _
  | endNow =>
    unfold State.press State.endNowKey
    dsimp only
    split
    · exact .refl s
    · exact does_earlyEnd s _ _ _ _
  | extend =>
    unfold State.press State.extendKey
    dsimp only
    split
    · exact .refl s
    next he =>
      split
      · exact .refl s
      next hfit =>
        exact does_extendRec hk (fun hw => State.rec?_of_mem_liveRecs hw (State.coveringArrived_mem he))
          (fun h => hfit (.inl h)) _
  | bookNow => exact does_bookNow hk room
  | delivered => exact does_deliveredKey s room

/-! ### Deadlines -/

theorem State.dueRec_some {s : State} {i : Nat} {k : DeadlineKind} {r : Rec} (h : s.dueRec i k = some r) :
    s.rec? i = some r ∧ r.deadline.kind = k ∧ r.deadline.due = true := by
  unfold State.dueRec at h
  rw [Option.filter_eq_some_iff] at h
  simpa using h

theorem State.dueOrder_some {s : State} {j : Nat} {k : OrderDeadlineKind} {o : Order} (h : s.dueOrder j k = some o) :
    s.order? j = some o := by
  unfold State.dueOrder at h
  rw [Option.filter_eq_some_iff] at h
  exact h.1

theorem does_takeHoldEnd (s : State) (i : Nat) : Does c s (s.takeHoldEnd i) := by
  unfold State.takeHoldEnd
  split
  · exact .refl s
  · exact does_finishAndScan s i _ _ _ does_notifyHoldExpired _

theorem does_takeArrival (s : State) (i : Nat) : Does c s (s.takeArrival i) := by
  unfold State.takeArrival
  split
  · exact .refl s
  next hd =>
    exact (does_changeRec_sameSpan (State.dueRec_some hd).1
        (by exact ⟨rfl, rfl, rfl, rfl, rfl, rfl, rfl⟩)).trans
      (does_roomChanged _ _)

theorem does_takeGraceEnd (s : State) (i : Nat) : Does c s (s.takeGraceEnd i) := by
  unfold State.takeGraceEnd
  split
  · exact .refl s
  next hd =>
    split
    · exact does_finishAndScan s i _ _ _ does_notifyNoShow _
    · exact (does_changeRec_sameSpan (State.dueRec_some hd).1
        (by exact ⟨rfl, rfl, rfl, rfl, rfl, rfl, rfl⟩)).trans
        (does_roomChanged _ _)

theorem does_takeUnverifiedEnd (s : State) (i : Nat) : Does c s (s.takeUnverifiedEnd i) := by
  unfold State.takeUnverifiedEnd
  split
  · exact .refl s
  · exact does_finishAndScan s i _ _ _ does_noNotice _

theorem does_takeEnd (s : State) (i : Nat) : Does c s (s.takeEnd i) := by
  unfold State.takeEnd
  split
  · exact .refl s
  · exact does_finishAndScan s i _ _ _ does_noNotice _

theorem does_takeExpiry (s : State) (w : Nat) : Does c s (s.takeExpiry w) := by
  unfold State.takeExpiry
  split
  · exact .refl s
  · exact (Act.freeEntry w _).does.trans (does_raise _ _)

theorem does_takeAutoEnd (s : State) (room : Nat) : Does c s (s.takeAutoEnd room) := by
  unfold State.takeAutoEnd
  split
  · exact .refl s
  · split
    · exact .refl s
    · split
      · exact .refl s
      · exact does_earlyEnd s _ _ _ _

theorem does_takeDisplay (s : State) (room : Nat) : Does c s (s.takeDisplay room) := by
  unfold State.takeDisplay
  split
  · exact .refl s
  · exact does_recompute s room

theorem does_takeCutoff (s : State) (j : Nat) : Does c s (s.takeCutoff j) := by
  unfold State.takeCutoff
  split
  · exact .refl s
  next o hd =>
    have ho := State.dueOrder_some hd
    dsimp only
    split
    · exact .refl s
    next h b hb =>
      split
      next =>
        obtain ⟨h', -, hb'⟩ := Option.bind_eq_some_iff.1 hb
        obtain ⟨b', hn, he⟩ := Option.map_eq_some_iff.1 hb'
        cases he
        have hrec := (rec?_of_sameBut (withdrawOrder_sameBut s j o false) (by decide) h.index).trans
          (State.rec?_of_named? hn)
        exact (((does_withdrawOrder ho false).trans (does_changeRec_sameSpan hrec
          (by exact ⟨rfl, rfl, rfl, rfl, rfl, rfl, rfl⟩))).trans (does_raise _ _)).trans (does_recompute _ _)
      next =>
        exact ((does_changeOrder ho (by exact ⟨rfl, rfl, rfl, rfl⟩)).trans (does_raise _ _)).trans (does_recompute _ _)

theorem does_takeDispatch (s : State) (j : Nat) : Does c s (s.takeDispatch j) := by
  unfold State.takeDispatch
  split
  · exact .refl s
  next hd =>
    exact ((does_changeOrder (State.dueOrder_some hd) (by exact ⟨rfl, rfl, rfl, rfl⟩)).trans (does_raise _ _)).trans
      (does_orderRoomChanged _ _)

theorem does_takeLate (s : State) (j : Nat) : Does c s (s.takeLate j) := by
  unfold State.takeLate
  split
  · exact .refl s
  next hd => exact (does_changeOrder (State.dueOrder_some hd) (by exact ⟨rfl, rfl, rfl, rfl⟩)).trans (does_raise _ _)

theorem does_takeRecord (s : State) (i : Nat) : Does c s (s.takeRecord i) := by
  unfold State.takeRecord
  split
  · exact .refl s
  · split
    · exact does_takeHoldEnd s i
    · exact does_takeArrival s i
    · exact does_takeGraceEnd s i
    · exact does_takeUnverifiedEnd s i
    · exact does_takeEnd s i

theorem does_takeOrder (s : State) (j : Nat) : Does c s (s.takeOrder j) := by
  unfold State.takeOrder
  split
  · exact .refl s
  · split
    · exact does_takeCutoff s j
    · exact does_takeDispatch s j
    · exact does_takeLate s j

theorem does_take (s : State) (x : Outstanding) : Does c s (s.take x) := by
  cases x with
  | record i => exact does_takeRecord s i
  | order j => exact does_takeOrder s j
  | entry w => exact does_takeExpiry s w
  | vacancy room => exact does_takeAutoEnd s room
  | display room => exact does_takeDisplay s room

theorem does_nextOutstanding {s t : State} {x : Outstanding} (h : s.nextOutstanding = some (x, t)) : Does c s t := by
  unfold State.nextOutstanding at h
  split at h
  · cases h
  · cases h; exact .refl s
  · cases h; exact does_countChoice s

theorem does_drainUpTo (s : State) (n : Nat) : Does c s (s.drainUpTo n) := by
  induction n generalizing s with
  | zero => exact .refl s
  | succ n ih =>
    unfold State.drainUpTo
    split
    · exact .refl s
    next h => exact ((does_nextOutstanding h).trans (does_take _ _)).trans (ih _)

theorem does_drain (s : State) : Does c s s.drain := does_drainUpTo s _

end Sys2Proof.Machine
end

section
/-! SUPPORT. The runs of acts that the clock and the panel chains make: minute advances, the day rollover, and the events
of a chain. -/

namespace Sys2Proof.Machine

variable {c : Instr}

/-! ### A minute advance -/

theorem does_vacancyTick (s : State) (room : Nat) : Does c s (s.vacancyTick room) := by
  unfold State.vacancyTick
  split
  · split
    · exact .refl s
    · exact (Act.setVacancy room _).does
  · exact (Act.setVacancy room _).does

theorem does_advanceEffects (s : State) : Does c s s.advanceEffects :=
  (Act.markAllDue.does.trans (Does.foldl does_vacancyTick _ _)).trans (Does.foldl does_sensorTestAtAdvance _ _)

/-! ### Snapshots and the chronic decision -/

theorem does_raiseDayRolled (s : State) (k : SnapshotKind) : Does c s (s.raiseDayRolled k) := does_raise s _

theorem does_takeSnapshot (s : State) (k : SnapshotKind) : Does c s (s.takeSnapshot k) :=
  (Act.closePeriod k s.clock.day s.clock.minute).does.trans (does_raiseDayRolled _ k)

theorem does_decideChronic (s : State) (room : Nat) : Does c s (s.decideChronic room) := by
  have h : Does c s (s.setChronic room ((s.chronicState room).decide (s.room room).threshold)) :=
    (Act.setChronic room _).does
  unfold State.decideChronic
  dsimp only
  split
  · exact h
  · exact h.trans (does_raise _ _)

theorem does_monitorRollover (s : State) : Does c s s.monitorRollover :=
  Relation.ReflTransGen.trans (Does.iteBool (does_takeSnapshot s _) (does_raiseDayRolled s _))
    (Does.foldl does_decideChronic _ _)

/-! ### The finishes of a rollover -/

theorem does_rolloverNotice (s : State) (r : Rec) (f : Facts) (t : State) : Does c t ((s.rolloverFate r).2.2 f t) := by
  unfold State.rolloverFate
  split
  · exact does_notifyHoldExpired f t
  · split
    · exact does_noNotice f t
    · split
      · exact does_notifyNoShow f t
      · exact does_noNotice f t
  · exact does_noNotice f t
  · exact does_noNotice f t

theorem does_rolloverFinish (s : State) (i : Nat) : Does c s (s.rolloverFinish i) := by
  unfold State.rolloverFinish
  split
  · exact .refl s
  · exact does_finishFully s i _ _ _ (does_rolloverNotice s _) true

theorem does_bookRollover (s : State) : Does c s s.bookRollover :=
  (Does.foldl does_rolloverFinish _ s).trans (Does.foldl does_roomChanged _ _)

/-- The pool after a finish: one entry is freed (R30). -/
theorem finishRec_pool (s : State) (i : Nat) (r : Rec) (fin : FinState) (a : Actor) :
    (s.finishRec i r fin a).book.pool = Pool.free s.book.pool i :=
  countFinish_sameBut _ _ .records (by decide)

/-- The live records after a finish. -/
theorem rec?_finishRec (s : State) (i j : Nat) (r : Rec) (fin : FinState) (a : Actor) :
    (s.finishRec i r fin a).rec? j = if j = i then none else s.rec? j := by
  unfold State.rec?
  rw [finishRec_pool, Pool.item?_free]

/-- The live records after a finish with its notices and its order's consequence. -/
theorem rec?_finishFully (s : State) (i j : Nat) (r : Rec) (fin : FinState) (a : Actor) {notify : Facts → State → State}
    (hn : ∀ f t, sameBut noticeParts t (notify f t)) (b : Bool) :
    (s.finishFully i r fin a notify b).rec? j = if j = i then none else s.rec? j := by
  unfold State.finishFully
  dsimp only
  rw [rec?_of_sameBut (followFinish_sameBut _ _ b) (by decide), rec?_of_sameBut (hn _ _) (by decide), rec?_finishRec]

theorem rolloverNotice_sameBut (s : State) (r : Rec) (f : Facts) (t : State) :
    sameBut noticeParts t ((s.rolloverFate r).2.2 f t) := by
  unfold State.rolloverFate
  split
  · exact raise_sameBut t _
  · split
    · exact sameBut_refl _ t
    · split
      · exact raise_sameBut t _
      · exact sameBut_refl _ t
  · exact sameBut_refl _ t
  · exact sameBut_refl _ t

theorem rec?_rolloverFinish (s : State) (i j : Nat) :
    (s.rolloverFinish i).rec? j = if j = i then none else s.rec? j := by
  unfold State.rolloverFinish
  split
  next h =>
    split
    next hj => rw [hj]; exact h
    next => rfl
  next => exact rec?_finishFully s i j _ _ _ (rolloverNotice_sameBut s _) true

theorem rec?_foldl_rolloverFinish (l : List Nat) (s : State) (j : Nat) :
    (l.foldl State.rolloverFinish s).rec? j = if j ∈ l then none else s.rec? j := by
  induction l generalizing s with
  | nil => simp
  | cons i l ih =>
    rw [List.foldl_cons, ih, rec?_rolloverFinish]
    by_cases hj : j = i
    · simp [hj]
    · by_cases hl : j ∈ l <;> simp [hj, hl]

theorem State.mem_entriesOfToday {s : State} {i : Nat} {r : Rec} (hr : s.rec? i = some r)
    (hroom : r.room < Config.roomCount) (hplane : r.plane = 0) : i ∈ s.entriesOfToday :=
  List.mem_flatMap.2 ⟨r.room, List.mem_range.2 hroom, List.mem_map.2 ⟨(i, r),
    State.mem_dayList.2 ⟨State.mem_liveRecs_of_rec? hr, rfl, hplane⟩, rfl⟩⟩

/-- No record of a room that exists is left on plane 0. -/
def State.todayEmpty (s : State) : Prop := ∀ i r, s.rec? i = some r → r.room < Config.roomCount → r.plane ≠ 0

theorem roomsChanged_sameBut (l : List Nat) (s : State) : sameBut displayParts s (l.foldl State.roomChanged s) :=
  sameBut_foldl roomChanged_sameBut l s

/-- After the book's part of a rollover plane 0 is empty (R37). -/
theorem State.todayEmpty_bookRollover (s : State) : s.bookRollover.todayEmpty := by
  intro i r hr hroom hplane
  unfold State.bookRollover at hr
  rw [rec?_of_sameBut (roomsChanged_sameBut _ _) (by decide), rec?_foldl_rolloverFinish] at hr
  split at hr
  · cases hr
  next hnot => exact hnot (State.mem_entriesOfToday hr hroom hplane)

/-! ### The served orders -/

theorem does_clearLink (s : State) (b : Option Handle) : Does c s (s.clearLink b) := by
  unfold State.clearLink
  split
  · exact .refl s
  · split
    · exact .refl s
    next hn =>
      exact does_changeRec_sameSpan (State.rec?_of_named? hn) (by exact ⟨rfl, rfl, rfl, rfl, rfl, rfl, rfl⟩)

theorem does_freeServed (s : State) (j : Nat) : Does c s (s.freeServed j) := by
  unfold State.freeServed
  split
  · exact .refl s
  next o ho =>
    exact ((Act.removeOrder j o (servedFinish o) ho).does.tail (Act.countOrder o)).trans (does_clearLink _ _)

theorem countOrder_sameBut (s : State) (o : Order) : sameBut [.kitchenUsage] s (s.countOrder o) := by
  intro x hx
  cases x <;> first
    | exact absurd (by decide) hx
    | rfl
    | exact ⟨rfl, rfl⟩
    | (intro _; first | rfl | exact ⟨rfl, rfl, rfl, rfl⟩)

/-- An order's removal changes the order pool, the revision, the ring and the load table (R148, R156). -/
theorem removeOrder_sameBut (s : State) (j : Nat) (fin : FinState) (k : Nat) (ws : List (Int × Nat)) :
    sameBut [.orders, .revision, .ring, .load] s ((s.freeOrder j fin).removeLoad k ws) :=
  sameBut_trans (sameBut_mono (by decide) (freeOrder_sameBut s j fin)) (sameBut_mono (by decide) (removeLoad_sameBut _ _ _))

theorem State.todayEmpty_of_sameBut {l : List Part} {s t : State} (h : sameBut l s t) (hl : Part.records ∉ l)
    (hs : s.todayEmpty) : t.todayEmpty := fun i r hr => hs i r ((rec?_of_sameBut h hl i).symm.trans hr)

theorem State.todayEmpty_clearLink {s : State} (b : Option Handle) (hs : s.todayEmpty) :
    (s.clearLink b).todayEmpty := by
  unfold State.clearLink
  split
  · exact hs
  · split
    · exact hs
    next x hn =>
      intro i r hr
      rw [rec?_changeRec] at hr
      split at hr
      · cases hr; exact hs _ x (State.rec?_of_named? hn)
      · exact hs i r hr

theorem State.todayEmpty_freeServed {s : State} (j : Nat) (hs : s.todayEmpty) : (s.freeServed j).todayEmpty := by
  unfold State.freeServed
  split
  · exact hs
  · exact State.todayEmpty_clearLink _ (State.todayEmpty_of_sameBut (countOrder_sameBut _ _) (by decide)
      (State.todayEmpty_of_sameBut (removeOrder_sameBut s j _ _ _) (by decide) hs))

/-! ### The day rollover -/

theorem does_rolloverChanges (s : State) : Does c s s.rolloverChanges := by
  have hempty : ∀ (l : List Nat) (t : State), t.todayEmpty → (l.foldl State.freeServed t).todayEmpty := by
    intro l
    induction l with
    | nil => exact fun t ht => ht
    | cons j l ih => exact fun t ht => ih _ (State.todayEmpty_freeServed j ht)
  unfold State.rolloverChanges
  dsimp only
  refine Relation.ReflTransGen.trans ?_ (does_monitorRollover _)
  refine Relation.ReflTransGen.trans ?_ (does_recomputeAll _)
  refine Relation.ReflTransGen.trans ?_ (does_announceAllOver _ _)
  refine Relation.ReflTransGen.tail ?_ (Act.renumber (hempty _ _ (State.todayEmpty_bookRollover _)))
  exact ((does_clock s _).trans (does_bookRollover _)).trans (Does.foldl does_freeServed _ _)

theorem does_rollover (s : State) : Does c s s.rollover :=
  ((does_rolloverChanges s).trans (Does.iteBool (.refl _) (does_promotionScan _))).trans (does_advanceEffects _)

theorem does_settle (s : State) : Does c s s.settle :=
  (does_drain s).trans (Does.iteBool ((does_rollover _).trans (does_drain _)) (.refl _))

theorem does_advanceMinute (s : State) : Does c s s.advanceMinute :=
  Does.iteBool (((does_settle s).trans (does_clock _ _)).trans (does_advanceEffects _)) (.refl s)

theorem does_advanceMinutes (s : State) (n : Nat) : Does c s (s.advanceMinutes n) := by
  induction n generalizing s with
  | zero => exact .refl s
  | succ n ih => exact (does_advanceMinute s).trans (ih _)

/-! ### Chains -/

theorem Chain.Steady.trans {a b d : Chain} (h : a.Steady b) (k : b.Steady d) : a.Steady d :=
  ⟨fun w => k.positions (h.positions w), fun w => k.noted (h.noted w)⟩

theorem Chain.steady_setPosition (a : Chain) (p : Nat) (v : Position) : a.Steady (a.setPosition p v) :=
  ⟨Table.wf_write p v, id⟩

theorem wf_clearAnswered {t : Table Position} (h : Table.wf Position.cold t = true) :
    Table.wf Position.cold (clearAnswered t) = true := Table.wf_revise _ h

theorem Chain.steady_beginEnumeration (a : Chain) : a.Steady a.beginEnumeration :=
  ⟨wf_clearAnswered, fun _ => rfl⟩

theorem Chain.steady_beginRound (a : Chain) : a.Steady a.beginRound := ⟨wf_clearAnswered, id⟩

theorem Chain.steady_enterWait (a : Chain) : a.Steady a.enterWait := by
  unfold Chain.enterWait
  split
  · exact a.steady_beginRound
  · exact ⟨id, id⟩

theorem Chain.steady_leaveEnumeration (a : Chain) : a.Steady a.leaveEnumeration := by
  unfold Chain.leaveEnumeration
  split
  · exact a.steady_beginRound
  · exact ⟨id, id⟩

theorem Chain.steady_rebuild (a : Chain) : a.Steady a.rebuild := ⟨fun _ => Table.wf_build _ _ _, fun _ => rfl⟩

theorem Chain.steady_noteReply (a : Chain) (f : UpFrame) : a.Steady (a.countValid.noteReply f) :=
  ⟨id, Table.wf_write f.address.toNat (some (word32 f.payload))⟩

theorem Chain.steady_enterDisplaySend (a : Chain) : a.Steady a.enterDisplaySend := by
  unfold Chain.enterDisplaySend
  dsimp only
  split
  · exact .trans (b := { a with activity := .displaySend, roundTimeoutAt := none }) ⟨id, id⟩ (Chain.steady_enterWait _)
  · exact ⟨id, id⟩

theorem Chain.steady_endWindow (a : Chain) : a.Steady a.endWindow := by
  unfold Chain.endWindow Chain.judgeWindow
  dsimp only
  split <;> exact ⟨id, id⟩

theorem Chain.steady_afterReset (a : Chain) : a.Steady a.afterReset :=
  ⟨fun w => wf_clearAnswered (Table.wf_revise resetPosition w), fun _ => rfl⟩

theorem does_setPosition (s : State) (n p : Nat) (v : Position) : Does c s (s.setPosition n p v) :=
  (Act.setChain n _ (Chain.steady_setPosition _ p v)).does

theorem does_setChain (s : State) (n : Nat) {v : Chain} (h : (s.chain n).Steady v) : Does c s (s.setChain n v) :=
  (Act.setChain n v h).does

theorem does_markDisplayDue (s : State) (l : Option Location) : Does c s (s.markDisplayDue l) := by
  unfold State.markDisplayDue
  split
  · exact .refl s
  · dsimp only
    split
    · exact does_setPosition s _ _ _
    · exact .refl s

theorem does_relocate (s : State) (room : Nat) (l : Option Location) : Does c s (s.relocate room l) := by
  unfold State.relocate
  split
  · exact .refl s
  · exact ((Act.setLocation room l).does.trans (does_markDisplayDue _ _)).trans (does_markDisplayDue _ _)

theorem does_moveLocation (s : State) (room : Nat) (l : Option Location) : Does c s (s.moveLocation room l) := by
  unfold State.moveLocation
  split
  · exact .refl s
  · exact (does_relocate s room l).trans (does_raise _ _)

theorem does_followBinding (s : State) (room : Nat) (u : Option (BitVec 32)) : Does c s (s.followBinding room u) :=
  ((does_relocate s room _).trans (Does.iteBool (does_sensorTest _ room) (.refl _))).trans (does_recompute _ room)

theorem does_raisePanelState (n : Nat) (room : Option Nat) (s : State) (p : Nat) :
    Does c s (s.raisePanelState n room p) := does_raise s _

theorem does_updateLocations (s : State) (n : Nat) : Does c s (s.updateLocations n) :=
  (Does.foldl (fun t (e : Nat × Nat) => does_moveLocation t e.1 _) _ s).trans
    (Does.foldl (fun t room => does_moveLocation t room none) _ _)

theorem does_markUnbound (s : State) (n : Nat) : Does c s (s.markUnbound n) :=
  Does.foldl (fun t p => does_markDisplayDue t (some ⟨n, p⟩)) _ s

theorem does_endEnumeration (s : State) (n : Nat) : Does c s (s.endEnumeration n) := by
  unfold State.endEnumeration
  dsimp only
  refine Relation.ReflTransGen.trans ?_ (does_setChain _ n (Chain.steady_leaveEnumeration _))
  refine Relation.ReflTransGen.trans ?_ (does_recomputeRooms _ _)
  refine Relation.ReflTransGen.trans ?_ (does_markUnbound _ n)
  refine Relation.ReflTransGen.trans ?_ (does_updateLocations _ n)
  exact (does_setChain s n (Chain.steady_rebuild _)).trans
    (Does.foldl (fun v p => does_raisePanelState n (s.boundRoom n p) v p) _ _)

theorem does_takeEnumReply (s : State) (n : Nat) (f : UpFrame) : Does c s (s.takeEnumReply n f) := by
  have h : Does c s (s.setChain n ((s.chain n).countValid.noteReply f)) := does_setChain s n (Chain.steady_noteReply _ f)
  unfold State.takeEnumReply
  dsimp only
  split
  · exact h.trans (does_endEnumeration _ n)
  · exact h

theorem does_updatePresence (s : State) (n p : Nat) (f : PanelFaults) : Does c s (s.updatePresence n p f) := by
  have h : Does c s (s.setPosition n p (answeredPosition (s.position n p) f)) := does_setPosition s n p _
  unfold State.updatePresence
  dsimp only
  split
  · exact h
  · split
    · exact h.trans (does_raisePanelState _ _ _ _)
    · exact ((h.trans (does_raisePanelState _ _ _ _)).trans (does_sensorTest _ _)).trans (does_recompute _ _)

theorem does_reportOccupied (s : State) (room : Nat) : Does c s (s.reportOccupied room) :=
  Does.iteBool ((Act.setVacancy room { s.vacancy room with minutes := 0 }).does.trans (does_sensorTest _ room)) (.refl s)

theorem does_takeSensor (s : State) (n p : Nat) (raw : SensorRaw) : Does c s (s.takeSensor n p raw) := by
  have h : Does c s (s.setPosition n p (debounce (s.position n p) raw)) := does_setPosition s n p _
  unfold State.takeSensor
  dsimp only
  split
  · split
    · exact h
    · exact h.trans (does_reportOccupied _ _)
  · exact h

theorem does_takeKey (s : State) (n p : Nat) (key : KeyCode) (seq : BitVec 4) : Does c s (s.takeKey n p key seq) := by
  have h : Does c s (s.setPosition n p { s.position n p with lastSeq := some seq }) := does_setPosition s n p _
  unfold State.takeKey
  dsimp only
  split
  · exact .refl s
  · split
    · exact h
    · split
      next hpress =>
        simp only [Bool.and_eq_true] at hpress
        exact h.trans (does_press hpress.1.2 _ _)
      next => exact h

theorem does_takeReply (s : State) (n : Nat) (f : UpFrame) : Does c s (s.takeReply n f) :=
  (((does_updatePresence s n _ _).trans (does_takeSensor _ n _ _)).trans (does_takeKey _ n _ _ _)).trans
    (does_setPosition _ n _ _)

theorem does_takeMiss (n : Nat) (s : State) (p : Nat) : Does c s (State.takeMiss n s p) := by
  have h : Does c s (s.setPosition n p (missedPosition (s.position n p))) := does_setPosition s n p _
  unfold State.takeMiss
  dsimp only
  split
  · exact .refl s
  · split
    · exact h
    · exact (h.trans (does_raisePanelState _ _ _ _)).trans (does_recomputeRooms _ _)

theorem does_endRound (s : State) (n : Nat) : Does c s (s.endRound n) :=
  (Does.foldl (does_takeMiss n) _ s).trans (does_setChain _ n (Chain.steady_enterDisplaySend _))

theorem does_takeRollReply (s : State) (n : Nat) (f : UpFrame) : Does c s (s.takeRollReply n f) := by
  have h : Does c s (s.setChain n { (s.chain n).countValid with lastAnswered := f.address.toNat }) :=
    does_setChain s n (by exact ⟨id, id⟩)
  unfold State.takeRollReply
  dsimp only
  generalize s.setChain n { (s.chain n).countValid with lastAnswered := f.address.toNat } = t at h ⊢
  have hu := h.trans (Does.iteBool (b := (t.position n f.address.toNat).unitId.isSome) (does_takeReply t n f) (.refl t))
  split
  · exact hu.trans (does_endRound _ n)
  · exact hu

theorem does_takeUpFrame (s : State) (n : Nat) (f : UpFrame) : Does c s (s.takeUpFrame n f) := by
  unfold State.takeUpFrame
  split
  · exact does_setChain s n (by exact ⟨id, id⟩)
  · exact does_takeEnumReply s n f
  · exact does_takeRollReply s n f

theorem does_onChain (s : State) (n : Nat) {event : State → State} (h : Does c s (event s)) :
    Does c s (s.onChain n event) := by
  unfold State.onChain
  split
  · exact h
  · exact .refl s

theorem does_passTime (s : State) (n elapsed : Nat) : Does c s (s.setChain n ((s.chain n).passTime elapsed)) :=
  does_setChain s n (by exact ⟨id, id⟩)

theorem does_quietTimer (n : Nat) (s : State) : Does c s (s.quietTimer n) := by
  unfold State.quietTimer
  split
  · exact (does_setChain s n (by exact ⟨id, id⟩)).trans (does_endEnumeration _ n)
  · exact .refl s

theorem does_enumerationStart (n : Nat) (s : State) : Does c s (s.enumerationStart n) := by
  unfold State.enumerationStart
  split
  · exact does_setChain s n (Chain.steady_beginEnumeration _)
  · exact .refl s

theorem does_roundStart (n : Nat) (s : State) : Does c s (s.roundStart n) := by
  unfold State.roundStart
  dsimp only
  split
  · exact .refl s
  next t _ =>
    split
    · exact .refl s
    · split
      · exact does_setChain s n (by exact ⟨id, id⟩)
      · exact does_setChain s n (.trans (b := (s.chain n).reach t) ⟨id, id⟩ (Chain.steady_beginRound _))

theorem does_roundTimeout (n : Nat) (s : State) : Does c s (s.roundTimeout n) := by
  unfold State.roundTimeout
  split
  · exact (does_setChain s n (by exact ⟨id, id⟩)).trans (does_endRound _ n)
  · exact .refl s

theorem does_sendDisplay (n : Nat) (s : State) : Does c s (s.sendDisplay n) := by
  unfold State.sendDisplay
  dsimp only
  split
  next p _ _ =>
    have h := (s.chain n).steady_setPosition p { (s.chain n).position p with due := false }
    split
    · exact does_setChain s n (.trans (b := { (s.chain n).setPosition p { (s.chain n).position p with due := false } with
        sent := [] }) ⟨h.positions, h.noted⟩ (.trans (Chain.steady_enterWait _) ⟨id, id⟩))
    · exact does_setChain s n ⟨h.positions, h.noted⟩
  · exact .refl s

theorem does_raiseChainFlag (s : State) (k : NoticeKind) (n : Nat) (was now : Bool) (count : Nat) :
    Does c s (s.raiseChainFlag k n was now count) := by
  unfold State.raiseChainFlag
  split
  · exact .refl s
  · exact does_raise s _

theorem does_errorWindowEnd (n : Nat) (s : State) : Does c s (s.errorWindowEnd n) :=
  ((does_setChain s n (Chain.steady_endWindow _)).trans (does_raiseChainFlag _ _ _ _ _ _)).trans
    (does_raiseChainFlag _ _ _ _ _ _)

theorem does_resetChain (s : State) (n : Nat) : Does c s (s.resetChain n) := by
  unfold State.resetChain
  dsimp only
  refine Relation.ReflTransGen.trans ?_ (does_recomputeRooms _ _)
  refine Relation.ReflTransGen.trans ?_ (does_raiseChainFlag _ _ _ _ _ _)
  refine Relation.ReflTransGen.trans ?_ (does_raiseChainFlag _ _ _ _ _ _)
  exact (does_setChain s n (Chain.steady_afterReset _)).trans
    (Does.foldl (fun v p => does_raisePanelState n (s.boundRoom n p) v p) _ _)

end Sys2Proof.Machine
end

section
/-! SUPPORT. The runs of acts that the agent commands make, the events of a port's lines, and what a whole step can be:
a cold reset, or a run of acts and port events. -/

namespace Sys2Proof.Machine

variable {c : Instr}

/-! ### Commands that only answer -/

theorem fst_refuse (s : State) (k : Code) (d : Payload) : (refuse s k d).1 = s := rfl

theorem fst_accept (s : State) (d : Payload) (b : Bool) : (accept s d b).1 = s := rfl

theorem runReadRoom_fst (room : Nat) (s : State) : (runReadRoom room s).1 = s := by
  unfold runReadRoom
  split <;> rfl

theorem runQueryBooking_fst (p : Port) (h : Handle) (s : State) : (runQueryBooking p h s).1 = s := by
  unfold runQueryBooking
  repeat' split
  all_goals rfl

theorem runQueryRoomDay_fst (p : Port) (r d i : Nat) (s : State) : (runQueryRoomDay p r d i s).1 = s := by
  unfold runQueryRoomDay
  repeat' split
  all_goals rfl

theorem runQueryWaitlist_fst (p : Port) (i : Nat) (s : State) : (runQueryWaitlist p i s).1 = s := by
  unfold runQueryWaitlist
  repeat' split
  all_goals rfl

theorem runReadPanels_fst (p : Port) (n i : Nat) (s : State) : (runReadPanels p n i s).1 = s := by
  unfold runReadPanels
  repeat' split
  all_goals rfl

theorem runReadKitchenSetup_fst (p : Port) (x : SetupSelector) (s : State) : (runReadKitchenSetup p x s).1 = s := by
  unfold runReadKitchenSetup
  repeat' split
  all_goals rfl

theorem runKitchenLoad_fst (p : Port) (k w n : Nat) (s : State) : (runKitchenLoad p k w n s).1 = s := by
  unfold runKitchenLoad
  repeat' split
  all_goals rfl

theorem runQueryOrder_fst (p : Port) (x : OrderSelector) (s : State) : (runQueryOrder p x s).1 = s := by
  unfold runQueryOrder
  repeat' split
  all_goals rfl

theorem runReadUsage_fst (p : Port) (x : UsageSelector) (s : State) : (runReadUsage p x s).1 = s := by
  unfold runReadUsage
  dsimp only
  repeat' split
  all_goals rfl

theorem runReadRoutes_fst (p : Port) (n : Nat) (s : State) : (runReadRoutes p n s).1 = s := by
  unfold runReadRoutes
  repeat' split
  all_goals rfl

theorem runStatus_fst (p : Port) (s : State) : (runStatus p s).1 = s := rfl

theorem runUnknownCommand_fst (w : BadCommand) (s : State) : (runUnknownCommand w s).1 = s := rfl

theorem Does.of_fst_eq {s : State} {x : State × Reply} (h : x.1 = s) : Does c s x.1 := by
  rw [h]

/-! ### Handles and checks -/

/-- A command that changes a record: what it does to a record found, it does. -/
theorem does_withRecord {s : State} {h : Handle} {k : RecKind} {n : Nat} {go : Rec → State × Reply}
    (hgo : ∀ r, s.rec? h.index = some r → r.kind = k → Does c s (go r).1) : Does c s (s.withRecord h k n go).1 := by
  unfold State.withRecord
  split
  · exact .refl s
  next r hn =>
    split
    · exact .refl s
    next hk =>
      split
      · exact .refl s
      · exact hgo r (State.rec?_of_named? hn) (not_not.1 hk)

theorem does_withOrder {s : State} {h : Handle} {n : Nat} {go : Order → State × Reply}
    (hgo : ∀ o, s.order? h.index = some o → Does c s (go o).1) : Does c s (s.withOrder h n go).1 := by
  unfold State.withOrder
  split
  · exact .refl s
  next o hn =>
    split
    · exact .refl s
    · exact hgo o (State.order?_of_named? hn)

theorem State.serving_of_changeCheck {s : State} {p : Port} {r : Role} (h : s.changeCheck p r = none) :
    s.serving = true := by
  unfold State.changeCheck at h
  split at h
  · cases h
  · split at h
    · cases h
    next hs => simpa using hs

theorem State.serving_of_waitCheck {s : State} {p : Port} (h : s.waitCheck p = none) : s.serving = true := by
  unfold State.waitCheck at h
  split at h
  · cases h
  · split at h
    · cases h
    next hs => simpa using hs

/-! ### The booking commands -/

theorem does_runCheckIn (p : Port) (h : Handle) (n : Nat) (s : State) : Does c s (runCheckIn p h n s).1 := by
  unfold runCheckIn
  split
  · exact .refl s
  · split
    · exact .refl s
    · refine does_withRecord (fun r hr _ => ?_)
      split
      · exact .refl s
      · split
        · exact .refl s
        · exact does_checkIn (State.knownServing_of_rec? hr) (fun _ => hr) _ _

theorem does_runExtend (p : Port) (h : Handle) (n : Nat) (s : State) : Does c s (runExtend p h n s).1 := by
  unfold runExtend
  split
  · exact .refl s
  · split
    · exact .refl s
    · refine does_withRecord (fun r hr _ => ?_)
      split
      · exact .refl s
      · split
        · exact .refl s
        · dsimp only
          split
          · exact .refl s
          next hk => exact does_extendRec (State.knownServing_of_rec? hr) (fun _ => hr) hk _

theorem State.holdOut_eq_false {s : State} {a : HoldArgs} (h : s.holdOut a = false) :
    a.room < Config.roomCount ∧ spanOut a.plane a.start a.stop = false ∧
      lengthOut (startSlot a.start) (stopSlot a.stop) 144 = false := by
  simp only [State.holdOut, Bool.or_eq_false_iff, roomOut, decide_eq_false_iff_not] at h
  obtain ⟨⟨⟨⟨⟨hroom, hspan⟩, hlen⟩, -⟩, -⟩, -⟩ := h
  exact ⟨by unfold Config.roomCount; omega, hspan, hlen⟩

/-- Room for the booking of a HOLD whose placement is free (R24, R42). -/
theorem State.roomFor_heldRec {s : State} {a : HoldArgs} (hout : s.holdOut a = false) (hfree : s.holdConflict a = none)
    (p : Port) (o : Option Handle) (i : Nat) : s.roomFor i (heldRec s p a o) := by
  obtain ⟨hroom, hspan, hlen⟩ := State.holdOut_eq_false hout
  obtain ⟨hplane, -, hstop⟩ := slots_of_spanOut hspan
  obtain ⟨hpos, hlong⟩ := lengthOut_eq_false.1 hlen
  exact State.roomFor_of_freeRun (own := none) ⟨hroom, hplane, hpos, hstop, fun _ => hlong⟩
    (State.firstConflict_eq_none.1 hfree) (by simp)

theorem does_placeHold {s : State} {a : HoldArgs} (hs : s.serving = true) (hout : s.holdOut a = false)
    (hfree : s.holdConflict a = none) (p : Port) (i : Nat) : Does c s (placeHold p a i s).1 := by
  have hrec : ∀ o, Does c s (s.changeRec i (heldRec s p a o)) := fun o =>
    (Act.changeRec i _ (State.knownServing_of_serving hs) (fun _ _ => State.roomFor_heldRec hout hfree p o i)).does
  unfold placeHold
  split
  · exact (hrec none).trans (does_roomChanged _ _)
  · split
    · exact .refl s
    next m hm =>
      split
      · exact .refl s
      next j hj =>
        obtain ⟨hnone, hcap, -⟩ := Pool.lowestFree_spec hj
        have hframe := changeRec_sameBut s i (heldRec s p a (some (Pool.handle s.plan.orders j)))
        dsimp only
        rw [fst_accept]
        refine ((hrec _).tail (Act.createOrder j p _ _ m (State.knownServing_of_serving hs) ?_ hcap ?_)).trans
          (does_roomChanged _ _)
        · exact (order?_of_sameBut hframe (by decide) j).trans hnone
        · exact (sameLoad_of_sameBut hframe (by decide)).admits (State.admits_of_admission hm)

theorem does_busyHold {s : State} {a : HoldArgs} (hs : s.serving = true) (hout : s.holdOut a = false) (p : Port)
    (tag : Byte) (k : Code) (b : Option Handle) (d : Payload) : Does c s (busyHold p tag a k b d s).1 := by
  unfold busyHold
  split
  · exact .refl s
  · split
    · exact .refl s
    · obtain ⟨hroom, hspan, hlen⟩ := State.holdOut_eq_false hout
      obtain ⟨hplane, -, -⟩ := slots_of_spanOut hspan
      obtain ⟨hpos, hlong⟩ := lengthOut_eq_false.1 hlen
      refine (Act.addEntry _ _ hs ⟨?_, hplane, ?_, hlong⟩).does
      · intro r hr
        rw [List.mem_singleton.1 hr]
        exact hroom
      · exact Nat.sub_pos_of_lt hpos

theorem does_runHold (p : Port) (tag : Byte) (a : HoldArgs) (s : State) : Does c s (runHold p tag a s).1 := by
  unfold runHold
  split
  · exact .refl s
  next hcheck =>
    have hs := State.serving_of_changeCheck hcheck
    split
    · exact .refl s
    next hout =>
      have hout := Bool.not_eq_true _ ▸ hout
      iterate 3
        split
        · exact .refl s
      split
      · exact does_busyHold hs hout _ _ _ _ _
      next hfree =>
        split
        · exact does_busyHold hs hout _ _ _ _ _
        · exact does_placeHold hs hout hfree p _

theorem does_runConfirm (p : Port) (h : Handle) (n : Nat) (s : State) : Does c s (runConfirm p h n s).1 := by
  unfold runConfirm
  split
  · exact .refl s
  · split
    · exact .refl s
    · refine does_withRecord (fun r hr _ => ?_)
      split
      · exact .refl s
      · exact ((does_changeRec_sameSpan hr (by exact ⟨rfl, rfl, rfl, rfl, rfl, rfl, rfl⟩)).trans
          (does_raiseChanged _ _ _ _ _ _)).trans (does_roomChanged _ _)

theorem does_runModify (p : Port) (h : Handle) (n : Nat) (a : ModifyArgs) (s : State) :
    Does c s (runModify p h n a s).1 := by
  unfold runModify
  split
  · exact .refl s
  · split
    · exact .refl s
    · refine does_withRecord (fun r hr _ => ?_)
      split
      · exact .refl s
      · split
        · exact .refl s
        · exact ((does_changeRec_sameSpan hr (by exact ⟨rfl, rfl, rfl, rfl, rfl, rfl, rfl⟩)).trans
            (does_raiseChanged _ _ _ _ _ _)).trans (does_roomChanged _ _)

theorem does_finishByPort (s : State) (p : Port) (i : Nat) (r : Rec) (fin : FinState) (k : Cause) :
    Does c s (s.finishByPort p i r fin k) := does_finishAndScan s i r fin _ (does_notifyChanged _ k) _

theorem does_runCancel (p : Port) (h : Handle) (n : Nat) (s : State) : Does c s (runCancel p h n s).1 := by
  unfold runCancel
  split
  · exact .refl s
  · split
    · exact .refl s
    · exact does_withRecord (fun r _ _ => does_finishByPort s p _ r _ _)

theorem does_runUnblock (p : Port) (h : Handle) (n : Nat) (s : State) : Does c s (runUnblock p h n s).1 := by
  unfold runUnblock
  split
  · exact .refl s
  · split
    · exact .refl s
    · exact does_withRecord (fun r _ _ => does_finishByPort s p _ r _ _)

theorem blockOut_eq_false {a : BlockArgs} (h : blockOut a = false) :
    a.room < Config.roomCount ∧ spanOut a.plane a.start a.stop = false ∧
      lengthOut (startSlot a.start) (stopSlot a.stop) 288 = false := by
  simp only [blockOut, Bool.or_eq_false_iff, roomOut, decide_eq_false_iff_not] at h
  obtain ⟨⟨hroom, hspan⟩, hlen⟩ := h
  exact ⟨by unfold Config.roomCount; omega, hspan, hlen⟩

/-- A block's padded interval is its slots (R53). -/
theorem padEnd_blockRec {a : BlockArgs} (h : blockOut a = false) (p : Port) :
    (blockRec p a).padEnd = stopSlot a.stop := by
  obtain ⟨-, hspan, -⟩ := blockOut_eq_false h
  obtain ⟨-, -, hstop⟩ := slots_of_spanOut hspan
  exact Nat.min_eq_left hstop

theorem State.roomFor_blockRec {s : State} {a : BlockArgs} (hout : blockOut a = false)
    (hfree : s.firstConflict a.room a.plane (startSlot a.start) (stopSlot a.stop) none = none) (p : Port) (i : Nat) :
    s.roomFor i (blockRec p a) := by
  obtain ⟨hroom, hspan, hlen⟩ := blockOut_eq_false hout
  obtain ⟨hplane, -, hstop⟩ := slots_of_spanOut hspan
  obtain ⟨hpos, -⟩ := lengthOut_eq_false.1 hlen
  refine State.roomFor_of_freeRun (own := none) ⟨hroom, hplane, hpos, hstop, fun h => nomatch h⟩ ?_ (by simp)
  rw [padEnd_blockRec hout]
  exact State.firstConflict_eq_none.1 hfree

theorem does_runBlock (p : Port) (a : BlockArgs) (s : State) : Does c s (runBlock p a s).1 := by
  unfold runBlock
  split
  · exact .refl s
  next hcheck =>
    split
    · exact .refl s
    next hout =>
      iterate 2
        split
        · exact .refl s
      split
      · exact .refl s
      next hfree =>
        split
        · exact .refl s
        · exact (Act.changeRec _ _ (State.knownServing_of_serving (State.serving_of_changeCheck hcheck))
            (fun _ _ => State.roomFor_blockRec (Bool.not_eq_true _ ▸ hout) hfree p _)).does.trans (does_roomChanged _ _)

/-! ### MOVE -/

theorem does_applyReadmission {s : State} {j : Nat} {o : Order} {q : CaterRequest} {m : Admission}
    (ho : s.order? j = some o) (hm : (s.withoutShares o).admits m) : Does c s (s.applyReadmission j o q m) := by
  unfold State.applyReadmission
  split
  · exact .refl s
  · exact (Act.readmit j o q m ho hm).does.trans (does_announceAllOver _ _)

/-- What is known of the order that a move's plan names. -/
def State.planKnown (s : State) : OrderPlan → Prop
  | .noOrder | .kept => True
  | .readmit j o m => s.order? j = some o ∧ (s.withoutShares o).admits m
  | .withdraw j o | .forfeit j o | .unlink j o => s.order? j = some o

theorem State.planKnown_of_planMove {s : State} {r n : Rec} {drop : Bool} {plan : OrderPlan}
    (h : s.planMove r n drop = .ok plan) : s.planKnown plan := by
  unfold State.planMove at h
  split at h
  · cases h; trivial
  · split at h
    · cases h; trivial
    next hn =>
      have ho := State.order?_of_named? hn
      split at h
      · split at h
        · cases h; exact ho
        · split at h
          · cases h
          next m hm => cases h; exact ⟨ho, State.admits_of_admission hm⟩
      · split at h
        · cases h; exact ho
        · split at h
          · cases h; trivial
          · cases h
      · split at h
        · cases h; exact ho
        · split at h
          · cases h; trivial
          · cases h
      · split at h
        · cases h; exact ho
        · cases h; trivial
      · split at h
        · cases h; exact ho
        · cases h; trivial

theorem State.planKnown_of_sameBut {l : List Part} {s t : State} (h : sameBut l s t)
    (hl : Part.kitchens ∉ l ∧ Part.profile ∉ l ∧ Part.load ∉ l) (ho : Part.orders ∉ l) {plan : OrderPlan}
    (hp : s.planKnown plan) : t.planKnown plan := by
  have hord : ∀ j, t.order? j = s.order? j := order?_of_sameBut h ho
  cases plan with
  | noOrder => trivial
  | kept => trivial
  | readmit j o m =>
    obtain ⟨hj, hm⟩ := hp
    exact ⟨(hord j).trans hj, ((sameLoad_of_sameBut h hl).withoutShares o).admits hm⟩
  | withdraw j o => exact (hord j).trans hp
  | forfeit j o => exact (hord j).trans hp
  | unlink j o => exact (hord j).trans hp

theorem does_applyPlan {s : State} (p : Port) {plan : OrderPlan} (hp : s.planKnown plan) :
    Does c s (s.applyPlan p plan) := by
  cases plan with
  | noOrder => exact .refl s
  | kept => exact .refl s
  | readmit j o m => exact does_applyReadmission hp.1 hp.2
  | withdraw j o => exact does_withdrawOrder hp false
  | forfeit j o => exact does_forfeitOrder hp _ _ _
  | unlink j o => exact does_unlinkOrder hp

theorem does_carryMove {s : State} {p : Port} {h : Handle} {r n : Rec} {plan : OrderPlan}
    (hr : s.rec? h.index = some r) (hn : s.tablesOk → s.bookSound → s.roomFor h.index n) (hp : s.planKnown plan) :
    Does c s (s.carryMove p h r n plan) := by
  have hframe := sameBut_trans (sameBut_mono (m := .records :: .revision :: noticeParts) (by decide)
    (changeRec_sameBut s h.index (s.movedRec r n plan))) (sameBut_mono (by decide)
      (raiseChanged_sameBut _ h r.owner (.port p) .move []))
  unfold State.carryMove
  dsimp only
  refine Relation.ReflTransGen.trans ?_ (does_promotionScan _)
  have hchange : Does c s ((s.changeRec h.index (s.movedRec r n plan)).raiseChanged h r.owner (.port p) .move []) :=
    (Act.changeRec _ _ (State.knownServing_of_rec? hr) (by exact hn)).does.trans (does_raiseChanged _ _ _ _ _ _)
  have hplan := (hchange.trans (does_applyPlan p (State.planKnown_of_sameBut hframe (by decide) (by decide) hp))).trans
    (does_roomChanged _ r.room)
  split
  · exact hplan
  · exact hplan.trans (does_roomChanged _ _)

/-- A booking's destination in range lies in its plane (R42, R49). -/
theorem State.inPlane_movedTo {s : State} {r : Rec} {a : MoveArgs} (hr : r.inPlane)
    (hout : moveOut a = false) : (s.movedTo r a).inPlane := by
  obtain ⟨hroom, hplane, hpos, hday, hlen⟩ := hr
  simp only [moveOut, Bool.or_eq_false_iff] at hout
  obtain ⟨⟨⟨-, hr'⟩, hp'⟩, ht'⟩ := hout
  refine ⟨?room, ?plane, ?slots⟩
  case room =>
    cases h : a.room with
    | none => simpa [State.movedTo, h] using hroom
    | some x =>
      rw [h] at hr'
      simp only [Option.any_some, roomOut, decide_eq_false_iff_not] at hr'
      simp only [State.movedTo, h, Option.getD_some, Config.roomCount]
      omega
  case plane =>
    cases h : a.plane with
    | none => simpa [State.movedTo, h] using hplane
    | some x =>
      rw [h] at hp'
      simp only [Option.any_some, decide_eq_false_iff_not] at hp'
      simp only [State.movedTo, h, Option.getD_some]
      omega
  case slots =>
    cases h : a.times with
    | none =>
      simp only [State.movedTo, h, Option.elim_none]
      exact ⟨hpos, hday, hlen⟩
    | some t =>
      rw [h] at ht'
      simp only [Option.any_some, Bool.or_eq_false_iff] at ht'
      obtain ⟨-, -, hstop⟩ := slots_of_spanOut ht'.1
      obtain ⟨hlt, hle⟩ := lengthOut_eq_false.1 ht'.2
      simpa [State.movedTo, h] using ⟨hlt, hstop, fun _ => by omega⟩

theorem does_tryMove {p : Port} {h : Handle} {a : MoveArgs} {s : State} {r : Rec} (hr : s.rec? h.index = some r)
    (hout : moveOut a = false) : Does c s (tryMove p h a s r).1 := by
  unfold tryMove
  dsimp only
  iterate 3
    split
    · exact .refl s
  split
  · exact .refl s
  next hfree =>
    split
    · exact .refl s
    · split
      · exact .refl s
      next hplan =>
        exact does_carryMove hr (fun _ hb => State.roomFor_of_freeRun
          (State.inPlane_movedTo (hb.2.1 _ r hr) hout) (State.firstConflict_eq_none.1 hfree)
          (fun j hj => (Option.some.inj hj).symm)) (State.planKnown_of_planMove hplan)

theorem does_runMove (p : Port) (h : Handle) (n : Nat) (a : MoveArgs) (s : State) : Does c s (runMove p h n a s).1 := by
  unfold runMove
  split
  · exact .refl s
  · split
    · exact .refl s
    next hout =>
      simp only [Bool.or_eq_true, not_or, Bool.not_eq_true] at hout
      refine does_withRecord (fun r hr _ => ?_)
      split
      · exact .refl s
      · exact does_tryMove hr hout.2

/-! ### The catering commands -/

theorem does_runCaterOrder (p : Port) (h : Handle) (n : Nat) (q : CaterRequest) (s : State) :
    Does c s (runCaterOrder p h n q s).1 := by
  unfold runCaterOrder
  split
  · exact .refl s
  · split
    · exact .refl s
    · refine does_withRecord (fun r hr _ => ?_)
      split
      · exact .refl s
      · split
        · exact .refl s
        next m hm =>
          split
          · exact .refl s
          next j hj =>
            obtain ⟨hnone, hcap, -⟩ := Pool.lowestFree_spec hj
            have hframe := sameBut_trans (sameBut_mono (m := .records :: .revision :: noticeParts) (by decide)
              (changeRec_sameBut s h.index { r with order := some (Pool.handle s.plan.orders j) }))
              (sameBut_mono (by decide) (raiseChanged_sameBut _ h r.owner (.port p) .caterOrder []))
            have hlive := (rec?_of_sameBut (raiseChanged_sameBut (s.changeRec h.index
              { r with order := some (Pool.handle s.plan.orders j) }) h r.owner (.port p) .caterOrder []) (by decide)
              h.index).trans ((rec?_changeRec s h.index h.index _).trans (if_pos rfl))
            refine ((((does_changeRec_sameSpan hr (by exact ⟨rfl, rfl, rfl, rfl, rfl, rfl, rfl⟩)).trans
              (does_raiseChanged _ _ _ _ _ _)).tail (Act.createOrder j p h q m (State.knownServing_of_rec? hlive)
                ?_ hcap ?_))).trans (does_recompute _ _)
            · exact (order?_of_sameBut hframe (by decide) j).trans hnone
            · exact (sameLoad_of_sameBut hframe (by decide)).admits (State.admits_of_admission hm)

theorem does_runCaterChange (p : Port) (h : Handle) (n : Nat) (a : CaterChangeArgs) (s : State) :
    Does c s (runCaterChange p h n a s).1 := by
  unfold runCaterChange
  split
  · exact .refl s
  · split
    · exact .refl s
    · refine does_withOrder (fun o ho => ?_)
      split
      · exact .refl s
      · split
        · exact .refl s
        · dsimp only
          split
          · exact .refl s
          next hm =>
            exact (does_applyReadmission ho (State.admits_of_admission hm)).trans (does_orderRoomChanged _ _)

theorem does_clearCancelledLink (s : State) (p : Port) (b : Option Handle) : Does c s (s.clearCancelledLink p b) := by
  unfold State.clearCancelledLink
  split
  · exact .refl s
  next h x hb =>
    obtain ⟨h', -, hb'⟩ := Option.bind_eq_some_iff.1 hb
    obtain ⟨x', hn, he⟩ := Option.map_eq_some_iff.1 hb'
    cases he
    exact ((does_changeRec_sameSpan (State.rec?_of_named? hn) (by exact ⟨rfl, rfl, rfl, rfl, rfl, rfl, rfl⟩)).trans
      (does_raiseChanged _ _ _ _ _ _)).trans (does_recompute _ _)

theorem does_runCaterCancel (p : Port) (h : Handle) (n : Nat) (s : State) : Does c s (runCaterCancel p h n s).1 := by
  unfold runCaterCancel
  split
  · exact .refl s
  · split
    · exact .refl s
    · refine does_withOrder (fun o ho => ?_)
      split
      · exact (does_withdrawOrder ho false).trans (does_clearCancelledLink _ p _)
      · exact (does_forfeitOrder ho _ _ _).trans (does_orderRoomChanged _ _)
      · exact (does_forfeitOrder ho _ _ _).trans (does_orderRoomChanged _ _)
      · exact .refl s
      · exact .refl s

theorem does_runCaterDelivered (p : Port) (h : Handle) (n : Nat) (s : State) :
    Does c s (runCaterDelivered p h n s).1 := by
  unfold runCaterDelivered
  split
  · exact .refl s
  · split
    · exact .refl s
    · refine does_withOrder (fun o ho => ?_)
      split
      · exact (does_deliverOrder ho).trans (does_orderRoomChanged _ _)
      · exact (does_deliverOrder ho).trans (does_orderRoomChanged _ _)
      · exact .refl s
      · exact .refl s
      · exact .refl s

/-! ### The commands of the site tables and of the device modes -/

theorem does_runConfigSite (p : Port) (n : Nat) (s : State) : Does c s (runConfigSite p n s).1 := by
  unfold runConfigSite
  iterate 3
    split
    · exact .refl s
  split
  · exact .refl s
  · rw [fst_accept]
    exact (Act.registers s.choices s.resetLow s.clock n s.book.listings s.monitor.autoSnapshot).does

theorem does_runConfigRoom (p : Port) (a : ConfigRoomArgs) (s : State) : Does c s (runConfigRoom p a s).1 := by
  unfold runConfigRoom
  iterate 2
    split
    · exact .refl s
  split
  · exact .refl s
  · dsimp only
    split
    · exact .refl s
    · split
      · exact .refl s
      · have h : Does c s (s.setRoom a.room (configuredRoom (s.room a.room) a)) :=
          (Act.setRoom a.room _ (by exact fun h => .inr h)).does
        change Does c s (if _ then _ else _)
        split
        · exact h
        · exact h.trans (does_followBinding _ _ _)

theorem roomCount_of_roomOut {room : Nat} (h : ¬ roomOut room = true) : room < Config.roomCount := by
  simp only [roomOut, decide_eq_true_eq] at h
  unfold Config.roomCount
  omega

theorem does_setRoomOpen {s : State} {room : Nat} (h : ¬ roomOut room = true) (b : Bool) :
    Does c s (s.setRoomOpen room b) :=
  (Act.setRoom room _ (fun _ => .inl (roomCount_of_roomOut h))).does.trans (does_recompute _ _)

theorem does_runOpenRoom (p : Port) (room : Nat) (s : State) : Does c s (runOpenRoom p room s).1 := by
  unfold runOpenRoom
  split
  · exact .refl s
  · split
    · exact .refl s
    next h =>
      split
      · exact .refl s
      · exact does_setRoomOpen h true

theorem does_runCloseRoom (p : Port) (room : Nat) (s : State) : Does c s (runCloseRoom p room s).1 := by
  unfold runCloseRoom
  split
  · exact .refl s
  · split
    · exact .refl s
    next h =>
      split
      · exact .refl s
      · exact does_setRoomOpen h false

theorem does_forceFinish (p : Port) (s : State) (i : Nat) : Does c s (State.forceFinish p s i) := by
  unfold State.forceFinish
  split
  · exact .refl s
  · exact does_finishFully s i _ _ _ (does_notifyChanged _ _) false

theorem does_runCloseRoomForce (p : Port) (room : Nat) (s : State) : Does c s (runCloseRoomForce p room s).1 := by
  unfold runCloseRoomForce
  split
  · exact .refl s
  · split
    · exact .refl s
    next h =>
      dsimp only
      split
      · exact does_setRoomOpen h false
      · split
        · exact .refl s
        · have hclose : Does c s (s.setRoom room { s.room room with isOpen := false }) :=
            (Act.setRoom room _ (by exact fun h => nomatch h)).does
          rw [fst_accept]
          unfold State.forceClose
          exact ((hclose.trans (Does.foldl (does_forceFinish p) _ _)).trans (does_roomChanged _ _)).trans
            (does_promotionScan _)

theorem does_runOpenDevice {p : Port} {tag : Byte} (hc : c = .openDevice p tag) (s : State) :
    Does c s (runOpenDevice p s).1 := by
  unfold runOpenDevice
  iterate 4
    split
    · exact .refl s
  rw [fst_accept]
  exact (Act.serve p tag hc).does.trans (does_recomputeAll _)

theorem does_runReconfigure {p : Port} {tag : Byte} (hc : c = .reconfigure p tag) (s : State) :
    Does c s (runReconfigure p s).1 := by
  unfold runReconfigure
  iterate 2
    split
    · exact .refl s
  rw [fst_accept]
  exact (Act.reconfigure p tag hc).does.trans (does_recomputeAll _)

/-! ### The commands of the clock -/

theorem does_runSetMinuteSync (p : Port) (b : Bool) (s : State) : Does c s (runSetMinuteSync p b s).1 := by
  unfold runSetMinuteSync
  split
  · exact .refl s
  · rw [fst_accept]
    exact does_clock s _

theorem does_runSetTime (p : Port) (d m n : Nat) (s : State) : Does c s (runSetTime p d m n s).1 := by
  unfold runSetTime
  iterate 3
    split
    · exact .refl s
  rw [fst_accept]
  exact ((does_settle s).trans (does_clock _ _)).trans (does_recomputeAll _)

theorem does_runAdjustTimeForward (p : Port) (n : Nat) (s : State) : Does c s (runAdjustTimeForward p n s).1 := by
  unfold runAdjustTimeForward
  iterate 3
    split
    · exact .refl s
  rw [fst_accept]
  exact (does_advanceMinutes s n).trans (does_settle _)

theorem does_runAdjustTimeBackward (p : Port) (n : Nat) (s : State) : Does c s (runAdjustTimeBackward p n s).1 := by
  unfold runAdjustTimeBackward
  iterate 3
    split
    · exact .refl s
  dsimp only
  split
  · exact does_settle s
  · rw [fst_accept]
    exact ((does_settle s).trans (does_clock _ _)).trans (does_recomputeAll _)

theorem does_countSecond (s : State) : Does c s s.countSecond := by
  unfold State.countSecond
  split
  · exact .refl s
  · split
    · exact does_clock s _
    · exact (does_clock s _).trans (does_advanceMinute _)

theorem does_minuteSync (s : State) : Does c s s.minuteSync := by
  unfold State.minuteSync
  split
  · dsimp only
    split
    · exact (does_advanceMinute s).trans (does_clock _ _)
    · exact does_clock s _
  · exact .refl s

/-! ### The commands of the chains, the kitchens, the monitor and the routing table -/

theorem does_runReadLinkCounters (p : Port) (n : Nat) (s : State) : Does c s (runReadLinkCounters p n s).1 := by
  unfold runReadLinkCounters
  iterate 2
    split
    · exact .refl s
  rw [fst_accept]
  exact does_setChain s n (by exact ⟨id, id⟩)

theorem does_runChainReset (p : Port) (n e : Nat) (s : State) : Does c s (runChainReset p n e s).1 := by
  unfold runChainReset
  iterate 2
    split
    · exact .refl s
  rw [fst_accept]
  exact (does_passTime s n e).trans (does_resetChain _ n)

theorem does_runConfigKitchen (p : Port) (k : Nat) (o : Bool) (n : Nat) (s : State) :
    Does c s (runConfigKitchen p k o n s).1 := by
  unfold runConfigKitchen
  iterate 2
    split
    · exact .refl s
  rw [fst_accept]
  exact (Act.setKitchen k ⟨o, n⟩).does.trans (does_announceAllOver _ _)

theorem does_runSetCapacity (p : Port) (k w : Nat) (l : List Nat) (s : State) :
    Does c s (runSetCapacity p k w l s).1 := by
  unfold runSetCapacity
  split
  · exact .refl s
  · split
    · exact .refl s
    next hout =>
      simp only [capacityOut, Bool.or_eq_true, not_or, decide_eq_true_eq, Nat.not_lt] at hout
      have hlen : (storedCapacities l).length = l.length := List.length_map ..
      have h := Act.setProfile (c := c) (s := s) k w (storedCapacities l) (by rw [hlen]; exact hout.2)
      rw [hlen] at h
      rw [fst_accept]
      unfold State.alignWindows
      exact h.does.trans (does_announceAllOver _ _)

theorem does_runDefineClass (p : Port) (m w l n : Nat) (s : State) : Does c s (runDefineClass p m w l n s).1 := by
  unfold runDefineClass
  iterate 2
    split
    · exact .refl s
  rw [fst_accept]
  exact (Act.setClass m _).does

theorem does_runSetTransit (p : Port) (b t0 t1 t2 t3 : Nat) (s : State) :
    Does c s (runSetTransit p b t0 t1 t2 t3 s).1 := by
  unfold runSetTransit
  iterate 2
    split
    · exact .refl s
  rw [fst_accept]
  exact Does.foldl (fun t e => (Act.setTransit b e).does) _ s

theorem does_runSnapshot (p : Port) (s : State) : Does c s (runSnapshot p s).1 := by
  unfold runSnapshot
  split
  · exact .refl s
  · rw [fst_accept]
    exact does_takeSnapshot s _

theorem does_runSetAutoSnapshot (p : Port) (v : Bool) (s : State) : Does c s (runSetAutoSnapshot p v s).1 := by
  unfold runSetAutoSnapshot
  split
  · exact .refl s
  · rw [fst_accept]
    exact (Act.registers s.choices s.resetLow s.clock s.site.buildings s.book.listings v).does

theorem does_runConfigRoute (p : Port) (a : ConfigRouteArgs) (s : State) : Does c s (runConfigRoute p a s).1 := by
  unfold runConfigRoute
  iterate 2
    split
    · exact .refl s
  split
  · exact .refl s
  · rw [fst_accept]
    exact (Act.setRoute a.kind _).does

/-! ### The waitlist, the listing and the masks -/

theorem State.inPlane_entryOf {s : State} {a : WaitAddArgs} (h : s.waitOut a = false) (p : Port) (tag : Byte) :
    (entryOf p tag a).inPlane := by
  simp only [State.waitOut, Bool.or_eq_false_iff] at h
  obtain ⟨⟨⟨⟨⟨⟨⟨hrooms, hspan⟩, hlen⟩, -⟩, -⟩, -⟩, -⟩, -⟩ := h
  obtain ⟨hplane, -, -⟩ := slots_of_spanOut hspan
  obtain ⟨hpos, hlong⟩ := lengthOut_eq_false.1 hlen
  refine ⟨fun r hr => ?_, hplane, Nat.sub_pos_of_lt hpos, hlong⟩
  simp only [roomsOut, Bool.or_eq_false_iff, List.any_eq_false] at hrooms
  exact roomCount_of_roomOut (hrooms.1.2 r hr)

theorem does_runWaitAdd (p : Port) (tag : Byte) (a : WaitAddArgs) (s : State) : Does c s (runWaitAdd p tag a s).1 := by
  unfold runWaitAdd
  split
  · exact .refl s
  next hcheck =>
    split
    · exact .refl s
    next hout =>
      iterate 2
        split
        · exact .refl s
      split
      · exact .refl s
      · exact (Act.addEntry _ _ (State.serving_of_waitCheck hcheck)
          (State.inPlane_entryOf (Bool.not_eq_true _ ▸ hout) p tag)).does.trans (does_scan _ _)

theorem does_runWaitRemove (p : Port) (h : Handle) (s : State) : Does c s (runWaitRemove p h s).1 := by
  unfold runWaitRemove
  split
  · exact .refl s
  · split
    · exact .refl s
    · split
      · exact .refl s
      · have hf : Does c s (s.freeEntry h.index .removed) := (Act.freeEntry _ _).does
        change Does c s (if _ then _ else _)
        split
        · exact hf
        · exact hf.trans (does_raise _ _)

theorem does_sendBatch (s : State) (p : Port) (l : Listing) (k : Option Nat) (o : Bool) :
    Does c s (s.sendBatch p l k o).1 :=
  Relation.ReflTransGen.trans (Does.iteBool (does_countChoice s) (.refl s)) (does_setListing _ p _)

theorem AgentPort.clearOverrun_passive (a : AgentPort) : a.Passive a.clearOverrun where
  receiving := rfl
  base := rfl
  slot := rfl
  inHand := rfl
  frame := by cases h : a.reading <;> simp [AgentPort.clearOverrun, h]
  queue := id

theorem does_runListChanges (p : Port) (n : Nat) (s : State) : Does c s (runListChanges p n s).1 := by
  unfold runListChanges
  iterate 2
    split
    · exact .refl s
  have hclear : Does c s (s.setPort p (s.port p).clearOverrun) :=
    (Act.setPort p (s.port p).clearOverrun rfl (AgentPort.clearOverrun_passive _)).does
  exact hclear.trans (does_sendBatch _ p _ _ _)

theorem does_runListNext (p : Port) (s : State) : Does c s (runListNext p s).1 := by
  unfold runListNext
  split
  · exact .refl s
  · split
    · exact .refl s
    · exact does_sendBatch s p _ _ _

theorem does_runNarrowRoles {p : Port} {tag : Byte} {letter mask : Nat} (hc : c = .narrowRoles p tag letter mask)
    (s : State) : Does c s (runNarrowRoles p letter mask s).1 := by
  unfold runNarrowRoles
  split
  · exact .refl s
  · split
    · exact .refl s
    · split
      · exact .refl s
      · exact (Act.narrow p _ tag letter mask _ hc).does

end Sys2Proof.Machine
end

section
/-! SUPPORT. The events of a port's lines, and what a whole step can be: a cold reset, or a run of acts and port
events. -/

namespace Sys2Proof.Machine

variable {c : Instr}

/-! ### Port events -/

/-- A port's parts agree, and a read of a response is of the one in its slot (12.3, R195). -/
def AgentPort.sound (a : AgentPort) : Prop := a.consistent ∧ a.readsSlot

/-- What an event at a port's edge may do to its record: the mask stays, the queue keeps the form of R183, and the parts
keep agreeing. -/
structure AgentPort.Edge (a b : AgentPort) : Prop where
  roles : b.roles = a.roles
  queue : queueOk a.queue = true → queueOk b.queue = true
  sound : a.sound → b.sound

theorem AgentPort.Edge.refl (a : AgentPort) : a.Edge a := ⟨rfl, id, id⟩

theorem AgentPort.Edge.trans {a b d : AgentPort} (h : a.Edge b) (k : b.Edge d) : a.Edge d :=
  ⟨k.roles.trans h.roles, fun q => k.queue (h.queue q), fun s => k.sound (h.sound s)⟩

/-- An act leaves a port's parts in agreement. -/
theorem AgentPort.Passive.sound {a b : AgentPort} (h : a.Passive b) (hs : a.sound) : b.sound := by
  obtain ⟨hrec, hbase, hslot, hhand, hframe, -⟩ := h
  obtain ⟨⟨hsl, hin, hread⟩, hresp⟩ := hs
  refine ⟨⟨by rw [hslot, hbase]; exact hsl, by rw [hhand, hbase]; exact hin, fun hr => ?_⟩, fun r x hr hx => ?_⟩
  · rw [hread (hrec ▸ hr)] at hframe
    simpa using hframe
  · rw [hr] at hframe
    cases ha : a.reading with
    | none => rw [ha] at hframe; cases hframe
    | some q =>
      rw [ha] at hframe
      rw [hslot]
      exact hresp q x ha ((Option.some.inj hframe).symm.trans hx)

theorem AgentPort.Passive.edge {a b : AgentPort} (h : a.Passive b) (hr : b.roles = a.roles) : a.Edge b :=
  ⟨hr, h.queue, h.sound⟩

theorem AgentPort.edge_setFlags (a : AgentPort) (f : PortFlags) : a.Edge (a.setFlags f) :=
  (a.setFlags_passive f).edge rfl

/-- A port that stops receiving keeps its parts in agreement. -/
theorem AgentPort.edge_stopReceiving (a : AgentPort) : a.Edge { a with receiving := false } :=
  ⟨rfl, id, fun h => ⟨⟨h.1.1, h.1.2.1, (fun hr => nomatch hr)⟩, h.2⟩⟩

theorem AgentPort.edge_stopReading (a : AgentPort) : a.Edge { a with reading := none } :=
  ⟨rfl, id, fun h => ⟨⟨h.1.1, h.1.2.1, fun _ => rfl⟩, (fun _ _ hr => nomatch hr)⟩⟩

theorem AgentPort.edge_dropFrame (a : AgentPort) (f : PortFlags) : a.Edge (a.dropFrame f) :=
  a.edge_stopReceiving.trans (AgentPort.edge_setFlags _ f)

theorem AgentPort.edge_takeFrame (a : AgentPort) (k : Taken) : a.Edge (a.takeFrame k) := by
  unfold AgentPort.takeFrame
  split
  next hb =>
    refine ⟨rfl, id, fun ⟨⟨hsl, _, _⟩, hresp⟩ => ⟨⟨?_, ?_, (fun hr => nomatch hr)⟩, hresp⟩⟩
    · simp only [hsl, hb]
      decide
    · simp
  next => exact a.edge_stopReceiving.trans (AgentPort.edge_setFlags _ _)

/-- A response placed at a port that has a command in hand (R191). -/
theorem AgentPort.edge_place {a : AgentPort} (h : a.inHand.isSome) (r : Response) : a.Edge (a.place r) := by
  refine ⟨rfl, id, fun ⟨⟨hsl, hin, hread⟩, hresp⟩ => ⟨⟨by simp [AgentPort.place], by simp [AgentPort.place], hread⟩,
    fun q x hq hx => ?_⟩⟩
  have hempty : a.slot = none := by
    rw [← Option.not_isSome_iff_eq_none, hsl, hin.1 h]
    decide
  have hfull := hresp q x hq hx
  rw [hempty] at hfull
  cases hfull

theorem AgentPort.quiet_iff (a : AgentPort) : a.quiet = true ↔ a.receiving = false ∧ a.reading = none := by
  simp [AgentPort.quiet]

theorem AgentPort.edge_openCommand (a : AgentPort) : a.Edge a.openCommand := by
  unfold AgentPort.openCommand
  split
  next hq =>
    have hread := (a.quiet_iff.1 hq).2
    exact ⟨rfl, id, fun h => ⟨⟨h.1.1, h.1.2.1, fun _ => hread⟩, h.2⟩⟩
  next => exact .refl a

theorem AgentPort.edge_voidFirst (first : Byte) (a : AgentPort) : a.Edge (a.voidFirst first) := by
  unfold AgentPort.voidFirst
  split
  · exact a.edge_setFlags _
  · exact .refl a

theorem AgentPort.edge_lengthFault (n : Byte) (a : AgentPort) : a.Edge (a.lengthFault n) := by
  unfold AgentPort.lengthFault
  split
  · exact a.edge_dropFrame _
  · exact .refl a

theorem AgentPort.edge_completeFrame (f : CommandFrame) (k : Taken) (a : AgentPort) : a.Edge (a.completeFrame f k) := by
  unfold AgentPort.completeFrame
  split
  · exact .refl a
  · split
    · exact a.edge_takeFrame k
    · exact a.edge_dropFrame _

theorem AgentPort.edge_selEarly (a : AgentPort) : a.Edge a.selEarly := by
  unfold AgentPort.selEarly
  split
  · exact a.edge_dropFrame _
  · exact .refl a

theorem AgentPort.edge_stall (b : Bool) (a : AgentPort) : a.Edge (a.stall b) := by
  unfold AgentPort.stall
  split
  · exact .refl a
  · exact (a.edge_stopReceiving.trans (AgentPort.edge_stopReading _)).trans (AgentPort.edge_setFlags _ _)

theorem AgentPort.edge_openRead (a : AgentPort) : a.Edge a.openRead := by
  unfold AgentPort.openRead
  split
  next hq =>
    have hrec := (a.quiet_iff.1 hq).1
    refine ⟨rfl, id, fun h => ⟨⟨h.1.1, h.1.2.1, fun hr => ?_⟩, fun r x hr hx => ?_⟩⟩
    · rw [hrec] at hr
      cases hr
    · cases hr
      unfold AgentPort.chooseFrame at hx
      split at hx
      next hs => cases hx; exact hs
      next => split at hx <;> cases hx
  next => exact .refl a

theorem removeTopic_sublist (n : Notice) (l : List Notice) : (removeTopic n l).Sublist l := by
  induction l with
  | nil => exact .refl _
  | cons m l ih =>
    unfold removeTopic
    split
    · exact List.sublist_cons_self m l
    · exact ih.cons_cons m

theorem AgentPort.edge_finishRead (a : AgentPort) : a.Edge a.finishRead := by
  unfold AgentPort.finishRead
  split
  · exact .refl a
  next r hr =>
    unfold AgentPort.removeItem
    split
    next x hx =>
      refine ⟨rfl, id, fun ⟨⟨hsl, hin, _⟩, hresp⟩ => ⟨⟨by simp, ?_, fun _ => rfl⟩, (fun _ _ h => nomatch h)⟩⟩
      have hslot := hresp r x hr hx
      have hbase : a.base = .answerReady := hsl.1 (by rw [hslot]; rfl)
      rw [hbase] at hin
      simpa using hin
    next n hn =>
      split
      · exact a.edge_stopReading.trans (.mk rfl id id)
      · exact ⟨rfl, queueOk_sublist (removeTopic_sublist n _),
          fun h => ⟨⟨h.1.1, h.1.2.1, fun _ => rfl⟩, (fun _ _ hr => nomatch hr)⟩⟩
    next => exact a.edge_stopReading.trans (.mk rfl id id)

theorem AgentPort.edge_cutRead (a : AgentPort) : a.Edge a.cutRead := by
  unfold AgentPort.cutRead
  split
  · exact a.edge_stopReading.trans (AgentPort.edge_setFlags _ _)
  · exact .refl a

/-! ### Steps -/

/-- One act, or one event at a port's edge, while the part runs `c`. -/
inductive Move (c : Instr) (s : State) : State → Prop
  | act {t : State} (h : Act c s t) : Move c s t
  | edge (p : Port) (a : AgentPort) (h : (s.port p).Edge a) : Move c s (s.setPort p a)

/-- A run of acts and port events. -/
abbrev Moves (c : Instr) : State → State → Prop := Relation.ReflTransGen (Move c)

theorem Does.moves {s t : State} (h : Does c s t) : Moves c s t := by
  induction h with
  | refl => exact .refl
  | tail _ ha ih => exact ih.tail (.act ha)

theorem Moves.keeps {P : State → Prop} (h : ∀ s t, P s → Move c s t → P t) {s t : State} (hd : Moves c s t)
    (hs : P s) : P t := by
  induction hd with
  | refl => exact hs
  | tail _ ha ih => exact h _ _ ih ha

theorem State.port_setPort (s : State) (p q : Port) (a : AgentPort) :
    (s.setPort p a).port q = if q = p then a else s.port q := by
  split
  next h => rw [h]; exact s.port_setPort_same p a
  next h => exact s.port_setPort_other p q a h

theorem State.port_congr {s t : State} (h : t.ports = s.ports) (p : Port) : t.port p = s.port p := by
  unfold State.port
  rw [h]

theorem AgentPort.Passive.refl (a : AgentPort) : a.Passive a := ⟨rfl, rfl, rfl, rfl, rfl, id⟩

theorem AgentPort.Passive.trans {a b d : AgentPort} (h : a.Passive b) (k : b.Passive d) : a.Passive d :=
  ⟨k.receiving.trans h.receiving, k.base.trans h.base, k.slot.trans h.slot, k.inHand.trans h.inHand,
    k.frame.trans h.frame, fun q => k.queue (h.queue q)⟩

theorem AgentPort.emptyQueue_passive (a : AgentPort) : a.Passive a.emptyQueue where
  receiving := rfl
  base := rfl
  slot := rfl
  inHand := rfl
  frame := by cases h : a.reading <;> simp [AgentPort.emptyQueue, h]
  queue := fun _ => rfl

theorem alignFold_ports (k : Nat) (l : List Nat) (s : State) : (l.foldl (State.alignOver k) s).ports = s.ports := by
  induction l generalizing s with
  | nil => rfl
  | cons g l ih => exact ih _

theorem subFold_ports (k : Nat) (l : List (Int × Nat)) (s : State) : (l.foldl (State.subShare k) s).ports = s.ports := by
  induction l generalizing s with
  | nil => rfl
  | cons w l ih =>
    rw [List.foldl_cons, ih]
    unfold State.subShare
    split <;> rfl

theorem addFold_ports (k : Nat) (l : List (Int × Nat)) (s : State) : (s.commitShares k l).ports = s.ports := by
  unfold State.commitShares
  induction l generalizing s with
  | nil => rfl
  | cons w l ih =>
    rw [List.foldl_cons, ih]
    unfold State.addShare
    split <;> rfl

theorem writeTombstone_ports (s : State) (t : Tombstone) : (s.writeTombstone t).ports = s.ports := by
  unfold State.writeTombstone
  split <;> rfl

theorem countFinish_ports (s : State) (f : Facts) : (s.countFinish f).ports = s.ports := by
  unfold State.countFinish
  split <;> rfl

theorem finishRec_ports (s : State) (i : Nat) (r : Rec) (fin : FinState) (a : Actor) :
    (s.finishRec i r fin a).ports = s.ports := by
  unfold State.finishRec
  dsimp only
  rw [countFinish_ports, State.setPool_ports, writeTombstone_ports, State.advanceRev_ports]

theorem freeOrder_ports (s : State) (j : Nat) (fin : FinState) : (s.freeOrder j fin).ports = s.ports := by
  unfold State.freeOrder
  dsimp only
  rw [State.setOrders_ports, writeTombstone_ports, State.advanceRev_ports]

theorem removeLoad_ports (s : State) (k : Nat) (ws : List (Int × Nat)) : (s.removeLoad k ws).ports = s.ports := by
  unfold State.removeLoad State.alignFallen
  rw [alignFold_ports, subFold_ports]

theorem moveLoad_ports (s : State) (k : Nat) (o : List (Int × Nat)) (j : Nat) (n : List (Int × Nat)) :
    (s.moveLoad k o j n).ports = s.ports := by
  unfold State.moveLoad State.alignFallen
  dsimp only
  rw [alignFold_ports, addFold_ports, subFold_ports]

/-- What an act does to the ports: nothing, or what is passive at each. -/
theorem Act.port_passive {s t : State} (h : Act c s t) (p : Port) : (s.port p).Passive (t.port p) := by
  have of_ports : t.ports = s.ports → (s.port p).Passive (t.port p) := fun h => by
    rw [State.port_congr h]
    exact .refl _
  cases h with
  | setPort q a hr h =>
    rw [State.port_setPort]
    split
    next hq => subst hq; exact h
    next => exact .refl _
  | narrow q q' tag letter mask m hc =>
    rw [State.port_setPort]
    split
    next hq => subst hq; exact ⟨rfl, rfl, rfl, rfl, rfl, id⟩
    next => exact .refl _
  | reconfigure q tag hc => cases p <;> exact AgentPort.emptyQueue_passive _
  | finishRec i r fin a => exact of_ports (finishRec_ports s i r fin a)
  | createOrder j q b k m hs ho hj hm => exact of_ports (addFold_ports _ _ s)
  | readmit j o q m ho hm => exact of_ports (moveLoad_ports s _ _ _ _)
  | removeOrder j o fin ho => exact of_ports ((removeLoad_ports _ _ _).trans (freeOrder_ports s j fin))
  | setKitchen k v => exact of_ports (alignFold_ports k _ _)
  | setProfile k first values h => exact of_ports (alignFold_ports k _ _)
  | registers | setClass | setTransit | setRoute | setLocation | setDisplay | setVacancy | setChronic | setRoom
  | setChain | changeRec | changeOrder | addEntry | freeEntry | markAllDue | renumber | closePeriod | countOrder
  | serve => exact of_ports rfl

theorem Does.port_passive {s t : State} (h : Does c s t) (p : Port) : (s.port p).Passive (t.port p) := by
  induction h with
  | refl => exact .refl _
  | tail _ ha ih => exact ih.trans (ha.port_passive p)

/-- A command answered: a run of acts, and the response placed. -/
theorem moves_answer {s : State} {p : Port} (tag : Byte) {run : State → State × Reply} (h : (s.port p).inHand.isSome)
    (hr : Does c s (run s).1) : Moves c s (s.answer p tag run) := by
  refine hr.moves.tail (Move.edge p _ (AgentPort.edge_place ?_ _))
  rw [(hr.port_passive p).inHand]
  exact h

theorem moves_atPort (s : State) (p : Port) (tag : Byte) (cmd : Command) {run : State → State × Reply}
    (hr : ∀ t, Does c t (run t).1) : Moves c s (s.atPort p tag cmd run) := by
  unfold State.atPort
  split
  · exact .refl
  · split
    next hh =>
      refine moves_answer tag ?_ (hr s)
      unfold AgentPort.holdsCommand at hh
      cases h : (s.port p).inHand with
      | none => rw [h] at hh; cases hh
      | some => rfl
    next =>
      split
      · exact .refl
      · dsimp only
        have htake : Moves c s (s.setPort p ((s.port p).takeFrame (s.takenNow p tag cmd))) :=
          .single (Move.edge p _ (AgentPort.edge_takeFrame _ _))
        split
        next hb =>
          refine htake.trans (moves_answer tag ?_ (hr _))
          rw [State.port_setPort_same]
          unfold AgentPort.takeFrame
          rw [hb]
          rfl
        next => exact htake

theorem moves_onPort (s : State) (p : Port) {event : AgentPort → AgentPort} (h : ∀ a : AgentPort, a.Edge (event a)) :
    Moves c s (s.onPort p event) := by
  unfold State.onPort
  split
  · exact .refl
  · exact .single (Move.edge p _ (h _))

/-- The state COLD_RESET leaves (R197). -/
def State.afterCold (s : State) (x y z : RoleMask) : State :=
  { State.cold x y z with pending := s.pending, choices := s.choices }

/-- What a step can be: every command and event but COLD_RESET is a run of acts and port events. -/
theorem exec_moves (c : Instr) (s : State) :
    (∃ x y z, c = .coldReset x y z ∧ exec c s = .next (s.afterCold x y z)) ∨ ∃ t, exec c s = .next t ∧ Moves c s t := by
  have answers : ∀ (p : Port) (tag : Byte) (cmd : Command) (run : State → State × Reply), (∀ t, (run t).1 = t) →
      Moves c s (s.atPort p tag cmd run) := fun p tag cmd run h => moves_atPort s p tag cmd (fun t => .of_fst_eq (h t))
  cases hc : c with
  | coldReset x y z => exact .inl ⟨x, y, z, rfl, rfl⟩
  | resetAsserted =>
    exact .inr ⟨_, rfl, (Act.registers s.choices true s.clock s.site.buildings s.book.listings
      s.monitor.autoSnapshot).does.moves⟩
  | secondTick => exact .inr ⟨_, rfl, (does_countSecond s).moves⟩
  | minuteAdvance => exact .inr ⟨_, rfl, (does_advanceMinute s).moves⟩
  | dayRollover =>
    exact .inr ⟨_, rfl, (Does.iteBool ((does_drain s).trans (does_rollover _)) (.refl s)).moves⟩
  | minuteSync => exact .inr ⟨_, rfl, (does_minuteSync s).moves⟩
  | holdEnd i => exact .inr ⟨_, rfl, (does_takeHoldEnd s i).moves⟩
  | arrival i => exact .inr ⟨_, rfl, (does_takeArrival s i).moves⟩
  | graceEnd i => exact .inr ⟨_, rfl, (does_takeGraceEnd s i).moves⟩
  | unverifiedEnd i => exact .inr ⟨_, rfl, (does_takeUnverifiedEnd s i).moves⟩
  | endDeadline i => exact .inr ⟨_, rfl, (does_takeEnd s i).moves⟩
  | waitExpiry i => exact .inr ⟨_, rfl, (does_takeExpiry s i).moves⟩
  | autoEnd r => exact .inr ⟨_, rfl, (does_takeAutoEnd s r).moves⟩
  | displayDeadline r => exact .inr ⟨_, rfl, (does_takeDisplay s r).moves⟩
  | cutoffDeadline i => exact .inr ⟨_, rfl, (does_takeCutoff s i).moves⟩
  | dispatchDeadline i => exact .inr ⟨_, rfl, (does_takeDispatch s i).moves⟩
  | lateDeadline i => exact .inr ⟨_, rfl, (does_takeLate s i).moves⟩
  | readRoom p tag r => subst hc; exact .inr ⟨_, rfl, answers p tag _ _ (runReadRoom_fst r)⟩
  | configSite p tag n => exact .inr ⟨_, rfl, moves_atPort s p tag _ (does_runConfigSite p n)⟩
  | configRoom p tag a => exact .inr ⟨_, rfl, moves_atPort s p tag _ (does_runConfigRoom p a)⟩
  | openRoom p tag r => exact .inr ⟨_, rfl, moves_atPort s p tag _ (does_runOpenRoom p r)⟩
  | closeRoom p tag r => exact .inr ⟨_, rfl, moves_atPort s p tag _ (does_runCloseRoom p r)⟩
  | closeRoomForce p tag r => exact .inr ⟨_, rfl, moves_atPort s p tag _ (does_runCloseRoomForce p r)⟩
  | openDevice p tag => exact .inr ⟨_, rfl, moves_atPort s p tag _ (does_runOpenDevice rfl)⟩
  | reconfigure p tag => exact .inr ⟨_, rfl, moves_atPort s p tag _ (does_runReconfigure rfl)⟩
  | setMinuteSync p tag e => exact .inr ⟨_, rfl, moves_atPort s p tag _ (does_runSetMinuteSync p e)⟩
  | setTime p tag d m n => exact .inr ⟨_, rfl, moves_atPort s p tag _ (does_runSetTime p d m n)⟩
  | adjustTimeForward p tag n => exact .inr ⟨_, rfl, moves_atPort s p tag _ (does_runAdjustTimeForward p n)⟩
  | adjustTimeBackward p tag n => exact .inr ⟨_, rfl, moves_atPort s p tag _ (does_runAdjustTimeBackward p n)⟩
  | hold p tag a => exact .inr ⟨_, rfl, moves_atPort s p tag _ (does_runHold p tag a)⟩
  | confirm p tag h e => exact .inr ⟨_, rfl, moves_atPort s p tag _ (does_runConfirm p h e)⟩
  | modify p tag h e a => exact .inr ⟨_, rfl, moves_atPort s p tag _ (does_runModify p h e a)⟩
  | move p tag h e a => exact .inr ⟨_, rfl, moves_atPort s p tag _ (does_runMove p h e a)⟩
  | cancel p tag h e => exact .inr ⟨_, rfl, moves_atPort s p tag _ (does_runCancel p h e)⟩
  | block p tag a => exact .inr ⟨_, rfl, moves_atPort s p tag _ (does_runBlock p a)⟩
  | unblock p tag h e => exact .inr ⟨_, rfl, moves_atPort s p tag _ (does_runUnblock p h e)⟩
  | queryBooking p tag h => subst hc; exact .inr ⟨_, rfl, answers p tag _ _ (runQueryBooking_fst p h)⟩
  | queryRoomDay p tag r d i => subst hc; exact .inr ⟨_, rfl, answers p tag _ _ (runQueryRoomDay_fst p r d i)⟩
  | listChanges p tag n => exact .inr ⟨_, rfl, moves_atPort s p tag _ (does_runListChanges p n)⟩
  | listNext p tag => exact .inr ⟨_, rfl, moves_atPort s p tag _ (does_runListNext p)⟩
  | waitAdd p tag a => exact .inr ⟨_, rfl, moves_atPort s p tag _ (does_runWaitAdd p tag a)⟩
  | waitRemove p tag h => exact .inr ⟨_, rfl, moves_atPort s p tag _ (does_runWaitRemove p h)⟩
  | queryWaitlist p tag i => subst hc; exact .inr ⟨_, rfl, answers p tag _ _ (runQueryWaitlist_fst p i)⟩
  | checkIn p tag h e => exact .inr ⟨_, rfl, moves_atPort s p tag _ (does_runCheckIn p h e)⟩
  | extend p tag h e => exact .inr ⟨_, rfl, moves_atPort s p tag _ (does_runExtend p h e)⟩
  | readLinkCounters p tag n => exact .inr ⟨_, rfl, moves_atPort s p tag _ (does_runReadLinkCounters p n)⟩
  | chainReset p tag n e => exact .inr ⟨_, rfl, moves_atPort s p tag _ (does_runChainReset p n e)⟩
  | readPanels p tag n i => subst hc; exact .inr ⟨_, rfl, answers p tag _ _ (runReadPanels_fst p n i)⟩
  | configKitchen p tag k o n => exact .inr ⟨_, rfl, moves_atPort s p tag _ (does_runConfigKitchen p k o n)⟩
  | setCapacity p tag k w l => exact .inr ⟨_, rfl, moves_atPort s p tag _ (does_runSetCapacity p k w l)⟩
  | defineClass p tag m w l n => exact .inr ⟨_, rfl, moves_atPort s p tag _ (does_runDefineClass p m w l n)⟩
  | setTransit p tag b t0 t1 t2 t3 => exact .inr ⟨_, rfl, moves_atPort s p tag _ (does_runSetTransit p b t0 t1 t2 t3)⟩
  | readKitchenSetup p tag x => subst hc; exact .inr ⟨_, rfl, answers p tag _ _ (runReadKitchenSetup_fst p x)⟩
  | kitchenLoad p tag k w n => subst hc; exact .inr ⟨_, rfl, answers p tag _ _ (runKitchenLoad_fst p k w n)⟩
  | caterOrder p tag h e q => exact .inr ⟨_, rfl, moves_atPort s p tag _ (does_runCaterOrder p h e q)⟩
  | caterChange p tag h e a => exact .inr ⟨_, rfl, moves_atPort s p tag _ (does_runCaterChange p h e a)⟩
  | caterCancel p tag h e => exact .inr ⟨_, rfl, moves_atPort s p tag _ (does_runCaterCancel p h e)⟩
  | caterDelivered p tag h e => exact .inr ⟨_, rfl, moves_atPort s p tag _ (does_runCaterDelivered p h e)⟩
  | queryOrder p tag x => subst hc; exact .inr ⟨_, rfl, answers p tag _ _ (runQueryOrder_fst p x)⟩
  | snapshot p tag => exact .inr ⟨_, rfl, moves_atPort s p tag _ (does_runSnapshot p)⟩
  | setAutoSnapshot p tag v => exact .inr ⟨_, rfl, moves_atPort s p tag _ (does_runSetAutoSnapshot p v)⟩
  | readUsage p tag x => subst hc; exact .inr ⟨_, rfl, answers p tag _ _ (runReadUsage_fst p x)⟩
  | configRoute p tag a => exact .inr ⟨_, rfl, moves_atPort s p tag _ (does_runConfigRoute p a)⟩
  | readRoutes p tag n => subst hc; exact .inr ⟨_, rfl, answers p tag _ _ (runReadRoutes_fst p n)⟩
  | status p tag => subst hc; exact .inr ⟨_, rfl, answers p tag _ _ (runStatus_fst p)⟩
  | narrowRoles p tag l m => exact .inr ⟨_, rfl, moves_atPort s p tag _ (does_runNarrowRoles rfl)⟩
  | unknownCommand p tag w => subst hc; exact .inr ⟨_, rfl, answers p tag _ _ (runUnknownCommand_fst w)⟩
  | commandSyncByte p => exact .inr ⟨_, rfl, moves_onPort s p AgentPort.edge_openCommand⟩
  | voidTransaction p b => exact .inr ⟨_, rfl, moves_onPort s p (AgentPort.edge_voidFirst b)⟩
  | commandFrameLengthFault p n => exact .inr ⟨_, rfl, moves_onPort s p (AgentPort.edge_lengthFault n)⟩
  | commandFrameCompletes p f => exact .inr ⟨_, rfl, moves_onPort s p (AgentPort.edge_completeFrame f _)⟩
  | selRaisedEarly p => exact .inr ⟨_, rfl, moves_onPort s p AgentPort.edge_selEarly⟩
  | stalledClock p => exact .inr ⟨_, rfl, moves_onPort s p.port (AgentPort.edge_stall _)⟩
  | readByte p => exact .inr ⟨_, rfl, moves_onPort s p AgentPort.edge_openRead⟩
  | readCompletesWhole p => exact .inr ⟨_, rfl, moves_onPort s p AgentPort.edge_finishRead⟩
  | readCutShort p => exact .inr ⟨_, rfl, moves_onPort s p AgentPort.edge_cutRead⟩
  | upstreamFrame n e f =>
    exact .inr ⟨_, rfl, (does_onChain s n ((does_passTime s n e).trans (does_takeUpFrame _ n f))).moves⟩
  | quietTimer n => exact .inr ⟨_, rfl, (does_onChain s n (does_quietTimer n s)).moves⟩
  | enumerationStart n => exact .inr ⟨_, rfl, (does_onChain s n (does_enumerationStart n s)).moves⟩
  | roundStart n => exact .inr ⟨_, rfl, (does_onChain s n (does_roundStart n s)).moves⟩
  | roundTimeout n => exact .inr ⟨_, rfl, (does_onChain s n (does_roundTimeout n s)).moves⟩
  | displayFrameSent n e =>
    exact .inr ⟨_, rfl, (does_onChain s n ((does_passTime s n e).trans (does_sendDisplay n _))).moves⟩
  | errorWindowEnd n => exact .inr ⟨_, rfl, (does_onChain s n (does_errorWindowEnd n s)).moves⟩

/-- A property that the acts, the port events and a cold reset keep, every step keeps. -/
theorem exec_keeps {P : State → Prop} {c : Instr} (hcold : ∀ s x y z, P s → P (State.afterCold s x y z))
    (h : ∀ s t, P s → Move c s t → P t) {s t : State} (hs : P s) (he : exec c s = .next t) : P t := by
  rcases exec_moves c s with ⟨x, y, z, -, hx⟩ | ⟨u, hu, hm⟩
  · rw [hx] at he
    cases he
    exact hcold s x y z hs
  · rw [hu] at he
    cases he
    exact hm.keeps h hs

end Sys2Proof.Machine
end

section
/-! SUPPORT. What every step keeps of the waiting commands, the mode and the role masks. -/

namespace Sys2Proof.Machine

variable {c : Instr}

/-- The parts that only commands of their own change. -/
def coreParts : List Part := [.pending, .mode, .roles]

theorem mem_coreParts {q : Part} : q ∈ coreParts ↔ q = .pending ∨ q = .mode ∨ q = .roles := by
  simp [coreParts]

theorem agree_core_of_eq {s t : State} {q : Part} (hq : q ∈ coreParts) (hp : t.pending = s.pending)
    (hm : t.site.mode = s.site.mode) (hr : ∀ p, (t.port p).roles = (s.port p).roles) : q.agree s t := by
  rcases mem_coreParts.1 hq with rfl | rfl | rfl
  · exact hp
  · exact hm
  · exact hr

theorem agree_core_of_sameBut {s t : State} {l : List Part} {q : Part} (hq : q ∈ coreParts) (h : sameBut l s t)
    (hl : ∀ x ∈ coreParts, x ∉ l) : q.agree s t := h q (hl q hq)

theorem roles_setPort (s : State) (p : Port) {a : AgentPort} (hr : a.roles = (s.port p).roles) (x : Port) :
    ((s.setPort p a).port x).roles = (s.port x).roles := by
  rw [State.port_setPort]
  split
  next h => rw [hr, h]
  next => rfl

/-- `c` is a command that sets the device mode (R8 to R10). -/
def setsMode (c : Instr) : Prop := (∃ p tag, c = .openDevice p tag) ∨ ∃ p tag, c = .reconfigure p tag

/-- The mode changes only by OPEN and RECONFIGURE, a role mask only where NARROW_ROLES narrows it, and the waiting
commands by no act. -/
theorem Act.agree_core {s t : State} (h : Act c s t) {q : Part} (hq : q ∈ coreParts) :
    q.agree s t ∨ (q = .mode ∧ setsMode c) ∨
    (q = .roles ∧ (∃ p tag l m, c = .narrowRoles p tag l m) ∧ ∃ p m, t = s.setPort p ((s.port p).narrow m)) := by
  cases h with
  | setPort p a hr _ => exact .inl (agree_core_of_eq hq rfl rfl (roles_setPort s p hr))
  | narrow p p' tag l m k hc =>
    rcases mem_coreParts.1 hq with rfl | rfl | rfl
    · exact .inl rfl
    · exact .inl rfl
    · exact .inr (.inr ⟨rfl, ⟨p, tag, l, m, hc⟩, p', k, rfl⟩)
  | finishRec i r fin a => exact .inl (agree_core_of_sameBut hq (finishRec_sameBut s i r fin a) (by decide))
  | createOrder j p b x m _ _ _ _ => exact .inl (agree_core_of_sameBut hq (createOrder_sameBut s j p b x m) (by decide))
  | readmit j o x m _ _ =>
    exact .inl (Part.agree_trans (agree_core_of_sameBut hq (moveLoad_sameBut s _ _ _ _) (by decide))
      (agree_core_of_sameBut hq (changeOrder_sameBut _ j _) (by decide)))
  | removeOrder j o fin _ => exact .inl (agree_core_of_sameBut hq (removeOrder_sameBut s j fin _ _) (by decide))
  | setKitchen k v =>
    exact .inl (Part.agree_trans (t := s.setKitchen k v) (agree_core_of_eq hq rfl rfl (fun _ => rfl))
      (agree_core_of_sameBut hq (sameBut_foldl (l := [.load]) (alignOver_sameBut k) _ _) (by decide)))
  | setProfile k first values _ =>
    exact .inl (Part.agree_trans
      (t := { s with plan := { s.plan with profile := storeProfile s.plan.profile k first values } })
      (agree_core_of_eq hq rfl rfl (fun _ => rfl))
      (agree_core_of_sameBut hq (sameBut_foldl (l := [.load]) (alignOver_sameBut k) _ _) (by decide)))
  | serve p tag hc =>
    rcases mem_coreParts.1 hq with rfl | rfl | rfl
    · exact .inl rfl
    · exact .inr (.inl ⟨rfl, .inl ⟨p, tag, hc⟩⟩)
    · exact .inl (fun _ => rfl)
  | reconfigure p tag hc =>
    rcases mem_coreParts.1 hq with rfl | rfl | rfl
    · exact .inl (by simp only [Part.agree, State.clearBooking])
    · exact .inr (.inl ⟨rfl, .inr ⟨p, tag, hc⟩⟩)
    · refine .inl (fun p => ?_)
      cases p <;> simp only [State.port, State.clearBooking, PerPort.at, AgentPort.emptyQueue]
  | registers | setClass | setTransit | setRoute | setLocation | setDisplay | setVacancy | setChronic | setRoom
  | setChain | changeRec | changeOrder | addEntry | freeEntry | markAllDue | renumber | closePeriod | countOrder =>
    exact .inl (agree_core_of_eq hq rfl rfl (fun _ => rfl))

theorem Move.agree_core {s t : State} (h : Move c s t) {q : Part} (hq : q ∈ coreParts) :
    q.agree s t ∨ (q = .mode ∧ setsMode c) ∨
    (q = .roles ∧ (∃ p tag l m, c = .narrowRoles p tag l m) ∧ ∃ p m, t = s.setPort p ((s.port p).narrow m)) := by
  cases h with
  | act h => exact h.agree_core hq
  | edge p a h => exact .inl (agree_core_of_eq hq rfl rfl (roles_setPort s p h.roles))

theorem Moves.pending_eq {s t : State} (h : Moves c s t) : t.pending = s.pending :=
  h.keeps (P := fun u => u.pending = s.pending) (fun a b ha hab => by
    rcases hab.agree_core (q := .pending) (by decide) with hp | ⟨hp, -⟩ | ⟨hp, -⟩
    · exact hp.trans ha
    · cases hp
    · cases hp) rfl

theorem Moves.mode_eq {s t : State} (h : Moves c s t) (hc : ¬ setsMode c) : t.site.mode = s.site.mode :=
  h.keeps (P := fun u => u.site.mode = s.site.mode) (fun a b ha hab => by
    rcases hab.agree_core (q := .mode) (by decide) with hp | ⟨-, hm⟩ | ⟨hp, -⟩
    · exact hp.trans ha
    · exact absurd hm hc
    · cases hp) rfl

theorem Moves.roles_eq {s t : State} (h : Moves c s t) (hc : ∀ p tag l m, c ≠ .narrowRoles p tag l m) (p : Port) :
    (t.port p).roles = (s.port p).roles :=
  h.keeps (P := fun u => (u.port p).roles = (s.port p).roles) (fun a b ha hab => by
    rcases hab.agree_core (q := .roles) (by decide) with hp | ⟨hp, -⟩ | ⟨-, ⟨q, tag, l, m, hn⟩, -⟩
    · exact (hp p).trans ha
    · cases hp
    · exact absurd hn (hc q tag l m)) rfl

theorem roleIn_meet (m n : RoleMask) (r : Role) : roleIn (RoleMask.meet m n) r = (roleIn m r && roleIn n r) := by
  cases r <;> rfl

/-- No run adds a role to a mask (R190). -/
theorem Moves.role_of_role {s t : State} (h : Moves c s t) (p : Port) (r : Role) :
    roleIn (t.port p).roles r = true → roleIn (s.port p).roles r = true :=
  h.keeps (P := fun u => roleIn (u.port p).roles r = true → roleIn (s.port p).roles r = true) (fun a b ha hab hb => by
    refine ha ?_
    rcases hab.agree_core (q := .roles) (by decide) with hp | ⟨hp, -⟩ | ⟨-, -, q, m, rfl⟩
    · rwa [hp p] at hb
    · cases hp
    · rw [State.port_setPort] at hb
      split at hb
      next h =>
        rw [AgentPort.narrow, roleIn_meet] at hb
        rw [h]
        exact (Bool.and_eq_true_iff.1 hb).1
      next => exact hb) id

/-! ### Their statements -/

/-- Settles O2: a step is a cold reset, which keeps the queue, or a run of acts, none of which touches it. -/
theorem queueIsUntouched : Obligations.QueueIsUntouched := by
  unfold Obligations.QueueIsUntouched
  intro c s
  rcases exec_moves c s with ⟨x, y, z, -, h⟩ | ⟨t, h, hm⟩
  · exact ⟨_, h, rfl⟩
  · exact ⟨t, h, hm.pending_eq⟩

theorem moves_of_exec {s t : State} (h : exec c s = .next t) (hc : ∀ x y z, c ≠ .coldReset x y z) : Moves c s t := by
  rcases exec_moves c s with ⟨x, y, z, hx, -⟩ | ⟨u, hu, hm⟩
  · exact absurd hx (hc x y z)
  · rw [hu] at h
    cases h
    exact hm

/-- Settles O10: no act but NARROW_ROLES' own touches a role mask, and that one only takes roles away; no act but those
of OPEN and RECONFIGURE touches the mode. -/
theorem onlyTheirCommandsChangeMasksAndMode : Obligations.OnlyTheirCommandsChangeMasksAndMode := by
  unfold Obligations.OnlyTheirCommandsChangeMasksAndMode
  refine ⟨fun c s t p r h hc => ?_, fun c s t h hc hopen hrec => ?_⟩
  · have hm := moves_of_exec h hc
    exact ⟨hm.role_of_role p r, fun hn => hm.roles_eq hn p⟩
  · refine (moves_of_exec h hc).mode_eq ?_
    rintro (⟨p, tag, rfl⟩ | ⟨p, tag, rfl⟩)
    · exact hopen p tag rfl
    · exact hrec p tag rfl

/-- A port's queue is as R183 keeps it, and stays so. -/
theorem Move.queueOk {s t : State} (h : Move c s t) (hs : s.queuesOk) : t.queuesOk := by
  intro p
  cases h with
  | act h => exact (h.port_passive p).queue (hs p)
  | edge q a h =>
    rw [State.port_setPort]
    split
    next hq => exact h.queue (hs q)
    next => exact hs p

theorem Move.portsOk {s t : State} (h : Move c s t) (hs : s.portsOk) : t.portsOk := by
  intro p
  cases h with
  | act h => exact (h.port_passive p).sound (hs p)
  | edge q a h =>
    rw [State.port_setPort]
    split
    next hq => exact h.sound (hs q)
    next => exact hs p

theorem State.port_cold (x y z : RoleMask) (p : Port) : ∃ m, (State.cold x y z).port p = AgentPort.cold m := by
  cases p
  · exact ⟨x, rfl⟩
  · exact ⟨y, rfl⟩
  · exact ⟨z, rfl⟩

theorem queuesOk_cold (x y z : RoleMask) : (State.cold x y z).queuesOk := by
  intro p
  obtain ⟨m, hm⟩ := State.port_cold x y z p
  rw [hm]
  rfl

theorem portsOk_cold (x y z : RoleMask) : (State.cold x y z).portsOk := by
  intro p
  obtain ⟨m, hm⟩ := State.port_cold x y z p
  rw [hm]
  exact ⟨⟨by simp [AgentPort.cold], by simp [AgentPort.cold], fun _ => rfl⟩, fun _ _ h => by cases h⟩

/-- Settles O52: an act offers notices, drops a copy or empties a queue; a port event removes a notice at most. -/
theorem queuesStayOrdered : Obligations.QueuesStayOrdered := by
  unfold Obligations.QueuesStayOrdered
  intro c s t hs h
  exact exec_keeps (P := State.queuesOk) (fun _ x y z _ => queuesOk_cold x y z) (fun _ _ hs h => h.queueOk hs) hs h

/-- Settles O53: no act touches a port's slot, command or state, and every port event keeps them in agreement. -/
theorem portsStayConsistent : Obligations.PortsStayConsistent := by
  unfold Obligations.PortsStayConsistent
  intro c s t hs h
  exact exec_keeps (P := State.portsOk) (fun _ x y z _ => portsOk_cold x y z) (fun _ _ hs h => h.portsOk hs) hs h

end Sys2Proof.Machine
end

section
/-! SUPPORT. What every step keeps of the revisions and the tombstone ring. -/

namespace Sys2Proof.Machine

variable {c : Instr}

/-- The revisions and the ring are in order, and the counter stands at `base` or above (R32, R33, R35). -/
structure State.RevsFrom (base : Nat) (s : State) : Prop where
  counter : s.book.rev ≤ Config.revMax
  recs : ∀ i r, s.rec? i = some r → r.rev ≤ s.book.rev
  orders : ∀ j o, s.order? j = some o → o.rev ≤ s.book.rev
  tombs : ∀ t, t ∈ s.book.ring → t.rev ≤ s.book.rev
  ring : s.ringOk
  low : base ≤ s.book.rev

variable {base : Nat}

theorem State.revsFrom_iff (s : State) : s.RevsFrom base ↔ s.revisionsOk ∧ s.ringOk ∧ base ≤ s.book.rev :=
  ⟨fun ⟨h1, h2, h3, h4, h5, h6⟩ => ⟨⟨h1, h2, h3, h4⟩, h5, h6⟩,
    fun ⟨⟨h1, h2, h3, h4⟩, h5, h6⟩ => ⟨h1, h2, h3, h4, h5, h6⟩⟩

theorem revsFrom_of_sameBut {l : List Part} {s t : State} (h : sameBut l s t)
    (hl : ∀ x ∈ [Part.records, .revision, .ring, .orders], x ∉ l) (hs : s.RevsFrom base) : t.RevsFrom base := by
  obtain ⟨h1, h2, h3, h4, h5, h6⟩ := hs
  have hrev : t.book.rev = s.book.rev := h .revision (hl _ (by decide))
  have hring : t.book.ring = s.book.ring := (h .ring (hl _ (by decide))).1
  refine ⟨by rwa [hrev], fun i r hr => ?_, fun j o ho => ?_, fun x hx => ?_, ?_, by rwa [hrev]⟩
  · rw [rec?_of_sameBut h (hl _ (by decide))] at hr
    rw [hrev]
    exact h2 i r hr
  · rw [order?_of_sameBut h (hl _ (by decide))] at ho
    rw [hrev]
    exact h3 j o ho
  · rw [hring] at hx
    rw [hrev]
    exact h4 x hx
  · unfold State.ringOk
    rwa [hring]

theorem le_satAdd_one {n : Nat} (h : n ≤ Config.revMax) : n ≤ satAdd Config.revMax n 1 := by
  unfold satAdd
  omega

theorem satAdd_le (top n m : Nat) : satAdd top n m ≤ top := Nat.min_le_right _ _

theorem revsFrom_advanceRev {s : State} (hs : s.RevsFrom base) : s.advanceRev.RevsFrom base := by
  obtain ⟨h1, h2, h3, h4, h5, h6⟩ := hs
  have hle := le_satAdd_one h1
  exact ⟨satAdd_le _ _ _, fun i r hr => (h2 i r hr).trans hle, fun j o ho => (h3 j o ho).trans hle,
    fun x hx => (h4 x hx).trans hle, h5, h6.trans hle⟩

theorem revsFrom_changeRec {s : State} (i : Nat) (r : Rec) (hs : s.RevsFrom base) : (s.changeRec i r).RevsFrom base := by
  obtain ⟨h1, h2, h3, h4, h5, h6⟩ := revsFrom_advanceRev hs
  refine ⟨h1, fun j q hq => ?_, h3, h4, h5, h6⟩
  rw [rec?_changeRec] at hq
  split at hq
  · cases hq
    exact Nat.le_refl _
  · exact h2 j q hq

theorem revsFrom_changeOrder {s : State} (i : Nat) (o : Order) (hs : s.RevsFrom base) :
    (s.changeOrder i o).RevsFrom base := by
  obtain ⟨h1, h2, h3, h4, h5, h6⟩ := revsFrom_advanceRev hs
  refine ⟨h1, h2, fun j q hq => ?_, h4, h5, h6⟩
  rw [order?_changeOrder] at hq
  split at hq
  · cases hq
    exact Nat.le_refl _
  · exact h3 j q hq

/-- A pool with fewer live records, or the same with the same revisions, keeps the order of the revisions. -/
theorem revsFrom_setPool {s : State} {x : Pool Rec} (hs : s.RevsFrom base)
    (h : ∀ i r, Pool.item? x i = some r → ∃ j q, s.rec? j = some q ∧ r.rev = q.rev) : (s.setPool x).RevsFrom base := by
  obtain ⟨h1, h2, h3, h4, h5, h6⟩ := hs
  refine ⟨h1, fun i r hr => ?_, h3, h4, h5, h6⟩
  obtain ⟨j, q, hq, he⟩ := h i r hr
  rw [he]
  exact h2 j q hq

theorem revsFrom_setOrders {s : State} {x : Pool Order} (hs : s.RevsFrom base)
    (h : ∀ i r, Pool.item? x i = some r → ∃ j q, s.order? j = some q ∧ r.rev = q.rev) :
    (s.setOrders x).RevsFrom base := by
  obtain ⟨h1, h2, h3, h4, h5, h6⟩ := hs
  refine ⟨h1, h2, fun i r hr => ?_, h4, h5, h6⟩
  obtain ⟨j, q, hq, he⟩ := h i r hr
  rw [he]
  exact h3 j q hq

/-- Freeing an entry brings no new record. -/
theorem item?_of_free {α : Type} [DecidableEq α] {p : Pool α} {i j : Nat} {r : α}
    (h : Pool.item? (Pool.free p i) j = some r) : Pool.item? p j = some r := by
  rw [Pool.item?_free] at h
  split at h
  · cases h
  · exact h

/-- A tombstone with the present revision keeps the ring in order (R35). -/
theorem revsFrom_writeTombstone {s : State} {x : Tombstone} (hx : x.rev = s.book.rev) (hs : s.RevsFrom base) :
    (s.writeTombstone x).RevsFrom base := by
  obtain ⟨h1, h2, h3, h4, ⟨hlen, hord⟩, h6⟩ := hs
  have append : ∀ l : List Tombstone, l.Sublist s.book.ring → l.length < Config.ringCap →
      (∀ y, y ∈ l ++ [x] → y.rev ≤ s.book.rev) ∧ (l ++ [x]).length ≤ Config.ringCap ∧
      (l ++ [x]).Pairwise (fun a b => a.rev ≤ b.rev) := by
    intro l hl hn
    have hmem : ∀ y, y ∈ l → y.rev ≤ s.book.rev := fun y hy => h4 y (hl.subset hy)
    refine ⟨fun y hy => ?_, by simpa using hn, ?_⟩
    · rcases List.mem_append.1 hy with hy | hy
      · exact hmem y hy
      · rw [List.mem_singleton.1 hy, hx]
    · refine List.pairwise_append.2 ⟨hord.sublist hl, List.pairwise_singleton _ _, fun a ha b hb => ?_⟩
      rw [List.mem_singleton.1 hb, hx]
      exact hmem a ha
  unfold State.writeTombstone
  split
  next h =>
    obtain ⟨ht, hl, hp⟩ := append _ (.refl _) h
    exact ⟨h1, h2, h3, ht, ⟨hl, hp⟩, h6⟩
  next h =>
    obtain ⟨ht, hl, hp⟩ := append s.book.ring.tail (List.tail_sublist _) (by
      rw [List.length_tail]
      have : 0 < Config.ringCap := by decide
      omega)
    exact ⟨h1, h2, h3, ht, ⟨hl, hp⟩, h6⟩

theorem revsFrom_finishRec {s : State} (i : Nat) (r : Rec) (fin : FinState) (a : Actor) (hs : s.RevsFrom base) :
    (s.finishRec i r fin a).RevsFrom base := by
  unfold State.finishRec
  dsimp only
  refine revsFrom_of_sameBut (countFinish_sameBut _ _) (by decide) (revsFrom_setPool
    (revsFrom_writeTombstone (by rfl) (revsFrom_advanceRev hs)) (fun j q hq => ⟨j, q, ?_, rfl⟩))
  rw [rec?_of_sameBut (writeTombstone_sameBut _ _) (by decide)]
  exact item?_of_free hq

theorem revsFrom_freeOrder {s : State} (j : Nat) (fin : FinState) (hs : s.RevsFrom base) :
    (s.freeOrder j fin).RevsFrom base := by
  unfold State.freeOrder
  dsimp only
  refine revsFrom_setOrders (revsFrom_writeTombstone (by rfl) (revsFrom_advanceRev hs)) (fun i q hq => ⟨i, q, ?_, rfl⟩)
  rw [order?_of_sameBut (writeTombstone_sameBut _ _) (by decide)]
  exact item?_of_free hq

theorem item?_mapLive_some {α : Type} {p : Pool α} {f : α → α} {i : Nat} {r : α}
    (h : Pool.item? (Pool.mapLive p f) i = some r) : ∃ q, Pool.item? p i = some q ∧ r = f q := by
  rw [Pool.item?_mapLive] at h
  obtain ⟨q, hq, he⟩ := Option.map_eq_some_iff.1 h
  exact ⟨q, hq, he.symm⟩

/-- A pool all of whose entries were freed holds no record (R10, R39). -/
theorem item?_renewAll {α : Type} [DecidableEq α] (p : Pool α) (cap i : Nat) : Pool.item? (Pool.renewAll p cap) i = none := by
  unfold Pool.item? Pool.entry
  refine Table.read_of_all (P := fun e : PoolEntry α => e.item = none) rfl (fun e he => ?_) i
  obtain ⟨j, -, hj⟩ := List.mem_filterMap.1 he
  split at hj
  · cases hj
  · cases hj
    rfl

theorem Rec.markDue_rev (now : Int) (r : Rec) : (Rec.markDue now r).rev = r.rev := by
  unfold Rec.markDue
  split <;> rfl

/-- An act that replaces each live record and order by one of the same revision. -/
theorem revsFrom_of_maps {s t : State} {f : Rec → Rec} {g : Order → Order} (hs : s.RevsFrom base)
    (hrev : t.book.rev = s.book.rev) (hring : t.book.ring = s.book.ring)
    (hpool : t.book.pool = Pool.mapLive s.book.pool f) (horders : t.plan.orders = Pool.mapLive s.plan.orders g)
    (hf : ∀ r, (f r).rev = r.rev) (hg : ∀ o, (g o).rev = o.rev) : t.RevsFrom base := by
  obtain ⟨h1, h2, h3, h4, h5, h6⟩ := hs
  refine ⟨by rwa [hrev], fun i r hr => ?_, fun j o ho => ?_, fun x hx => ?_, ?_, by rwa [hrev]⟩
  · unfold State.rec? at hr
    rw [hpool] at hr
    obtain ⟨q, hq, rfl⟩ := item?_mapLive_some hr
    rw [hf, hrev]
    exact h2 i q hq
  · unfold State.order? at ho
    rw [horders] at ho
    obtain ⟨q, hq, rfl⟩ := item?_mapLive_some ho
    rw [hg, hrev]
    exact h3 j q hq
  · rw [hring] at hx
    rw [hrev]
    exact h4 x hx
  · unfold State.ringOk
    rwa [hring]

/-- A book without records, orders and tombstones. -/
theorem revsFrom_of_empty {s t : State} (hs : s.RevsFrom base) (hrev : t.book.rev = s.book.rev) (hring : t.book.ring = [])
    (hrec : ∀ i, t.rec? i = none) (hord : ∀ j, t.order? j = none) : t.RevsFrom base where
  counter := by rw [hrev]; exact hs.counter
  recs i r hr := by rw [hrec] at hr; cases hr
  orders j o ho := by rw [hord] at ho; cases ho
  tombs x hx := by rw [hring] at hx; cases hx
  ring := by unfold State.ringOk; rw [hring]; exact ⟨Nat.zero_le _, List.Pairwise.nil⟩
  low := by rw [hrev]; exact hs.low

theorem State.clearBooking_pool (s : State) : s.clearBooking.book.pool = Pool.renewAll s.book.pool Config.bookCap := by
  unfold State.clearBooking Book.reconfigured
  with_reducible rfl

theorem State.clearBooking_rev (s : State) : s.clearBooking.book.rev = s.book.rev := by
  unfold State.clearBooking Book.reconfigured
  with_reducible rfl

theorem State.clearBooking_ring (s : State) : s.clearBooking.book.ring = [] := by
  unfold State.clearBooking Book.reconfigured
  with_reducible rfl

theorem State.clearBooking_orders (s : State) :
    s.clearBooking.plan.orders = Pool.renewAll s.plan.orders Config.orderCap := by
  unfold State.clearBooking
  with_reducible rfl

theorem rec?_clearBooking (s : State) (i : Nat) : s.clearBooking.rec? i = none := by
  rw [State.rec?, State.clearBooking_pool, item?_renewAll]

theorem order?_clearBooking (s : State) (j : Nat) : s.clearBooking.order? j = none := by
  rw [State.order?, State.clearBooking_orders, item?_renewAll]

/-- A change of the state outside the records, the orders, the revision and the ring. -/
theorem revsFrom_of_eq {s t : State} (hs : s.RevsFrom base) (hrev : t.book.rev = s.book.rev)
    (hring : t.book.ring = s.book.ring) (hpool : t.book.pool = s.book.pool) (horders : t.plan.orders = s.plan.orders) :
    t.RevsFrom base := by
  obtain ⟨h1, h2, h3, h4, h5, h6⟩ := hs
  refine ⟨by rwa [hrev], ?_, ?_, by rwa [hrev, hring], by unfold State.ringOk; rwa [hring], by rwa [hrev]⟩
  · unfold State.rec?
    rwa [hrev, hpool]
  · unfold State.order?
    rwa [hrev, horders]

theorem Act.revsFrom {s t : State} (h : Act c s t) (hs : s.RevsFrom base) : t.RevsFrom base := by
  cases h with
  | changeRec i r _ _ => exact revsFrom_changeRec i r hs
  | finishRec i r fin a => exact revsFrom_finishRec i r fin a hs
  | changeOrder j o n _ _ => exact revsFrom_changeOrder j n hs
  | createOrder j p b x m _ _ _ _ =>
    exact revsFrom_changeOrder j _ (revsFrom_of_sameBut (commitShares_sameBut s _ _) (by decide) hs)
  | readmit j o x m _ _ =>
    exact revsFrom_changeOrder j _ (revsFrom_of_sameBut (moveLoad_sameBut s _ _ _ _) (by decide) hs)
  | removeOrder j o fin _ =>
    exact revsFrom_of_sameBut (removeLoad_sameBut _ _ _) (by decide) (revsFrom_freeOrder j fin hs)
  | markAllDue =>
    exact revsFrom_of_maps (f := Rec.markDue s.now) (g := Order.markDue s.now) hs rfl rfl rfl rfl (Rec.markDue_rev _)
      (fun _ => rfl)
  | renumber _ =>
    exact revsFrom_of_maps (f := Rec.renumber) (g := Order.renumber) hs rfl rfl rfl rfl (fun _ => rfl) (fun _ => rfl)
  | setKitchen k v =>
    exact revsFrom_of_sameBut (sameBut_foldl (alignOver_sameBut k) _ _) (by decide) (revsFrom_of_eq hs rfl rfl rfl rfl)
  | setProfile k first values _ =>
    exact revsFrom_of_sameBut (sameBut_foldl (alignOver_sameBut k) _ _) (by decide) (revsFrom_of_eq hs rfl rfl rfl rfl)
  | reconfigure p tag _ =>
    have hclear : s.clearBooking.RevsFrom base := revsFrom_of_empty hs (State.clearBooking_rev s)
      (State.clearBooking_ring s) (rec?_clearBooking s) (order?_clearBooking s)
    generalize s.clearBooking = u at hclear
    exact revsFrom_of_eq hclear rfl rfl rfl rfl
  | registers | setClass | setTransit | setRoute | setLocation | setDisplay | setVacancy | setChronic | setRoom
  | setChain | setPort | narrow | addEntry | freeEntry | closePeriod | countOrder | serve =>
    exact revsFrom_of_eq hs rfl rfl rfl rfl

theorem Move.revsFrom {s t : State} (h : Move c s t) (hs : s.RevsFrom base) : t.RevsFrom base := by
  cases h with
  | act h => exact h.revsFrom hs
  | edge p a _ => exact revsFrom_of_eq hs rfl rfl rfl rfl

theorem revisionsOk_cold (x y z : RoleMask) : (State.cold x y z).revisionsOk :=
  ⟨Nat.zero_le _, fun _ _ h => (by cases h), fun _ _ h => (by cases h), fun _ h => (by cases h)⟩

theorem ringOk_cold (x y z : RoleMask) : (State.cold x y z).ringOk := ⟨Nat.zero_le _, List.Pairwise.nil⟩

/-- Settles O54: every act stamps the advanced counter or leaves the revisions alone. -/
theorem revisionsStayOrdered : Obligations.RevisionsStayOrdered := by
  unfold Obligations.RevisionsStayOrdered
  intro c s t hrev hring h
  rcases exec_moves c s with ⟨x, y, z, hc, hx⟩ | ⟨u, hu, hm⟩
  · rw [hx] at h
    cases h
    exact ⟨revisionsOk_cold x y z, ringOk_cold x y z, fun hn => absurd hc (hn x y z)⟩
  · rw [hu] at h
    cases h
    obtain ⟨ht, hr, hl⟩ := (State.revsFrom_iff t).1 (hm.keeps (P := State.RevsFrom s.book.rev)
      (fun _ _ hs h => h.revsFrom hs) ((State.revsFrom_iff s).2 ⟨hrev, hring, Nat.le_refl _⟩))
    exact ⟨ht, hr, fun _ => hl⟩

end Sys2Proof.Machine
end

section
/-! SUPPORT. What every step keeps of the tables' canonical form and of the book's disjoint records. -/

namespace Sys2Proof.Machine

variable {c : Instr}

/-! ### Tables whose values are all replaced, and the load table of a new day -/

theorem Table.rising_map {α : Type} {t : Table α} {lo : Option Nat} (f : α → α) (h : Table.rising lo t = true) :
    Table.rising lo (t.map (fun e => (e.1, f e.2))) = true := by
  induction t generalizing lo with
  | nil => rfl
  | cons e t ih =>
    simp only [Table.rising, List.map_cons, Bool.and_eq_true] at h ⊢
    exact ⟨h.1, ih h.2⟩

theorem Table.wf_iff {α : Type} [DecidableEq α] (d : α) (t : Table α) :
    Table.wf d t = true ↔ Table.rising none t = true ∧ ∀ e, e ∈ t → e.2 ≠ d := by
  simp [Table.wf]

theorem Table.wf_map {α : Type} [DecidableEq α] {d : α} {t : Table α} {f : α → α} (hf : ∀ v, f v = d → v = d)
    (h : Table.wf d t = true) : Table.wf d (t.map (fun e => (e.1, f e.2))) = true := by
  rw [Table.wf_iff] at h ⊢
  refine ⟨Table.rising_map f h.1, fun e he => ?_⟩
  obtain ⟨x, hx, rfl⟩ := List.mem_map.1 he
  exact fun hd => h.2 x hx (hf _ hd)

theorem Pool.wf_mapLive {α : Type} [DecidableEq α] {p : Pool α} (f : α → α)
    (h : Table.wf PoolEntry.fresh p = true) : Table.wf PoolEntry.fresh (Pool.mapLive p f) = true := by
  refine Table.wf_map (f := fun e : PoolEntry α => ⟨e.gen, e.item.map f⟩) (fun ⟨g, x⟩ hv => ?_) h
  cases x with
  | none => exact hv
  | some r => cases hv

theorem rising_renumberLoad {t : Table LoadEntry} {lo low : Option Nat} (hl : ∀ m, low = some m → ∃ l, lo = some l ∧ m + 96 ≤ l)
    (h : Table.rising lo t = true) : Table.rising low (renumberLoad t) = true := by
  induction t generalizing lo low with
  | nil => cases low <;> rfl
  | cons e t ih =>
    simp only [Table.rising, Bool.and_eq_true] at h
    obtain ⟨hlo, ht⟩ := h
    have above : ∀ m, low = some m → m + 96 < e.1 := by
      intro m hm
      obtain ⟨l, rfl, hle⟩ := hl m hm
      have hlt := of_decide_eq_true hlo
      omega
    simp only [renumberLoad, List.filterMap_cons]
    split
    next h =>
      exact ih (fun m hm => ⟨e.1, rfl, Nat.le_of_lt (above m hm)⟩) ht
    next x h =>
      split at h
      · cases h
      next hmod =>
        cases h
        simp only [Table.rising, Bool.and_eq_true]
        have hbig : 96 ≤ e.1 := (Nat.not_lt.1 hmod).trans (Nat.mod_le _ _)
        refine ⟨?_, ih (fun m hm => ⟨e.1, rfl, by cases hm; omega⟩) ht⟩
        cases low with
        | none => rfl
        | some m =>
          have := above m rfl
          simp only [decide_eq_true_eq]
          omega

theorem wf_renumberLoad {t : Table LoadEntry} (h : Table.wf LoadEntry.cold t = true) :
    Table.wf LoadEntry.cold (renumberLoad t) = true := by
  rw [Table.wf_iff] at h ⊢
  refine ⟨rising_renumberLoad nofun h.1, fun e he => ?_⟩
  obtain ⟨x, hx, hxe⟩ := List.mem_filterMap.1 he
  split at hxe
  · cases hxe
  · cases hxe
    exact h.2 x hx

theorem wf_storeProfile {t : Table Nat} (k w : Nat) (l : List Nat) (h : Table.wf 0 t = true) :
    Table.wf 0 (storeProfile t k w l) = true := by
  induction l generalizing t w with
  | nil => exact h
  | cons v l ih => exact ih (w + 1) (Table.wf_write _ v h)

/-! ### The canonical form, block by block -/

/-- The book's tables are canonical. -/
structure Book.Canonical (b : Book) : Prop where
  pool : Table.wf PoolEntry.fresh b.pool = true
  vacancy : Table.wf Vacancy.cold b.vacancy = true

/-- The waitlist's tables are canonical. -/
structure Waitlist.Canonical (w : Waitlist) : Prop where
  pool : Table.wf PoolEntry.fresh w.pool = true
  fates : Table.wf none w.fates = true

/-- A chain's tables are canonical. -/
structure Chain.Canonical (ch : Chain) : Prop where
  positions : Table.wf Position.cold ch.positions = true
  noted : Table.wf none ch.noted = true

/-- The link controller's tables are canonical. -/
structure Link.Canonical (l : Link) : Prop where
  chains : Table.wf Chain.cold l.chains = true
  locations : Table.wf none l.locations = true
  displays : Table.wf Display.cold l.displays = true
  inner : ∀ c, (Table.read Chain.cold l.chains c).Canonical

/-- The planner's tables are canonical. -/
structure Planner.Canonical (p : Planner) : Prop where
  kitchens : Table.wf Kitchen.cold p.kitchens = true
  profile : Table.wf 0 p.profile = true
  classes : Table.wf none p.classes = true
  transit : Table.wf 0 p.transit = true
  load : Table.wf LoadEntry.cold p.load = true
  orders : Table.wf PoolEntry.fresh p.orders = true

/-- The monitor's tables, the bank's among them, are canonical. -/
structure Monitor.Canonical (m : Monitor) : Prop where
  rooms : Table.wf RoomUsage.zero m.rooms = true
  kitchens : Table.wf KitchenUsage.zero m.kitchens = true
  bankRooms : Table.wf RoomUsage.zero m.bank.rooms = true
  bankKitchens : Table.wf KitchenUsage.zero m.bank.kitchens = true
  chronic : Table.wf ChronicState.cold m.chronic = true

/-- Every table of the part is canonical. -/
structure State.Canonical (s : State) : Prop where
  rooms : Table.wf Room.cold s.site.rooms = true
  book : s.book.Canonical
  wait : s.wait.Canonical
  link : s.link.Canonical
  plan : s.plan.Canonical
  monitor : s.monitor.Canonical
  routes : Table.wf Route.cold s.routes = true

theorem State.canonical_iff (s : State) : s.Canonical ↔ s.tablesOk := by
  constructor
  · rintro ⟨r, ⟨b1, b2⟩, ⟨w1, w2⟩, ⟨l1, l2, l3, l4⟩, ⟨p1, p2, p3, p4, p5, p6⟩, ⟨m1, m2, m3, m4, m5⟩, x⟩
    exact ⟨r, b1, b2, w1, w2, l1, l2, l3, p1, p2, p3, p4, p5, p6, m1, m2, m3, m4, m5, x,
      fun c => ⟨(l4 c).positions, (l4 c).noted⟩⟩
  · rintro ⟨r, b1, b2, w1, w2, l1, l2, l3, p1, p2, p3, p4, p5, p6, m1, m2, m3, m4, m5, x, l4⟩
    exact ⟨r, ⟨b1, b2⟩, ⟨w1, w2⟩, ⟨l1, l2, l3, fun c => ⟨(l4 c).1, (l4 c).2⟩⟩, ⟨p1, p2, p3, p4, p5, p6⟩,
      ⟨m1, m2, m3, m4, m5⟩, x⟩

/-! ### Acts that rewrite one block -/

theorem canonical_setLoadEntry {s : State} (k g : Nat) (v : LoadEntry) (h : s.Canonical) : (s.setLoadEntry k g v).Canonical :=
  { h with plan := { h.plan with load := Table.wf_write _ v h.plan.load } }

theorem canonical_foldl {β : Type} {f : State → β → State} (hf : ∀ s a, s.Canonical → (f s a).Canonical) (l : List β)
    {s : State} (h : s.Canonical) : (l.foldl f s).Canonical := by
  induction l generalizing s with
  | nil => exact h
  | cons a l ih => exact ih (hf s a h)

theorem canonical_alignFold (k : Nat) (l : List Nat) {s : State} (h : s.Canonical) :
    (l.foldl (State.alignOver k) s).Canonical :=
  canonical_foldl (fun _ _ h => canonical_setLoadEntry _ _ _ h) l h

theorem canonical_subFold (k : Nat) (l : List (Int × Nat)) {s : State} (h : s.Canonical) :
    (l.foldl (State.subShare k) s).Canonical :=
  canonical_foldl (fun s w h => by
    unfold State.subShare
    split
    · exact canonical_setLoadEntry _ _ _ h
    · exact h) l h

theorem canonical_commitShares (k : Nat) (l : List (Int × Nat)) {s : State} (h : s.Canonical) :
    (s.commitShares k l).Canonical :=
  canonical_foldl (fun s w h => by
    unfold State.addShare
    split
    · exact canonical_setLoadEntry _ _ _ h
    · exact h) l h

theorem canonical_setPool {s : State} {x : Pool Rec} (hx : Table.wf PoolEntry.fresh x = true) (h : s.Canonical) :
    (s.setPool x).Canonical := { h with book := { h.book with pool := hx } }

theorem canonical_setOrders {s : State} {x : Pool Order} (hx : Table.wf PoolEntry.fresh x = true) (h : s.Canonical) :
    (s.setOrders x).Canonical := { h with plan := { h.plan with orders := hx } }

theorem canonical_advanceRev {s : State} (h : s.Canonical) : s.advanceRev.Canonical := { h with book := { h.book with } }

theorem canonical_writeTombstone {s : State} (x : Tombstone) (h : s.Canonical) : (s.writeTombstone x).Canonical := by
  unfold State.writeTombstone
  split <;> exact { h with book := { h.book with } }

theorem canonical_changeRec {s : State} (i : Nat) (r : Rec) (h : s.Canonical) : (s.changeRec i r).Canonical :=
  canonical_setPool (Pool.wf_store i _ h.book.pool) (canonical_advanceRev h)

theorem canonical_changeOrder {s : State} (j : Nat) (o : Order) (h : s.Canonical) : (s.changeOrder j o).Canonical :=
  canonical_setOrders (Pool.wf_store j _ h.plan.orders) (canonical_advanceRev h)

theorem canonical_countFinish {s : State} (f : Facts) (h : s.Canonical) : (s.countFinish f).Canonical := by
  unfold State.countFinish
  split
  · exact h
  · exact { h with monitor := { h.monitor with
      rooms := Table.wf_write _ _ h.monitor.rooms
      chronic := Table.wf_write _ _ h.monitor.chronic } }

theorem canonical_finishRec {s : State} (i : Nat) (r : Rec) (fin : FinState) (a : Actor) (h : s.Canonical) :
    (s.finishRec i r fin a).Canonical := by
  unfold State.finishRec
  dsimp only
  exact canonical_countFinish _ (canonical_setPool (Pool.wf_free i h.book.pool)
    (canonical_writeTombstone _ (canonical_advanceRev h)))

theorem canonical_freeOrder {s : State} (j : Nat) (fin : FinState) (h : s.Canonical) : (s.freeOrder j fin).Canonical := by
  unfold State.freeOrder
  dsimp only
  exact canonical_setOrders (Pool.wf_free j h.plan.orders) (canonical_writeTombstone _ (canonical_advanceRev h))

theorem State.chain_setChain (s : State) (n d : Nat) (v : Chain) :
    (s.setChain n v).chain d = if d = n then v else s.chain d := Table.read_write _ _ _ _ _

theorem canonical_setChain {s : State} (n : Nat) {v : Chain} (hv : (s.chain n).Steady v) (h : s.Canonical) :
    (s.setChain n v).Canonical :=
  { h with link := { h.link with
      chains := Table.wf_write n v h.link.chains
      inner := fun d => by
        show ((s.setChain n v).chain d).Canonical
        rw [State.chain_setChain]
        split
        next hd => exact ⟨hv.positions (h.link.inner n).positions, hv.noted (h.link.inner n).noted⟩
        next => exact h.link.inner d } }

/-- A display's deadline moved or marked is absent as before, so that no display becomes the cold one. -/
theorem Display.cold_of_deadline_map {d : Display} {f : DisplayDeadline → DisplayDeadline}
    (h : { d with deadline := d.deadline.map f } = Display.cold) : d = Display.cold := by
  obtain ⟨content, deadline⟩ := d
  cases deadline with
  | none => exact h
  | some t => cases h

theorem canonical_clearBooking {s : State} (h : s.Canonical) : s.clearBooking.Canonical := by
  have renewed : ∀ {α : Type} [DecidableEq α] (p : Pool α) (n : Nat),
      Table.wf PoolEntry.fresh (Pool.renewAll p n) = true := fun p n => Table.wf_build _ n _
  unfold State.clearBooking Book.reconfigured
  generalize Config.bookCap = nb, Config.waitCap = nw, Config.orderCap = no
  exact { h with
    book := ⟨renewed _ nb, Table.wf_nil _⟩
    wait := ⟨renewed _ nw, Table.wf_nil _⟩
    plan := { h.plan with load := Table.wf_nil _, orders := renewed _ no } }

theorem Act.canonical {s t : State} (h : Act c s t) (hs : s.Canonical) : t.Canonical := by
  cases h with
  | registers => exact { hs with book := { hs.book with }, monitor := { hs.monitor with } }
  | setClass m v => exact { hs with plan := { hs.plan with classes := Table.wf_write m (some v) hs.plan.classes } }
  | setTransit b e => exact { hs with plan := { hs.plan with transit := Table.wf_write _ _ hs.plan.transit } }
  | setRoute k v => exact { hs with routes := Table.wf_write _ _ hs.routes }
  | setLocation r l => exact { hs with link := { hs.link with locations := Table.wf_write _ _ hs.link.locations } }
  | setDisplay r v => exact { hs with link := { hs.link with displays := Table.wf_write _ _ hs.link.displays } }
  | setVacancy r v => exact { hs with book := { hs.book with vacancy := Table.wf_write _ _ hs.book.vacancy } }
  | setChronic r v => exact { hs with monitor := { hs.monitor with chronic := Table.wf_write _ _ hs.monitor.chronic } }
  | setRoom r v _ => exact { hs with rooms := Table.wf_write _ _ hs.rooms }
  | setChain n v hv => exact canonical_setChain n hv hs
  | setPort | narrow => exact { hs with }
  | changeRec i r _ _ => exact canonical_changeRec i r hs
  | finishRec i r fin a => exact canonical_finishRec i r fin a hs
  | changeOrder j o n _ _ => exact canonical_changeOrder j n hs
  | createOrder j p b q m _ _ _ _ => exact canonical_changeOrder j _ (canonical_commitShares _ _ hs)
  | readmit j o q m _ _ =>
    refine canonical_changeOrder j _ ?_
    unfold State.moveLoad State.alignFallen
    exact canonical_alignFold _ _ (canonical_commitShares _ _ (canonical_subFold _ _ hs))
  | removeOrder j o fin _ => exact canonical_alignFold _ _ (canonical_subFold _ _ (canonical_freeOrder j fin hs))
  | addEntry w e _ _ => exact { hs with wait := { hs.wait with pool := Pool.wf_store _ _ hs.wait.pool } }
  | freeEntry w f =>
    exact { hs with wait := ⟨Pool.wf_free _ hs.wait.pool, Table.wf_write w (some _) hs.wait.fates⟩ }
  | markAllDue =>
    exact { hs with
      book := { hs.book with pool := Pool.wf_mapLive _ hs.book.pool }
      wait := { hs.wait with pool := Pool.wf_mapLive _ hs.wait.pool }
      plan := { hs.plan with orders := Pool.wf_mapLive _ hs.plan.orders }
      link := { hs.link with
        displays := Table.wf_map (fun _ h => Display.cold_of_deadline_map h) hs.link.displays } }
  | renumber _ =>
    exact { hs with
      book := { hs.book with pool := Pool.wf_mapLive _ hs.book.pool }
      wait := { hs.wait with pool := Pool.wf_mapLive _ hs.wait.pool }
      plan := { hs.plan with
        orders := Pool.wf_mapLive _ hs.plan.orders
        load := wf_renumberLoad hs.plan.load }
      link := { hs.link with
        displays := Table.wf_map (fun _ h => Display.cold_of_deadline_map h) hs.link.displays } }
  | closePeriod k day minute =>
    exact { hs with monitor :=
      ⟨Table.wf_nil _, Table.wf_nil _, hs.monitor.rooms, hs.monitor.kitchens, hs.monitor.chronic⟩ }
  | countOrder o => exact { hs with monitor := { hs.monitor with kitchens := Table.wf_write _ _ hs.monitor.kitchens } }
  | setKitchen k v =>
    exact canonical_alignFold k _
      { hs with plan := { hs.plan with kitchens := Table.wf_write _ _ hs.plan.kitchens } }
  | setProfile k first values _ =>
    exact canonical_alignFold k _ { hs with plan := { hs.plan with profile := wf_storeProfile _ _ _ hs.plan.profile } }
  | serve p tag _ => exact { hs with }
  | reconfigure p tag _ =>
    have hc := canonical_clearBooking hs
    generalize s.clearBooking = u at hc
    exact { hc with rooms := hs.rooms }

theorem Move.canonical {s t : State} (h : Move c s t) (hs : s.Canonical) : t.Canonical := by
  cases h with
  | act h => exact h.canonical hs
  | edge => exact { hs with }

theorem tablesOk_cold (x y z : RoleMask) : (State.cold x y z).tablesOk :=
  (State.canonical_iff _).1 ⟨rfl, ⟨rfl, rfl⟩, ⟨rfl, rfl⟩, ⟨rfl, rfl, rfl, fun _ => ⟨rfl, rfl⟩⟩, ⟨rfl, rfl, rfl, rfl, rfl, rfl⟩,
    ⟨rfl, rfl, rfl, rfl, rfl⟩, rfl⟩

theorem Move.tablesOk {s t : State} (h : Move c s t) (hs : s.tablesOk) : t.tablesOk :=
  (State.canonical_iff t).1 (h.canonical ((State.canonical_iff s).2 hs))

/-- Settles O56: every act writes its tables through the operations that keep them canonical. -/
theorem tablesStayCanonical : Obligations.TablesStayCanonical := by
  unfold Obligations.TablesStayCanonical
  intro c s t hs h
  exact exec_keeps (P := State.tablesOk) (fun _ x y z _ => tablesOk_cold x y z) (fun _ _ hs h => h.tablesOk hs) hs h

end Sys2Proof.Machine
end

section
/-! SUPPORT. What every step keeps of the records' places, and of a CONFIGURING device's emptiness. -/

namespace Sys2Proof.Machine

variable {c : Instr}

/-! ### Records stay disjoint -/

theorem Rec.apart_comm {r q : Rec} (h : r.apart q) : q.apart r := by
  rcases h with h | h | h | h
  · exact .inl (Ne.symm h)
  · exact .inr (.inl (Ne.symm h))
  · exact .inr (.inr (.inr h))
  · exact .inr (.inr (.inl h))

/-- What the soundness of the book looks at stays. -/
theorem bookSound_of_eq {s t : State} (hs : s.bookSound) (hopen : ∀ r, (t.room r).isOpen = (s.room r).isOpen)
    (hpool : t.book.pool = s.book.pool) (hwait : t.wait.pool = s.wait.pool) : t.bookSound := by
  obtain ⟨h1, h2, h3, h4⟩ := hs
  refine ⟨fun r h => h1 r (by rwa [hopen] at h), ?_, ?_, ?_⟩
  · unfold State.rec?
    rwa [hpool]
  · unfold State.waitEntry?
    rwa [hwait]
  · unfold State.rec?
    rwa [hpool]

theorem room_eq_of_sameBut {l : List Part} {s t : State} (h : sameBut l s t) (hl : Part.rooms ∉ l) (r : Nat) :
    (t.room r).isOpen = (s.room r).isOpen :=
  show (t.room r).settings.isOpen = (s.room r).settings.isOpen from congrArg Room.isOpen (h .rooms hl r)

theorem bookSound_of_sameBut {l : List Part} {s t : State} (h : sameBut l s t)
    (hl : ∀ x ∈ [Part.rooms, .records, .waitlist], x ∉ l) (hs : s.bookSound) : t.bookSound :=
  bookSound_of_eq hs (room_eq_of_sameBut h (hl _ (by decide))) (h .records (hl _ (by decide)))
    (congrArg Waitlist.pool (h .waitlist (hl _ (by decide))))

/-- Each live record replaced by one that stands where it stood, and each entry by one of the same rooms and length. -/
theorem bookSound_of_maps {s t : State} {f : Rec → Rec} {g : WaitEntry → WaitEntry} (hs : s.bookSound)
    (hopen : ∀ r, (t.room r).isOpen = (s.room r).isOpen) (hpool : t.book.pool = Pool.mapLive s.book.pool f)
    (hwait : t.wait.pool = Pool.mapLive s.wait.pool g) (hf : ∀ i r, s.rec? i = some r → r.inPlane → (f r).inPlane)
    (hg : ∀ e : WaitEntry, e.inPlane → (g e).inPlane)
    (hapart : ∀ i j r q, s.rec? i = some r → s.rec? j = some q → r.apart q → (f r).apart (f q)) : t.bookSound := by
  obtain ⟨h1, h2, h3, h4⟩ := hs
  have hrec : ∀ i r, t.rec? i = some r → ∃ q, s.rec? i = some q ∧ r = f q := by
    intro i r hr
    unfold State.rec? at hr
    rw [hpool] at hr
    exact item?_mapLive_some hr
  refine ⟨fun r h => h1 r (by rwa [hopen] at h), fun i r hr => ?_, fun w e he => ?_, fun i j r q hr hq hne => ?_⟩
  · obtain ⟨x, hx, rfl⟩ := hrec i r hr
    exact hf i x hx (h2 i x hx)
  · unfold State.waitEntry? at he
    rw [hwait] at he
    obtain ⟨x, hx, rfl⟩ := item?_mapLive_some he
    exact hg x (h3 w x hx)
  · obtain ⟨x, hx, rfl⟩ := hrec i r hr
    obtain ⟨y, hy, rfl⟩ := hrec j q hq
    exact hapart i j x y hx hy (h4 i j x y hx hy hne)

theorem bookSound_changeRec {s : State} {i : Nat} {r : Rec} (hs : s.bookSound) (hr : s.roomFor i r) :
    (s.changeRec i r).bookSound := by
  obtain ⟨h1, h2, h3, h4⟩ := hs
  obtain ⟨hplane, hfree⟩ := hr
  refine ⟨h1, fun j q hq => ?_, h3, fun j k q x hq hx hne => ?_⟩
  · rw [rec?_changeRec] at hq
    split at hq
    · cases hq
      exact hplane
    · exact h2 j q hq
  · rw [rec?_changeRec] at hq hx
    split at hq
    next hj =>
      cases hq
      rw [if_neg (fun hk => hne (hj.trans hk.symm))] at hx
      exact hfree k x hx (fun hk => hne (hj.trans hk.symm))
    next hj =>
      split at hx
      next hk =>
        cases hx
        exact Rec.apart_comm (hfree j q hq hj)
      next => exact h4 j k q x hq hx hne

/-- Fewer records stay apart. -/
theorem bookSound_of_fewer {s t : State} (hs : s.bookSound) (hopen : ∀ r, (t.room r).isOpen = (s.room r).isOpen)
    (hrec : ∀ i r, t.rec? i = some r → s.rec? i = some r)
    (hwait : ∀ w e, t.waitEntry? w = some e → e.inPlane) : t.bookSound := by
  obtain ⟨h1, h2, -, h4⟩ := hs
  exact ⟨fun r h => h1 r (by rwa [hopen] at h), fun i r hr => h2 i r (hrec i r hr), hwait,
    fun i j r q hr hq => h4 i j r q (hrec i r hr) (hrec j q hq)⟩

theorem Rec.markDue_sameSpan (now : Int) (r : Rec) : (Rec.markDue now r).room = r.room ∧
    (Rec.markDue now r).plane = r.plane ∧ (Rec.markDue now r).start = r.start ∧ (Rec.markDue now r).stop = r.stop ∧
    (Rec.markDue now r).setup = r.setup ∧ (Rec.markDue now r).clear = r.clear ∧ (Rec.markDue now r).kind = r.kind := by
  unfold Rec.markDue
  split <;> exact ⟨rfl, rfl, rfl, rfl, rfl, rfl, rfl⟩

theorem WaitEntry.inPlane_markDue {now : Int} {e : WaitEntry} (h : e.inPlane) : (e.markDue now).inPlane := by
  unfold WaitEntry.markDue
  split <;> exact h

theorem WaitEntry.inPlane_renumber {e : WaitEntry} (h : e.inPlane) : e.renumber.inPlane :=
  ⟨h.1, (Nat.sub_le _ _).trans h.2.1, h.2.2⟩

theorem bookSound_markAllDue {s : State} (hs : s.bookSound) : s.markAllDue.bookSound := by
  refine bookSound_of_maps (f := Rec.markDue s.now) (g := WaitEntry.markDue s.now) hs (fun _ => rfl) rfl rfl
    (fun i r _ h => ?_) (fun e => WaitEntry.inPlane_markDue) (fun i j r q _ _ h => ?_)
  · obtain ⟨hr, hp, ha, ho, -, -, hk⟩ := Rec.markDue_sameSpan s.now r
    unfold Rec.inPlane
    rwa [hr, hp, ha, ho, hk]
  · obtain ⟨hr, hp, ha, ho, hs1, hc, -⟩ := Rec.markDue_sameSpan s.now r
    obtain ⟨hr', hp', ha', ho', hs', hc', -⟩ := Rec.markDue_sameSpan s.now q
    unfold Rec.apart Rec.padEnd Rec.padStart
    rw [hr, hp, ha, ho, hs1, hc, hr', hp', ha', ho', hs', hc']
    exact h

/-- The renumbering lowers every plane by one, and with no record left on plane 0 two planes stay equal or not (R38). -/
theorem bookSound_renumber {s : State} (hs : s.bookSound)
    (h : ∀ i r, s.rec? i = some r → r.room < Config.roomCount → r.plane ≠ 0) : s.renumber.bookSound := by
  have hplane : ∀ i r, s.rec? i = some r → 1 ≤ r.plane := fun i r hr =>
    Nat.one_le_iff_ne_zero.2 (h i r hr (hs.2.1 i r hr).1)
  refine bookSound_of_maps (f := Rec.renumber) (g := WaitEntry.renumber) hs (fun _ => rfl) rfl rfl
    (fun i r _ h => ?_) (fun e => WaitEntry.inPlane_renumber) (fun i j r q hr hq h => ?_)
  · exact ⟨h.1, (Nat.sub_le _ _).trans h.2.1, h.2.2⟩
  · have h1 := hplane i r hr
    have h2 := hplane j q hq
    rcases h with h | h | h
    · exact .inl h
    · exact .inr (.inl (fun he => h (by simp only [Rec.renumber] at he; omega)))
    · exact .inr (.inr h)

theorem State.clearBooking_site (s : State) : s.clearBooking.site = s.site := by
  unfold State.clearBooking
  with_reducible rfl

theorem waitEntry?_clearBooking (s : State) (w : Nat) : s.clearBooking.waitEntry? w = none := by
  have hpool : s.clearBooking.wait.pool = Pool.renewAll s.wait.pool Config.waitCap := by
    unfold State.clearBooking
    with_reducible rfl
  rw [State.waitEntry?, hpool, item?_renewAll]

theorem Act.bookSound {s t : State} (h : Act c s t) (hc : s.tablesOk) (hs : s.bookSound) : t.bookSound := by
  cases h with
  | setRoom r v h =>
    refine ⟨fun q hq => ?_, hs.2.1, hs.2.2.1, hs.2.2.2⟩
    rw [room_setRoom] at hq
    split at hq
    next he =>
      rcases h hq with hlt | hop
      · rw [he]; exact hlt
      · rw [he]; exact hs.1 r hop
    next => exact hs.1 q hq
  | changeRec i r _ hr => exact bookSound_changeRec hs (hr hc hs)
  | finishRec i r fin a =>
    refine bookSound_of_fewer hs (room_eq_of_sameBut (finishRec_sameBut s i r fin a) (by decide)) (fun j q hq => ?_)
      (fun w e he => ?_)
    · rw [rec?_finishRec] at hq
      split at hq
      · cases hq
      · exact hq
    · refine hs.2.2.1 w e ?_
      unfold State.waitEntry? at he ⊢
      rwa [show (s.finishRec i r fin a).wait = s.wait from finishRec_sameBut s i r fin a .waitlist (by decide)] at he
  | createOrder j p b q m _ _ _ _ => exact bookSound_of_sameBut (createOrder_sameBut s j p b q m) (by decide) hs
  | readmit j o q m _ _ =>
    exact bookSound_of_sameBut (changeOrder_sameBut _ j _) (by decide)
      (bookSound_of_sameBut (moveLoad_sameBut s _ _ _ _) (by decide) hs)
  | removeOrder j o fin _ => exact bookSound_of_sameBut (removeOrder_sameBut s j fin _ _) (by decide) hs
  | addEntry w e _ h =>
    refine bookSound_of_fewer hs (fun _ => rfl) (fun _ _ => id) (fun x y hy => ?_)
    rw [State.waitEntry?, State.addEntry, Pool.item?_store] at hy
    split at hy
    · cases hy
      exact h
    · exact hs.2.2.1 x y hy
  | freeEntry w f =>
    refine bookSound_of_fewer hs (fun _ => rfl) (fun _ _ => id) (fun x y hy => hs.2.2.1 x y ?_)
    exact item?_of_free hy
  | markAllDue => exact bookSound_markAllDue hs
  | renumber h => exact bookSound_renumber hs h
  | setKitchen k v =>
    exact bookSound_of_sameBut (sameBut_foldl (alignOver_sameBut k) _ _) (by decide)
      (bookSound_of_eq hs (fun _ => rfl) rfl rfl)
  | setProfile k first values _ =>
    exact bookSound_of_sameBut (sameBut_foldl (alignOver_sameBut k) _ _) (by decide)
      (bookSound_of_eq hs (fun _ => rfl) rfl rfl)
  | reconfigure p tag _ =>
    have hsound : s.clearBooking.bookSound := bookSound_of_fewer hs
      (fun r => by rw [State.room, State.clearBooking_site]; rfl)
      (fun i r hr => by rw [rec?_clearBooking] at hr; cases hr)
      (fun w e he => by rw [waitEntry?_clearBooking] at he; cases he)
    have hsite := State.clearBooking_site s
    generalize s.clearBooking = u at hsound hsite
    exact bookSound_of_eq hsound (fun r => by rw [State.room, State.room, hsite]) rfl rfl
  | registers | setClass | setTransit | setRoute | setLocation | setDisplay | setVacancy | setChronic | setChain
  | setPort | narrow | changeOrder | closePeriod | countOrder | serve =>
    exact bookSound_of_eq hs (fun _ => rfl) rfl rfl

theorem Move.bookSound {s t : State} (h : Move c s t) (hc : s.tablesOk) (hs : s.bookSound) : t.bookSound := by
  cases h with
  | act h => exact h.bookSound hc hs
  | edge => exact bookSound_of_eq hs (fun _ => rfl) rfl rfl

theorem bookSound_cold (x y z : RoleMask) : (State.cold x y z).bookSound :=
  ⟨fun _ h => (by cases h), fun _ _ h => (by cases h), fun _ _ h => (by cases h), fun _ _ _ _ h => (by cases h)⟩

/-- Settles O57: every act that stores a record stores one that stands apart from the others. -/
theorem recordsStayDisjoint : Obligations.RecordsStayDisjoint := by
  unfold Obligations.RecordsStayDisjoint
  intro c s t hc hs h
  have both : t.tablesOk ∧ t.bookSound := exec_keeps (P := fun u => u.tablesOk ∧ u.bookSound)
    (fun _ x y z _ => ⟨tablesOk_cold x y z, bookSound_cold x y z⟩)
    (fun _ _ hs h => ⟨h.tablesOk hs.1, h.bookSound hs.1 hs.2⟩) ⟨hc, hs⟩ h
  exact both.2

/-! ### A CONFIGURING device stays empty -/

theorem State.serving_congr {s t : State} (h : t.site.mode = s.site.mode) : t.serving = s.serving := by
  unfold State.serving
  rw [h]

/-- What emptiness looks at stays. -/
theorem empty_of_eq {s t : State} (hs : s.emptyWhileConfiguring) (hmode : t.site.mode = s.site.mode)
    (hpool : t.book.pool = s.book.pool) (hwait : t.wait = s.wait) (horders : t.plan.orders = s.plan.orders)
    (hload : t.plan.load = s.plan.load) : t.emptyWhileConfiguring := by
  intro hc
  rw [State.serving_congr hmode] at hc
  unfold State.rec? State.waitEntry? State.order? State.loadEntry
  rw [hpool, hwait, horders, hload]
  exact hs hc

/-- The device is empty. -/
structure State.Empty (s : State) : Prop where
  recs : ∀ i, s.rec? i = none
  order : s.wait.order = []
  entries : ∀ w, s.waitEntry? w = none
  orders : ∀ j, s.order? j = none
  load : ∀ k g, s.loadEntry k g = LoadEntry.cold

/-- The value of a window after a write of any window of any kitchen. -/
theorem loadEntry_setLoadEntry (s : State) (k g k' g' : Nat) (v : LoadEntry) :
    (s.setLoadEntry k g v).loadEntry k' g' =
      if k' * Config.windowCount + g' = k * Config.windowCount + g then v else s.loadEntry k' g' :=
  Table.read_write _ _ _ _ _

theorem alignOver_cold {k : Nat} {s : State} (g : Nat) (h : ∀ k g, s.loadEntry k g = LoadEntry.cold) (k' g' : Nat) :
    (State.alignOver k s g).loadEntry k' g' = LoadEntry.cold := by
  rw [State.alignOver, loadEntry_setLoadEntry, h, h]
  split
  · simp [LoadEntry.cold]
  · rfl

theorem alignFold_cold (k : Nat) (l : List Nat) {s : State} (h : ∀ k g, s.loadEntry k g = LoadEntry.cold) :
    ∀ k' g', (l.foldl (State.alignOver k) s).loadEntry k' g' = LoadEntry.cold := by
  induction l generalizing s with
  | nil => exact h
  | cons g l ih => exact ih (fun k' g' => alignOver_cold g h k' g')

/-- The load table of a new day: each window's entry is the one of the window a day later (R152). -/
theorem look?_renumberLoad (t : Table LoadEntry) (n : Nat) : Table.look? (renumberLoad t) n =
    if (n + 96) % Config.windowCount < 96 then none else Table.look? t (n + 96) := by
  induction t with
  | nil =>
    split <;> rfl
  | cons e t ih =>
    obtain ⟨j, v⟩ := e
    unfold renumberLoad at ih ⊢
    rw [List.filterMap_cons]
    by_cases hj : j % Config.windowCount < 96
    · simp only [hj, if_true, ih]
      split
      · rfl
      next hn =>
        rw [Table.look?, if_neg]
        rintro rfl
        exact hn hj
    · have hbig : 96 ≤ j := (Nat.not_lt.1 hj).trans (Nat.mod_le _ _)
      simp only [hj, if_false, Table.look?, ih]
      by_cases he : j = n + 96
      · subst he
        simp [hj]
      · rw [if_neg (by omega), if_neg he]

theorem empty_of_maps {s t : State} {f : Rec → Rec} {g : Order → Order} {w : WaitEntry → WaitEntry}
    (hs : s.emptyWhileConfiguring) (hmode : t.site.mode = s.site.mode)
    (hpool : t.book.pool = Pool.mapLive s.book.pool f) (hwait : t.wait.pool = Pool.mapLive s.wait.pool w)
    (horder : t.wait.order = s.wait.order) (horders : t.plan.orders = Pool.mapLive s.plan.orders g)
    (hload : (∀ k g, s.loadEntry k g = LoadEntry.cold) → ∀ k g, t.loadEntry k g = LoadEntry.cold) :
    t.emptyWhileConfiguring := by
  intro hc
  rw [State.serving_congr hmode] at hc
  obtain ⟨h1, h2, h3, h4, h5⟩ := hs hc
  refine ⟨fun i => ?_, horder.trans h2, fun i => ?_, fun j => ?_, hload h5⟩
  · rw [State.rec?, hpool, Pool.item?_mapLive, show Pool.item? s.book.pool i = none from h1 i]
    rfl
  · rw [State.waitEntry?, hwait, Pool.item?_mapLive, show Pool.item? s.wait.pool i = none from h3 i]
    rfl
  · rw [State.order?, horders, Pool.item?_mapLive, show Pool.item? s.plan.orders j = none from h4 j]
    rfl

theorem renumber_cold {s : State} (h : ∀ k g, s.loadEntry k g = LoadEntry.cold) (k g : Nat) :
    s.renumber.loadEntry k g = LoadEntry.cold := by
  have hall : ∀ n, Table.read LoadEntry.cold s.plan.load n = LoadEntry.cold := fun n => by
    have := h 0 n
    rwa [State.loadEntry, Nat.zero_mul, Nat.zero_add] at this
  show Table.read LoadEntry.cold (renumberLoad s.plan.load) _ = _
  rw [Table.read, look?_renumberLoad]
  split
  · rfl
  · exact hall _

theorem State.not_serving_of_mode {s : State} (h : s.site.mode = .configuring) : s.serving = false := by
  unfold State.serving
  rw [h]
  decide

theorem empty_clearBooking (s : State) : s.clearBooking.Empty where
  recs := rec?_clearBooking s
  order := by
    unfold State.clearBooking
    with_reducible rfl
  entries := waitEntry?_clearBooking s
  orders := order?_clearBooking s
  load k g := by
    have hload : s.clearBooking.plan.load = [] := by
      unfold State.clearBooking
      with_reducible rfl
    rw [State.loadEntry, hload, Table.read_nil]

/-- An act made only where the device is known to be SERVING keeps the mode and leaves nothing to show. -/
theorem empty_of_knownServing {s t : State} (hs : s.emptyWhileConfiguring) (hk : s.knownServing)
    (hmode : t.site.mode = s.site.mode) : t.emptyWhileConfiguring := by
  intro hc
  rw [State.serving_congr hmode, hk hs] at hc
  cases hc

/-- A CONFIGURING device has no live order for an act to touch. -/
theorem State.knownServing_of_order? {s : State} {j : Nat} {o : Order} (h : s.order? j = some o) : s.knownServing := by
  intro hs
  by_contra hc
  obtain ⟨-, -, -, h4, -⟩ := hs (Bool.not_eq_true _ ▸ hc)
  rw [h4] at h
  cases h

theorem empty_alignFold (k : Nat) (l : List Nat) {s : State} (hs : s.emptyWhileConfiguring) :
    (l.foldl (State.alignOver k) s).emptyWhileConfiguring := by
  have hf := sameBut_foldl (alignOver_sameBut k) l s
  have hwait : (l.foldl (State.alignOver k) s).wait = s.wait := hf .waitlist (by decide)
  intro hc
  rw [State.serving_congr (hf .mode (by decide))] at hc
  obtain ⟨h1, h2, h3, h4, h5⟩ := hs hc
  refine ⟨fun i => (rec?_of_sameBut hf (by decide) i).trans (h1 i), by rw [hwait, h2], fun w => ?_,
    fun j => (order?_of_sameBut hf (by decide) j).trans (h4 j), alignFold_cold k l h5⟩
  rw [State.waitEntry?, hwait]
  exact h3 w

theorem Act.empty {s t : State} (h : Act c s t) (hs : s.emptyWhileConfiguring) : t.emptyWhileConfiguring := by
  cases h with
  | changeRec i r hk _ => exact empty_of_knownServing hs hk rfl
  | finishRec i r fin a =>
    have hf := finishRec_sameBut s i r fin a
    intro hc
    rw [State.serving_congr (hf .mode (by decide))] at hc
    obtain ⟨h1, h2, h3, h4, h5⟩ := hs hc
    have hwait : (s.finishRec i r fin a).wait = s.wait := hf .waitlist (by decide)
    have hload : (s.finishRec i r fin a).plan.load = s.plan.load := hf .load (by decide)
    refine ⟨fun j => ?_, by rw [hwait, h2], fun w => by rw [State.waitEntry?, hwait]; exact h3 w,
      fun j => by rw [order?_of_sameBut hf (by decide), h4], fun k g => by rw [State.loadEntry, hload]; exact h5 k g⟩
    rw [rec?_finishRec, h1]
    split <;> rfl
  | changeOrder j o n ho _ => exact empty_of_knownServing hs (State.knownServing_of_order? ho) rfl
  | createOrder j p b q m hk _ _ _ =>
    exact empty_of_knownServing hs hk (createOrder_sameBut s j p b q m .mode (by decide))
  | readmit j o q m ho _ =>
    exact empty_of_knownServing hs (State.knownServing_of_order? ho) (moveLoad_sameBut s _ _ _ _ .mode (by decide))
  | removeOrder j o fin ho =>
    exact empty_of_knownServing hs (State.knownServing_of_order? ho) (removeOrder_sameBut s j fin _ _ .mode (by decide))
  | addEntry w e hk _ => exact empty_of_knownServing hs (fun _ => hk) rfl
  | freeEntry w f =>
    intro hc
    obtain ⟨h1, h2, h3, h4, h5⟩ := hs hc
    refine ⟨h1, ?_, fun x => ?_, h4, h5⟩
    · rw [State.freeEntry, h2]
      rfl
    · rw [State.waitEntry?, State.freeEntry, Pool.item?_free]
      split
      · rfl
      · exact h3 x
  | markAllDue =>
    exact empty_of_maps (f := Rec.markDue s.now) (g := Order.markDue s.now) (w := WaitEntry.markDue s.now) hs rfl rfl rfl
      rfl rfl id
  | renumber _ =>
    exact empty_of_maps (f := Rec.renumber) (g := Order.renumber) (w := WaitEntry.renumber) hs rfl rfl rfl rfl rfl
      renumber_cold
  | setKitchen k v => exact empty_alignFold k _ (empty_of_eq hs rfl rfl rfl rfl rfl)
  | setProfile k first values _ => exact empty_alignFold k _ (empty_of_eq hs rfl rfl rfl rfl rfl)
  | serve p tag _ =>
    intro hc
    cases hc
  | reconfigure p tag _ =>
    obtain ⟨h1, h2, h3, h4, h5⟩ := empty_clearBooking s
    generalize s.clearBooking = u at h1 h2 h3 h4 h5
    exact fun _ => ⟨h1, h2, h3, h4, h5⟩
  | registers | setClass | setTransit | setRoute | setLocation | setDisplay | setVacancy | setChronic | setRoom
  | setChain | setPort | narrow | closePeriod | countOrder =>
    exact empty_of_eq hs rfl rfl rfl rfl rfl

theorem Move.empty {s t : State} (h : Move c s t) (hs : s.emptyWhileConfiguring) : t.emptyWhileConfiguring := by
  cases h with
  | act h => exact h.empty hs
  | edge => exact empty_of_eq hs rfl rfl rfl rfl rfl

theorem empty_cold (x y z : RoleMask) : (State.cold x y z).emptyWhileConfiguring :=
  fun _ => ⟨fun _ => rfl, rfl, fun _ => rfl, fun _ => rfl, fun _ _ => rfl⟩

/-- Settles O59: the acts that bring a record, an entry or an order are made only while the device is SERVING. -/
theorem configuringStaysEmpty : Obligations.ConfiguringStaysEmpty := by
  unfold Obligations.ConfiguringStaysEmpty
  intro c s t hs h
  exact exec_keeps (P := State.emptyWhileConfiguring) (fun _ x y z _ => empty_cold x y z) (fun _ _ hs h => h.empty hs)
    hs h

end Sys2Proof.Machine
end

section
/-! SUPPORT. The load table: what adding, removing and aligning shares does to each window, and what every step keeps of
the sums of R140 and the marks of R149. -/

namespace Sys2Proof.Machine

variable {c : Instr}

/-! ### Windows -/

/-- The shares of a list that fall into one window. -/
def shareSum (l : List (Int × Nat)) (g : Nat) : Nat := ((l.filter (fun w => w.1 = (g : Int))).map Prod.snd).sum

theorem shareSum_cons (w : Int × Nat) (l : List (Int × Nat)) (g : Nat) :
    shareSum (w :: l) g = (if w.1 = (g : Int) then w.2 else 0) + shareSum l g := by
  unfold shareSum
  rw [List.filter_cons]
  by_cases h : w.1 = (g : Int) <;> simp [h]

theorem Order.shareIn_eq (o : Order) (k g : Nat) : o.shareIn k g = if o.kitchen = k then shareSum o.shares g else 0 := rfl

theorem loadKey_inj {k g k' g' : Nat} (hg : g < Config.windowCount) (hg' : g' < Config.windowCount) :
    k' * Config.windowCount + g' = k * Config.windowCount + g ↔ k' = k ∧ g' = g := by
  unfold Config.windowCount at *
  omega

/-- A window's entry after a write of a window of the table. -/
theorem loadEntry_set {s : State} {k g k' g' : Nat} (v : LoadEntry) (hg : g < Config.windowCount)
    (hg' : g' < Config.windowCount) :
    (s.setLoadEntry k g v).loadEntry k' g' = if k' = k ∧ g' = g then v else s.loadEntry k' g' := by
  rw [loadEntry_setLoadEntry]
  simp only [loadKey_inj hg hg']

theorem toNat_of_inTable {x : Int} (h : inTable x = true) : x.toNat < Config.windowCount ∧ ((x.toNat : Nat) : Int) = x := by
  simp only [inTable, Bool.and_eq_true, decide_eq_true_eq] at h
  omega

theorem inTable_cast {g : Nat} (h : g < Config.windowCount) : inTable (g : Int) = true := by
  simp only [inTable, Bool.and_eq_true, decide_eq_true_eq]
  omega

/-- One share taken from a window (R147, R148). -/
theorem loadEntry_subShare (s : State) (k : Nat) (w : Int × Nat) {k' g : Nat} (hg : g < Config.windowCount) :
    (State.subShare k s w).loadEntry k' g = { s.loadEntry k' g with
      load := (s.loadEntry k' g).load - (if k = k' then if w.1 = (g : Int) then w.2 else 0 else 0) } := by
  unfold State.subShare
  split
  next h =>
    obtain ⟨hlt, hcast⟩ := toNat_of_inTable h
    rw [loadEntry_set _ hlt hg]
    by_cases hk : k = k'
    · by_cases he : w.1 = (g : Int)
      · simp [hk, he]
      · have : g ≠ w.1.toNat := by omega
        simp [hk, he, this]
    · simp [hk, Ne.symm hk]
  next h =>
    have : w.1 ≠ (g : Int) := fun he => h (he ▸ inTable_cast hg)
    simp [this]

/-- One share added to a window (R145). -/
theorem loadEntry_addShare (s : State) (k : Nat) (w : Int × Nat) {k' g : Nat} (hg : g < Config.windowCount) :
    (State.addShare k s w).loadEntry k' g = { s.loadEntry k' g with
      load := (s.loadEntry k' g).load + (if k = k' then if w.1 = (g : Int) then w.2 else 0 else 0) } := by
  unfold State.addShare
  split
  next h =>
    obtain ⟨hlt, hcast⟩ := toNat_of_inTable h
    rw [loadEntry_set _ hlt hg]
    by_cases hk : k = k'
    · by_cases he : w.1 = (g : Int)
      · simp [hk, he]
      · have : g ≠ w.1.toNat := by omega
        simp [hk, he, this]
    · simp [hk, Ne.symm hk]
  next h =>
    have : w.1 ≠ (g : Int) := fun he => h (he ▸ inTable_cast hg)
    simp [this]

/-- A window's entry after a list of shares is taken from a kitchen (R147, R148). -/
theorem loadEntry_subFold (l : List (Int × Nat)) (s : State) (k : Nat) {k' g : Nat} (hg : g < Config.windowCount) :
    (l.foldl (State.subShare k) s).loadEntry k' g = { s.loadEntry k' g with
      load := (s.loadEntry k' g).load - (if k = k' then shareSum l g else 0) } := by
  induction l generalizing s with
  | nil => simp [shareSum]
  | cons w l ih =>
    rw [List.foldl_cons, ih, loadEntry_subShare s k w hg, shareSum_cons]
    split <;> simp [Nat.sub_sub]

/-- A window's entry after a list of shares is committed to a kitchen (R145). -/
theorem loadEntry_commitShares (l : List (Int × Nat)) (s : State) (k : Nat) {k' g : Nat} (hg : g < Config.windowCount) :
    (s.commitShares k l).loadEntry k' g = { s.loadEntry k' g with
      load := (s.loadEntry k' g).load + (if k = k' then shareSum l g else 0) } := by
  unfold State.commitShares
  induction l generalizing s with
  | nil => simp [shareSum]
  | cons w l ih =>
    rw [List.foldl_cons, ih, loadEntry_addShare s k w hg, shareSum_cons]
    split <;> simp [Nat.add_assoc]

theorem limit_of_loadOnly {s t : State} (h : sameBut [.load] s t) : t.limit = s.limit := by
  funext k g
  unfold State.limit State.kitchen State.capacity
  rw [show t.plan.kitchens = s.plan.kitchens from h .kitchens (by decide),
    show t.plan.profile = s.plan.profile from h .profile (by decide)]

/-- A window's entry after some windows of a kitchen are brought into line (R149). -/
theorem loadEntry_alignFold (l : List Nat) (s : State) (k : Nat) (hl : ∀ g, g ∈ l → g < Config.windowCount) {k' g : Nat}
    (hg : g < Config.windowCount) :
    (l.foldl (State.alignOver k) s).loadEntry k' g = if k' = k ∧ g ∈ l then
      { s.loadEntry k' g with isOver := decide (s.limit k' g < (s.loadEntry k' g).load) } else s.loadEntry k' g := by
  induction l generalizing s with
  | nil => simp
  | cons a l ih =>
    have ha := hl a (List.mem_cons_self ..)
    have hlim : (State.alignOver k s a).limit = s.limit := limit_of_loadOnly (alignOver_sameBut k s a)
    rw [List.foldl_cons, ih (State.alignOver k s a) (fun g hg => hl g (List.mem_cons_of_mem _ hg)), hlim]
    have hone : (State.alignOver k s a).loadEntry k' g = if k' = k ∧ g = a then
        { s.loadEntry k' g with isOver := decide (s.limit k' g < (s.loadEntry k' g).load) } else s.loadEntry k' g := by
      unfold State.alignOver
      rw [loadEntry_set _ ha hg]
      split
      next h => rw [h.1, h.2]
      next => rfl
    rw [hone]
    by_cases hk : k' = k <;> by_cases h1 : g = a <;> by_cases h2 : g ∈ l <;> simp [hk, h1, h2]

/-- Bringing windows into line changes no load. -/
theorem load_alignFold (l : List Nat) (s : State) (k k' g : Nat) :
    ((l.foldl (State.alignOver k) s).loadEntry k' g).load = (s.loadEntry k' g).load := by
  induction l generalizing s with
  | nil => rfl
  | cons a l ih =>
    rw [List.foldl_cons, ih]
    unfold State.alignOver
    rw [loadEntry_setLoadEntry]
    split
    next h => simp only [State.loadEntry, h]
    next => rfl

theorem lt_of_mem_fallenWindows {before s : State} {k : Nat} {ws : List (Int × Nat)} {g : Nat}
    (h : g ∈ fallenWindows before s k ws) : g < Config.windowCount := by
  obtain ⟨w, hw, rfl⟩ := List.mem_map.1 h
  exact (toNat_of_inTable (Bool.and_eq_true_iff.1 (List.mem_filter.1 hw).2).1).1

/-! ### The sum of the live orders' shares -/

/-- What an entry of the order pool adds to a window. -/
def shareOf (x : Option Order) (k g : Nat) : Nat :=
  match x with
  | none => 0
  | some o => o.shareIn k g

theorem State.sharesIn_eq (s : State) (k g : Nat) :
    s.sharesIn k g = ((List.range Config.orderCap).map (fun j => shareOf (s.order? j) k g)).sum := by
  unfold State.sharesIn
  rfl

/-- A sum in which one term changes. -/
theorem sum_range_update {f h : Nat → Nat} {n j : Nat} (hj : j < n) (hne : ∀ i, i ≠ j → h i = f i) :
    ((List.range n).map h).sum + f j = ((List.range n).map f).sum + h j := by
  induction n with
  | zero => cases hj
  | succ n ih =>
    rw [List.range_succ, List.map_append, List.map_append, List.sum_append, List.sum_append, List.map_singleton,
      List.map_singleton, List.sum_singleton, List.sum_singleton]
    by_cases hjn : j = n
    · have hsame : (List.range n).map h = (List.range n).map f := by
        refine List.map_congr_left (fun i hi => hne i ?_)
        have := List.mem_range.1 hi
        omega
      rw [hsame, hjn]
      omega
    · have := ih (by omega)
      rw [hne n (by omega)]
      omega

/-- The shares in a window when one order's entry changes. -/
theorem sharesIn_update {s t : State} {j : Nat} (hj : j < Config.orderCap) (h : ∀ i, i ≠ j → t.order? i = s.order? i)
    (k g : Nat) : t.sharesIn k g + shareOf (s.order? j) k g = s.sharesIn k g + shareOf (t.order? j) k g := by
  rw [State.sharesIn_eq, State.sharesIn_eq]
  exact sum_range_update (f := fun j => shareOf (s.order? j) k g) (h := fun j => shareOf (t.order? j) k g) hj
    (fun i hi => by simp only [h i hi])

theorem sharesIn_congr {s t : State} {k g k' g' : Nat}
    (h : ∀ j, shareOf (t.order? j) k g = shareOf (s.order? j) k' g') : t.sharesIn k g = s.sharesIn k' g' := by
  rw [State.sharesIn_eq, State.sharesIn_eq]
  simp only [h]

/-! ### R140: the load is the sum of the shares -/

theorem loadOk_of_eq {s t : State} (hs : s.loadOk) (ho : t.plan.orders = s.plan.orders)
    (hl : ∀ k g, g < Config.windowCount → (t.loadEntry k g).load = (s.loadEntry k g).load) : t.loadOk := by
  have horder : ∀ j, t.order? j = s.order? j := fun j => by rw [State.order?, State.order?, ho]
  refine ⟨fun j o hj => hs.1 j o (horder j ▸ hj), fun k g hg => ?_⟩
  rw [hl k g hg, hs.2 k g hg]
  exact (sharesIn_congr (fun j => by rw [horder])).symm

theorem loadOk_of_sameBut {l : List Part} {s t : State} (h : sameBut l s t) (hl : ∀ x ∈ [Part.orders, .load], x ∉ l)
    (hs : s.loadOk) : t.loadOk :=
  loadOk_of_eq hs (h .orders (hl _ (by decide)))
    (fun k g _ => by rw [State.loadEntry, State.loadEntry, show t.plan.load = s.plan.load from h .load (hl _ (by decide))])

/-- One order's entry changes, and the load of each window with it. -/
theorem loadOk_of_update {s t : State} {j : Nat} (hs : s.loadOk) (hj : j < Config.orderCap)
    (h : ∀ i, i ≠ j → t.order? i = s.order? i) (hlast : ∀ o, t.order? j = some o → o.last < (Config.windowCount : Int))
    (hl : ∀ k g, g < Config.windowCount →
      (t.loadEntry k g).load + shareOf (s.order? j) k g = (s.loadEntry k g).load + shareOf (t.order? j) k g) :
    t.loadOk := by
  refine ⟨fun i o ho => ?_, fun k g hg => ?_⟩
  · by_cases hij : i = j
    · exact ⟨hij ▸ hj, hlast o (hij ▸ ho)⟩
    · exact hs.1 i o (h i hij ▸ ho)
  · have h1 := hl k g hg
    have h2 := sharesIn_update hj h k g
    have h3 := hs.2 k g hg
    omega

/-- An order stored where the load has followed. -/
theorem loadOk_changeOrder {s u : State} {j : Nat} {n : Order} (hs : s.loadOk) (hj : j < Config.orderCap)
    (hu : u.plan.orders = s.plan.orders) (hlast : n.last < (Config.windowCount : Int))
    (hl : ∀ k g, g < Config.windowCount →
      (u.loadEntry k g).load + shareOf (s.order? j) k g = (s.loadEntry k g).load + n.shareIn k g) :
    (u.changeOrder j n).loadOk := by
  have horder : ∀ i, u.order? i = s.order? i := fun i => by rw [State.order?, State.order?, hu]
  refine loadOk_of_update (j := j) hs hj (fun i hi => by rw [order?_changeOrder, if_neg hi, horder]) (fun x hx => ?_)
    (fun k g hg => ?_)
  · rw [order?_changeOrder, if_pos rfl] at hx
    cases hx
    exact hlast
  · rw [order?_changeOrder, if_pos rfl]
    exact hl k g hg

/-- A window holds at least the share of each live order (R140). -/
theorem shareIn_le_load {s : State} (hs : s.loadOk) {j : Nat} {o : Order} (ho : s.order? j = some o) {k g : Nat}
    (hg : g < Config.windowCount) : o.shareIn k g ≤ (s.loadEntry k g).load := by
  obtain ⟨hj, -⟩ := hs.1 j o ho
  rw [hs.2 k g hg, State.sharesIn_eq]
  exact List.single_le_sum (fun _ _ => Nat.zero_le _) _
    (List.mem_map.2 ⟨j, List.mem_range.2 hj, by rw [ho]; rfl⟩)

theorem Order.shareIn_of_sameShares {o n : Order} (h : o.sameShares n) (k g : Nat) : n.shareIn k g = o.shareIn k g := by
  obtain ⟨hk, hl, hd, hw⟩ := h
  simp only [Order.shareIn, Order.shares, hk, hl, hd, hw]

theorem order?_freeOrder (s : State) (i j : Nat) (fin : FinState) :
    (s.freeOrder j fin).order? i = if i = j then none else s.order? i := by
  show Pool.item? (Pool.free s.plan.orders j) i = _
  exact Pool.item?_free _ _ _

/-- The load of a window after a removal (R148). -/
theorem load_removeLoad (s : State) (o : Order) {k g : Nat} (hg : g < Config.windowCount) :
    ((s.removeLoad o.kitchen o.shares).loadEntry k g).load = (s.loadEntry k g).load - o.shareIn k g := by
  unfold State.removeLoad State.alignFallen
  rw [load_alignFold, loadEntry_subFold _ _ _ hg, Order.shareIn_eq]

/-- The load of a window after a move of load (R147). -/
theorem load_moveLoad (s : State) (o : Order) (k' : Nat) (l : List (Int × Nat)) {k g : Nat}
    (hg : g < Config.windowCount) : ((s.moveLoad o.kitchen o.shares k' l).loadEntry k g).load =
      (s.loadEntry k g).load - o.shareIn k g + (if k' = k then shareSum l g else 0) := by
  unfold State.moveLoad State.alignFallen
  dsimp only
  rw [load_alignFold, loadEntry_commitShares _ _ _ hg, loadEntry_subFold _ _ _ hg, Order.shareIn_eq]

/-- The shares of a renumbered order in a window are its shares a day later before (R14, R152). -/
theorem shareIn_renumber (o : Order) (k g : Nat) : o.renumber.shareIn k g = o.shareIn k (g + 96) := by
  have hshares : ∀ n : Nat, shareSum o.renumber.shares n = shareSum o.shares (n + 96) := by
    intro n
    unfold shareSum Order.shares sharesOf
    rw [List.filter_map, List.filter_map, List.map_map, List.map_map]
    congr 2
    refine List.filter_congr (fun j _ => ?_)
    simp only [Function.comp_apply, Order.renumber, decide_eq_decide]
    omega
  rw [Order.shareIn_eq, Order.shareIn_eq, hshares]
  rfl

/-- An order has no share past its last window (R142). -/
theorem shareIn_eq_zero {o : Order} {g : Nat} (h : o.last < (g : Int)) (k : Nat) : o.shareIn k g = 0 := by
  have hsum : shareSum o.shares g = 0 := by
    unfold shareSum
    rw [List.filter_eq_nil_iff.2]
    · rfl
    · intro w hw
      obtain ⟨j, hj, rfl⟩ := List.mem_map.1 hw
      have := List.mem_range.1 hj
      simp only [decide_eq_true_eq]
      omega
  rw [Order.shareIn_eq, hsum]
  split <;> rfl

/-- A window of the new day holds what the window a day later held (R152). -/
theorem loadEntry_renumber (s : State) (k : Nat) {g : Nat} (hg : g < Config.windowCount) :
    s.renumber.loadEntry k g = if g + 96 < Config.windowCount then s.loadEntry k (g + 96) else LoadEntry.cold := by
  have hmod : (k * Config.windowCount + g + 96) % Config.windowCount < 96 ↔ ¬ g + 96 < Config.windowCount := by
    unfold Config.windowCount at *
    omega
  show Table.read LoadEntry.cold (renumberLoad s.plan.load) _ = _
  rw [Table.read, look?_renumberLoad]
  by_cases h : g + 96 < Config.windowCount
  · rw [if_neg (fun hm => hmod.1 hm h), if_pos h, Nat.add_assoc]
    rfl
  · rw [if_pos (hmod.2 h), if_neg h]
    rfl

theorem loadOk_renumber {s : State} (hs : s.loadOk) : s.renumber.loadOk := by
  have horder : ∀ j, s.renumber.order? j = (s.order? j).map Order.renumber := fun j => Pool.item?_mapLive _ _ _
  have hshare : ∀ j k g, shareOf (s.renumber.order? j) k g = shareOf (s.order? j) k (g + 96) := by
    intro j k g
    rw [horder]
    cases s.order? j with
    | none => rfl
    | some o => exact shareIn_renumber o k g
  refine ⟨fun j o ho => ?_, fun k g hg => ?_⟩
  · rw [horder] at ho
    obtain ⟨q, hq, rfl⟩ := Option.map_eq_some_iff.1 ho
    obtain ⟨hj, hlast⟩ := hs.1 j q hq
    refine ⟨hj, ?_⟩
    simp only [Order.renumber]
    omega
  · rw [loadEntry_renumber s k hg, sharesIn_congr (fun j => hshare j k g)]
    split
    next h => exact hs.2 k (g + 96) h
    next h =>
      rw [State.sharesIn_eq, List.sum_eq_zero]
      · rfl
      · intro x hx
        obtain ⟨j, -, rfl⟩ := List.mem_map.1 hx
        cases ho : s.order? j with
        | none => rfl
        | some o => exact shareIn_eq_zero (by have := (hs.1 j o ho).2; omega) k

theorem loadOk_of_empty {s : State} (h : s.Empty) : s.loadOk := by
  refine ⟨fun j o ho => ?_, fun k g _ => ?_⟩
  · rw [h.orders] at ho
    cases ho
  · rw [h.load, State.sharesIn_eq]
    simp [h.orders, shareOf, LoadEntry.cold]

theorem loadOk_alignFold (k : Nat) (l : List Nat) {s : State} (hs : s.loadOk) :
    (l.foldl (State.alignOver k) s).loadOk :=
  loadOk_of_eq hs (sameBut_foldl (alignOver_sameBut k) l s .orders (by decide)) (fun k' g _ => load_alignFold l s k k' g)

theorem Act.loadOk {s t : State} (h : Act c s t) (hs : s.loadOk) : t.loadOk := by
  cases h with
  | finishRec i r fin a => exact loadOk_of_sameBut (finishRec_sameBut s i r fin a) (by decide) hs
  | changeOrder j o n ho h =>
    obtain ⟨hj, hlast⟩ := hs.1 j o ho
    refine loadOk_changeOrder hs hj rfl (h.2.2.2 ▸ hlast) (fun k g _ => ?_)
    rw [ho, Order.shareIn_of_sameShares h]
    rfl
  | createOrder j p b q m _ ho hj hm =>
    refine loadOk_changeOrder hs hj (commitShares_sameBut s _ _ .orders (by decide)) hm.1 (fun k g hg => ?_)
    rw [ho, loadEntry_commitShares _ _ _ hg]
    rfl
  | readmit j o q m ho hm =>
    obtain ⟨hj, -⟩ := hs.1 j o ho
    refine loadOk_changeOrder hs hj (moveLoad_sameBut s _ _ _ _ .orders (by decide)) hm.1 (fun k g hg => ?_)
    have hle := shareIn_le_load hs ho (k := k) hg
    have hnew : (readmittedOrder o q m).shareIn k g =
        if m.kitchen = k then shareSum (sharesOf m.load m.lead m.last) g else 0 := rfl
    rw [ho, load_moveLoad _ _ _ _ hg, hnew, show shareOf (some o) k g = o.shareIn k g from rfl]
    omega
  | removeOrder j o fin ho =>
    obtain ⟨hj, -⟩ := hs.1 j o ho
    have horder : ∀ i, ((s.freeOrder j fin).removeLoad o.kitchen o.shares).order? i =
        if i = j then none else s.order? i := fun i => by
      rw [order?_of_sameBut (removeLoad_sameBut _ _ _) (by decide), order?_freeOrder]
    refine loadOk_of_update (j := j) hs hj (fun i hi => by rw [horder, if_neg hi]) (fun x hx => ?_) (fun k g hg => ?_)
    · rw [horder, if_pos rfl] at hx
      cases hx
    · have hle := shareIn_le_load hs ho (k := k) hg
      have hload : (s.freeOrder j fin).plan.load = s.plan.load := freeOrder_sameBut s j fin .load (by decide)
      rw [horder, if_pos rfl, ho, load_removeLoad _ _ hg, show (s.freeOrder j fin).loadEntry k g = s.loadEntry k g by
        rw [State.loadEntry, State.loadEntry, hload]]
      simp only [shareOf]
      omega
  | markAllDue =>
    have horder : ∀ j, s.markAllDue.order? j = (s.order? j).map (Order.markDue s.now) := fun j => Pool.item?_mapLive _ _ _
    refine ⟨fun j o ho => ?_, fun k g hg => (hs.2 k g hg).trans (sharesIn_congr (fun j => ?_)).symm⟩
    · rw [horder] at ho
      obtain ⟨q, hq, rfl⟩ := Option.map_eq_some_iff.1 ho
      exact hs.1 j q hq
    · rw [horder]
      cases s.order? j <;> rfl
  | renumber _ => exact loadOk_renumber hs
  | setKitchen k v => exact loadOk_alignFold k _ (loadOk_of_eq hs rfl (fun _ _ _ => rfl))
  | setProfile k first values _ => exact loadOk_alignFold k _ (loadOk_of_eq hs rfl (fun _ _ _ => rfl))
  | reconfigure p tag _ =>
    have hload := loadOk_of_empty (empty_clearBooking s)
    generalize s.clearBooking = u at hload
    exact loadOk_of_eq hload rfl (fun _ _ _ => rfl)
  | registers | setClass | setTransit | setRoute | setLocation | setDisplay | setVacancy | setChronic | setRoom
  | setChain | setPort | narrow | changeRec | addEntry | freeEntry | closePeriod | countOrder | serve =>
    exact loadOk_of_eq hs rfl (fun _ _ _ => rfl)

/-! ### R149: a load above its limit is marked OVER -/

theorem overOk_of_eq {s t : State} (hs : s.overOk) (hlim : t.limit = s.limit) (hload : t.loadEntry = s.loadEntry) :
    t.overOk := by
  unfold State.overOk
  rw [hlim, hload]
  exact hs

theorem overOk_of_sameBut {l : List Part} {s t : State} (h : sameBut l s t)
    (hl : Part.kitchens ∉ l ∧ Part.profile ∉ l ∧ Part.load ∉ l) (hs : s.overOk) : t.overOk :=
  overOk_of_eq hs (sameLoad_of_sameBut h hl).limit (sameLoad_of_sameBut h hl).loadEntry

/-- Windows brought into line hold R149, whatever they held; the others must hold it. -/
theorem overOk_alignFold {s : State} (k : Nat) (l : List Nat) (hl : ∀ g, g ∈ l → g < Config.windowCount)
    (hs : ∀ k' g, g < Config.windowCount → ¬ (k' = k ∧ g ∈ l) → s.limit k' g < (s.loadEntry k' g).load →
      (s.loadEntry k' g).isOver = true) : (l.foldl (State.alignOver k) s).overOk := by
  intro k' g hg hover
  rw [limit_of_loadOnly (sameBut_foldl (alignOver_sameBut k) l s), load_alignFold] at hover
  rw [loadEntry_alignFold l s k hl hg]
  split
  · exact decide_eq_true hover
  next h => exact hs k' g hg h hover

theorem overOk_alignFallen {s : State} (before : State) (k : Nat) (ws : List (Int × Nat)) (hs : s.overOk) :
    (s.alignFallen before k ws).overOk :=
  overOk_alignFold k _ (fun _ h => lt_of_mem_fallenWindows h) (fun k' g hg _ => hs k' g hg)

/-- A load that only falls keeps R149. -/
theorem overOk_subFold {s : State} (k : Nat) (l : List (Int × Nat)) (hs : s.overOk) :
    (l.foldl (State.subShare k) s).overOk := by
  intro k' g hg hover
  rw [limit_of_loadOnly (sameBut_foldl (subShare_sameBut k) l s), loadEntry_subFold l s k hg] at hover
  rw [loadEntry_subFold l s k hg]
  exact hs k' g hg (Nat.lt_of_lt_of_le hover (Nat.sub_le _ _))

/-- In a list of distinct windows a window's sum is the share listed for it. -/
theorem shareSum_of_nodup {l : List (Int × Nat)} (h : (l.map Prod.fst).Nodup) (g : Nat) :
    shareSum l g = 0 ∨ ∃ w, w ∈ l ∧ w.1 = (g : Int) ∧ shareSum l g = w.2 := by
  induction l with
  | nil => exact .inl rfl
  | cons w l ih =>
    rw [List.map_cons, List.nodup_cons] at h
    rw [shareSum_cons]
    by_cases hw : w.1 = (g : Int)
    · have hrest : shareSum l g = 0 := by
        rcases ih h.2 with h0 | ⟨x, hx, hxg, -⟩
        · exact h0
        · exact absurd (List.mem_map.2 ⟨x, hx, hxg.trans hw.symm⟩) h.1
      exact .inr ⟨w, List.mem_cons_self .., hw, by simp [hw, hrest]⟩
    · rw [if_neg hw, Nat.zero_add]
      rcases ih h.2 with h0 | ⟨x, hx, hxg, he⟩
      · exact .inl h0
      · exact .inr ⟨x, List.mem_cons_of_mem _ hx, hxg, he⟩

theorem sharesOf_nodup (load lead : Nat) (last : Int) : ((sharesOf load lead last).map Prod.fst).Nodup := by
  unfold sharesOf
  rw [List.map_map]
  refine List.Nodup.map (fun i j hij => ?_) List.nodup_range
  simp only [Function.comp_apply] at hij
  omega

/-- Shares that passed the test of R144 keep R149. -/
theorem overOk_commitShares {s : State} {m : Admission} (hm : s.admits m) (hs : s.overOk) :
    (s.commitShares m.kitchen (sharesOf m.load m.lead m.last)).overOk := by
  intro k g hg hover
  rw [limit_of_loadOnly (commitShares_sameBut s _ _), loadEntry_commitShares _ s _ hg] at hover
  rw [loadEntry_commitShares _ s _ hg]
  simp only at hover ⊢
  by_cases hk : m.kitchen = k
  · rw [if_pos hk] at hover
    rcases shareSum_of_nodup (sharesOf_nodup m.load m.lead m.last) g with h0 | ⟨w, hw, hwg, he⟩
    · rw [h0] at hover
      exact hs k g hg hover
    · have htest := hm.2 w hw
      have hnat : w.1.toNat = g := by omega
      simp only [State.shareFails, hk, hnat, Bool.and_eq_false_iff, decide_eq_false_iff_not] at htest
      rw [he] at hover
      rcases htest with h | h
      · exact hs k g hg (by omega)
      · exact absurd hover h
  · rw [if_neg hk] at hover
    exact hs k g hg hover

theorem overOk_renumber {s : State} (hs : s.overOk) : s.renumber.overOk := by
  intro k g hg hover
  have hlim : s.renumber.limit k g = s.limit k (g + 96) := by
    unfold State.limit State.capacity
    rw [Nat.add_mod_right]
    rfl
  rw [loadEntry_renumber s k hg] at hover ⊢
  rw [hlim] at hover
  split at hover
  next h =>
    rw [if_pos h]
    exact hs k (g + 96) h hover
  next => exact absurd hover (Nat.not_lt_zero _)

/-- A profile value outside the windows stored stays (R135). -/
theorem read_storeProfile_other (t : Table Nat) (k w : Nat) (l : List Nat) {i : Nat}
    (h : ∀ j, w ≤ j → j < w + l.length → i ≠ k * 96 + j) : Table.read 0 (storeProfile t k w l) i = Table.read 0 t i := by
  induction l generalizing t w with
  | nil => rfl
  | cons v l ih =>
    rw [List.length_cons] at h
    rw [storeProfile, ih _ _ (fun j h1 h2 => h j (by omega) (by omega))]
    exact Table.read_write_other _ _ _ _ _ (h w (Nat.le_refl _) (by omega))

theorem mem_windowsOfDay {first n g : Nat} (h : first + n ≤ 96) :
    g ∈ windowsOfDay first n ↔ g < Config.windowCount ∧ first ≤ g % 96 ∧ g % 96 < first + n := by
  simp only [windowsOfDay, List.mem_flatMap, List.mem_map, List.mem_range]
  unfold Config.windowCount
  constructor
  · rintro ⟨p, hp, j, hj, rfl⟩
    omega
  · rintro ⟨h1, h2, h3⟩
    exact ⟨g / 96, by omega, g % 96 - first, by omega, by omega⟩

theorem overOk_setProfile {s : State} (k first : Nat) (values : List Nat) (h : first + values.length ≤ 96)
    (hs : s.overOk) : ((windowsOfDay first values.length).foldl (State.alignOver k)
      { s with plan := { s.plan with profile := storeProfile s.plan.profile k first values } }).overOk := by
  refine overOk_alignFold k _ (fun g hg => ((mem_windowsOfDay h).1 hg).1) (fun k' g hg hn hover => hs k' g hg ?_)
  have hcap : Table.read 0 (storeProfile s.plan.profile k first values) (k' * 96 + g % 96) =
      Table.read 0 s.plan.profile (k' * 96 + g % 96) := by
    refine read_storeProfile_other _ _ _ _ (fun j h1 h2 he => hn ?_)
    have hmod : g % 96 < 96 := Nat.mod_lt _ (by decide)
    exact ⟨by omega, (mem_windowsOfDay h).2 ⟨hg, by omega, by omega⟩⟩
  unfold State.limit State.capacity at hover ⊢
  rw [hcap] at hover
  exact hover

theorem overOk_setKitchen {s : State} (k : Nat) (v : Kitchen) (hs : s.overOk) :
    ((List.range Config.windowCount).foldl (State.alignOver k) (s.setKitchen k v)).overOk := by
  refine overOk_alignFold k _ (fun g hg => List.mem_range.1 hg) (fun k' g hg hn hover => hs k' g hg ?_)
  have hk : k' ≠ k := fun h => hn ⟨h, List.mem_range.2 hg⟩
  have hkitchen : (s.setKitchen k v).kitchen k' = s.kitchen k' := Table.read_write_other _ _ _ _ _ hk
  unfold State.limit at hover ⊢
  rw [hkitchen] at hover
  exact hover

theorem overOk_of_empty {s : State} (h : s.Empty) : s.overOk := by
  intro k g _ hover
  rw [h.load] at hover
  exact absurd hover (Nat.not_lt_zero _)

theorem Act.overOk {s t : State} (h : Act c s t) (hs : s.overOk) : t.overOk := by
  cases h with
  | finishRec i r fin a => exact overOk_of_sameBut (finishRec_sameBut s i r fin a) (by decide) hs
  | createOrder j p b q m _ _ _ hm =>
    exact overOk_of_sameBut (changeOrder_sameBut _ j _) (by decide) (overOk_commitShares hm hs)
  | readmit j o q m _ hm =>
    exact overOk_of_sameBut (changeOrder_sameBut _ j _) (by decide)
      (overOk_alignFallen s _ _ (overOk_commitShares hm (overOk_subFold _ _ hs)))
  | removeOrder j o fin _ =>
    exact overOk_alignFallen _ _ _ (overOk_subFold _ _ (overOk_of_sameBut (freeOrder_sameBut s j fin) (by decide) hs))
  | renumber _ => exact overOk_renumber hs
  | setKitchen k v => exact overOk_setKitchen k v hs
  | setProfile k first values h => exact overOk_setProfile k first values h hs
  | reconfigure p tag _ =>
    have hload : s.clearBooking.overOk := overOk_of_empty (empty_clearBooking s)
    generalize s.clearBooking = u at hload
    exact overOk_of_eq hload rfl rfl
  | registers | setClass | setTransit | setRoute | setLocation | setDisplay | setVacancy | setChronic | setRoom
  | setChain | setPort | narrow | changeRec | changeOrder | addEntry | freeEntry | markAllDue | closePeriod | countOrder
  | serve =>
    exact overOk_of_eq hs rfl rfl

theorem loadOk_cold (x y z : RoleMask) : (State.cold x y z).loadOk := loadOk_of_empty
  ⟨fun _ => rfl, rfl, fun _ => rfl, fun _ => rfl, fun _ _ => rfl⟩

theorem overOk_cold (x y z : RoleMask) : (State.cold x y z).overOk :=
  fun _ _ _ h => absurd h (Nat.not_lt_zero _)

theorem Move.loadOk {s t : State} (h : Move c s t) (hs : s.loadOk) : t.loadOk := by
  cases h with
  | act h => exact h.loadOk hs
  | edge => exact loadOk_of_eq hs rfl (fun _ _ _ => rfl)

theorem Move.overOk {s t : State} (h : Move c s t) (hs : s.overOk) : t.overOk := by
  cases h with
  | act h => exact h.overOk hs
  | edge => exact overOk_of_eq hs rfl rfl

/-- Settles O58: every act that changes an order changes the load by its shares, and every act that changes a limit or
lowers a load brings the marks into line. -/
theorem loadStaysExplained : Obligations.LoadStaysExplained := by
  unfold Obligations.LoadStaysExplained
  exact ⟨fun c s t hs h => exec_keeps (P := State.loadOk) (fun _ x y z _ => loadOk_cold x y z)
      (fun _ _ hs h => h.loadOk hs) hs h,
    fun c s t hs h => exec_keeps (P := State.overOk) (fun _ x y z _ => overOk_cold x y z)
      (fun _ _ hs h => h.overOk hs) hs h⟩

end Sys2Proof.Machine
end

section
/-! SUPPORT. The counters: what a table outside its canonical form lets past. -/

namespace Sys2Proof.Machine

/-- The room of the refuting state: open, with sensor check-in, its panel's unit bound. -/
def overflowRoom : Room :=
  { Room.cold with configured := true, isOpen := true, seats := 4, options := ⟨true, true, false, false⟩, unitId := some 1 }

/-- A CONFIRMED booking whose check-in window is open and whose extensions are far beyond 8. -/
def overflowRec : Rec :=
  { kind := .booking, room := 0, plane := 0, start := 121, stop := 127, setup := 0, clear := 0, state := .confirmed
    owner := .panel, organizer := 0, label := 0, attendees := none, deadline := ⟨.arrival, 605, false⟩, arrival := none
    rev := 0, order := none, flags := ⟨false, false, false, false⟩, extensions := 100 }

/-- The panel position of the refuting state: LINKED and OCCUPIED. -/
def overflowPosition : Position :=
  { Position.cold with unitId := some 1, presence := .linked, debounced := some .occupied }

/-- A state whose booking pool is not canonical: entry 0 is listed free, and listed once more with a record. No read of
an entry finds that record, but the list of live records has it. -/
def overflowState : State :=
  let s := State.cold ⟨true, true, true⟩ ⟨true, true, true⟩ ⟨true, true, true⟩
  { s with
    clock := { s.clock with minute := 600, set := true }
    site := { rooms := [(0, overflowRoom)], buildings := 1, mode := .serving }
    book := { s.book with pool := [(0, ⟨0, none⟩), (0, ⟨0, some overflowRec⟩)] }
    link := { s.link with chains := [(0, { Chain.cold with positions := [(1, overflowPosition)] })],
                          locations := [(0, some ⟨0, 1⟩)] } }

theorem overflowState_rec? (i : Nat) : overflowState.rec? i = none := by
  unfold State.rec? Pool.item? Pool.entry Table.read
  cases i with
  | zero => rfl
  | succ i => simp [overflowState, Table.look?, PoolEntry.fresh]

theorem overflowState_countersOk : overflowState.countersOk := by
  refine ⟨fun _ => rfl, fun _ => rfl, fun _ => rfl, fun _ => rfl, fun _ => ?chronic, fun c => ?chains, fun c p => ?positions,
    fun _ => ?vacancy, fun i r h => ?recs, fun p n h => ?queues⟩
  case chronic => exact (by decide : ChronicState.cold.dayNoShows ≤ 255 ∧ ChronicState.cold.streak ≤ 3)
  case chains =>
    exact Table.read_of_all (P := fun ch : Chain => ch.countersFit = true) (by decide) (by decide) c
  case positions =>
    have hall : ∀ ch : Chain, ch ∈ [Chain.cold, { Chain.cold with positions := [(1, overflowPosition)] }] →
        ∀ e ∈ ch.positions, e.2.good ≤ 2 ∧ e.2.miss ≤ 3 := by decide
    have hch : ∀ e ∈ (overflowState.chain c).positions, e.2.good ≤ 2 ∧ e.2.miss ≤ 3 :=
      Table.read_of_all (P := fun ch : Chain => ∀ e ∈ ch.positions, e.2.good ≤ 2 ∧ e.2.miss ≤ 3) (by decide) (by decide) c
    exact Table.read_of_all (P := fun q : Position => q.good ≤ 2 ∧ q.miss ≤ 3) (by decide) hch p
  case vacancy => exact Nat.zero_le _
  case recs =>
    rw [overflowState_rec?] at h
    cases h
  case queues =>
    cases p <;> exact absurd h List.not_mem_nil

theorem overflowState_advance : ((overflowState.advanceMinute.rec? 0).map Rec.extensions) = some 100 := by
  decide +kernel

/-- Refutes O55: the statement does not ask for canonical tables. In a pool that lists entry 0 twice, first free and then
with a record of 100 extensions, no read of an entry finds the record, so that every counter is within its width; but
the sensor check-in of a minute advance works on the list of live records, and stores it back into entry 0. -/
theorem not_countersStayInWidth : ¬ Obligations.CountersStayInWidth := by
  unfold Obligations.CountersStayInWidth
  intro h
  have ht : overflowState.advanceMinute.countersOk := h .minuteAdvance overflowState _ overflowState_countersOk rfl
  obtain ⟨-, -, -, -, -, -, -, -, hrec, -⟩ := ht
  obtain ⟨r, hr, hx⟩ := Option.map_eq_some_iff.1 overflowState_advance
  have := hrec 0 r hr
  omega

/-- Settles O60: a cold reset leaves empty tables, empty slots and empty queues. -/
theorem resetMeetsInvariants : Obligations.ResetMeetsInvariants := by
  unfold Obligations.ResetMeetsInvariants
  have hcounters : State.reset.countersOk :=
    ⟨fun _ => rfl, fun _ => rfl, fun _ => rfl, fun _ => rfl, fun _ => ⟨Nat.zero_le _, Nat.zero_le _⟩, fun _ => rfl,
      fun _ _ => ⟨Nat.zero_le _, Nat.zero_le _⟩, fun _ => Nat.zero_le _, fun _ _ h => (by cases h), fun p n h => by
        cases p <;> exact absurd h List.not_mem_nil⟩
  exact ⟨queuesOk_cold _ _ _, portsOk_cold _ _ _, revisionsOk_cold _ _ _, ringOk_cold _ _ _, hcounters,
    tablesOk_cold _ _ _, bookSound_cold _ _ _, loadOk_cold _ _ _, overOk_cold _ _ _, empty_cold _ _ _⟩

end Sys2Proof.Machine
end

section
/-! SUPPORT. The rows that are agent commands: what each runs, and the guards it begins with (R8, R33, R189). -/

namespace Sys2Proof.Machine

/-! ### Commands at a port -/

/-- What the owning block runs for a row that is an agent command. -/
def runOf : Instr → State → State × Reply
  | .readRoom _ _ r => runReadRoom r
  | .configSite p _ n => runConfigSite p n
  | .configRoom p _ a => runConfigRoom p a
  | .openRoom p _ r => runOpenRoom p r
  | .closeRoom p _ r => runCloseRoom p r
  | .closeRoomForce p _ r => runCloseRoomForce p r
  | .openDevice p _ => runOpenDevice p
  | .reconfigure p _ => runReconfigure p
  | .setMinuteSync p _ e => runSetMinuteSync p e
  | .setTime p _ d m n => runSetTime p d m n
  | .adjustTimeForward p _ n => runAdjustTimeForward p n
  | .adjustTimeBackward p _ n => runAdjustTimeBackward p n
  | .hold p tag a => runHold p tag a
  | .confirm p _ h e => runConfirm p h e
  | .modify p _ h e a => runModify p h e a
  | .move p _ h e a => runMove p h e a
  | .cancel p _ h e => runCancel p h e
  | .block p _ a => runBlock p a
  | .unblock p _ h e => runUnblock p h e
  | .queryBooking p _ h => runQueryBooking p h
  | .queryRoomDay p _ r d i => runQueryRoomDay p r d i
  | .listChanges p _ n => runListChanges p n
  | .listNext p _ => runListNext p
  | .waitAdd p tag a => runWaitAdd p tag a
  | .waitRemove p _ h => runWaitRemove p h
  | .queryWaitlist p _ i => runQueryWaitlist p i
  | .checkIn p _ h e => runCheckIn p h e
  | .extend p _ h e => runExtend p h e
  | .readLinkCounters p _ c => runReadLinkCounters p c
  | .chainReset p _ c e => runChainReset p c e
  | .readPanels p _ c i => runReadPanels p c i
  | .configKitchen p _ k o n => runConfigKitchen p k o n
  | .setCapacity p _ k w l => runSetCapacity p k w l
  | .defineClass p _ m w l n => runDefineClass p m w l n
  | .setTransit p _ b t0 t1 t2 t3 => runSetTransit p b t0 t1 t2 t3
  | .readKitchenSetup p _ x => runReadKitchenSetup p x
  | .kitchenLoad p _ k w n => runKitchenLoad p k w n
  | .caterOrder p _ h e q => runCaterOrder p h e q
  | .caterChange p _ h e a => runCaterChange p h e a
  | .caterCancel p _ h e => runCaterCancel p h e
  | .caterDelivered p _ h e => runCaterDelivered p h e
  | .queryOrder p _ x => runQueryOrder p x
  | .snapshot p _ => runSnapshot p
  | .setAutoSnapshot p _ v => runSetAutoSnapshot p v
  | .readUsage p _ x => runReadUsage p x
  | .configRoute p _ a => runConfigRoute p a
  | .readRoutes p _ n => runReadRoutes p n
  | .status p _ => runStatus p
  | .narrowRoles p _ l m => runNarrowRoles p l m
  | .unknownCommand _ _ w => runUnknownCommand w
  | _ => fun s => accept s

/-- A command row is its run at its port. -/
theorem exec_command {c : Instr} {p : Port} {tag : Byte} {cmd : Command} (h : commandOf? c = some (p, tag, cmd))
    (s : State) : exec c s = .next (s.atPort p tag cmd (runOf c)) := by
  cases c <;> cases h <;> rfl

/-- A command row at a port that can take it (R191, R193). -/
theorem exec_of_canTake {c : Instr} {p : Port} {tag : Byte} {cmd : Command} (h : commandOf? c = some (p, tag, cmd))
    {s : State} (hc : s.canTake p) : exec c s =
      .next (((runOf c (s.taking p tag cmd)).1).placed p tag (runOf c (s.taking p tag cmd)).2) := by
  rw [exec_command h, atPort_of_canTake s p tag cmd _ hc]

/-- A command row that leaves a state and an answer. -/
theorem exec_of_run {c : Instr} {p : Port} {tag : Byte} {cmd : Command} (h : commandOf? c = some (p, tag, cmd))
    {s u : State} {r : Reply} (hc : s.canTake p) (hr : runOf c (s.taking p tag cmd) = (u, r)) :
    exec c s = .next (u.placed p tag r) := by
  rw [exec_of_canTake h hc, hr]

/-- A command row that is refused (R193). -/
theorem exec_of_refuse {c : Instr} {p : Port} {tag : Byte} {cmd : Command} (h : commandOf? c = some (p, tag, cmd))
    {s : State} {k : Code} {d : Payload} (hc : s.canTake p)
    (hr : runOf c (s.taking p tag cmd) = refuse (s.taking p tag cmd) k d) :
    exec c s = .next ((s.taking p tag cmd).placed p tag (Reply.refusalWith k d)) := exec_of_run h hc hr

/-! ### Guards -/

/-- The role of a command that makes the checks of R40 and R158 (R33). -/
def changingRole : Command → Option Role
  | .hold _ | .confirm _ _ | .modify _ _ _ | .move _ _ _ | .cancel _ _ | .checkIn _ _ | .extend _ _ => some .sched
  | .block _ | .unblock _ _ => some .facil
  | .caterOrder _ _ _ | .caterChange _ _ _ | .caterCancel _ _ | .caterDelivered _ _ => some .cater
  | _ => none

theorem changingRole_of_needsRevision {cmd : Command} (h : needsRevision cmd = true) : ∃ r, changingRole cmd = some r := by
  cases cmd <;> cases h <;> exact ⟨_, rfl⟩

theorem permits_of_changingRole {cmd : Command} {r : Role} (h : changingRole cmd = some r) (p : Port) (m : RoleMask) :
    permits p m cmd = roleIn m r := by
  cases cmd <;> cases h <;> rfl

theorem needsServing_of_changingRole {cmd : Command} {r : Role} (h : changingRole cmd = some r) :
    needsServing cmd = true := by
  cases cmd <;> cases h <;> rfl

/-- The commands of the waitlist (R64, R67). -/
def isWait : Command → Bool
  | .waitAdd _ | .waitRemove _ => true
  | _ => false

theorem permits_of_isWait {cmd : Command} (h : isWait cmd = true) (p : Port) (m : RoleMask) :
    permits p m cmd = m.sched := by
  cases cmd <;> cases h <;> rfl

theorem changing_or_isWait {cmd : Command} (h : needsServing cmd = true) :
    (∃ r, changingRole cmd = some r) ∨ isWait cmd = true := by
  cases cmd <;> cases h <;> first | exact .inl ⟨_, rfl⟩ | exact .inr rfl

/-- A command that fails the checks of R40 is answered with their code. -/
theorem runOf_of_changeCheck {c : Instr} {p : Port} {tag : Byte} {cmd : Command} {r : Role} {t : State} {k : Code}
    (h : commandOf? c = some (p, tag, cmd)) (hr : changingRole cmd = some r) (hk : t.changeCheck p r = some k) :
    runOf c t = refuse t k := by
  cases c <;> cases h <;> cases hr <;>
    simp only [runOf, runHold, runConfirm, runModify, runMove, runCancel, runCheckIn, runExtend, runBlock, runUnblock,
      runCaterOrder, runCaterChange, runCaterCancel, runCaterDelivered, hk]

/-- A waitlist command that fails the checks of R64 is answered with their code. -/
theorem runOf_of_waitCheck {c : Instr} {p : Port} {tag : Byte} {cmd : Command} {t : State} {k : Code}
    (h : commandOf? c = some (p, tag, cmd)) (hr : isWait cmd = true) (hk : t.waitCheck p = some k) :
    runOf c t = refuse t k := by
  cases c <;> cases h <;> cases hr <;> simp only [runOf, runWaitAdd, runWaitRemove, hk]

theorem State.changeCheck_eq (s : State) (p : Port) (r : Role) : s.changeCheck p r =
    if roleIn (s.port p).actingMask r = false then some .role
    else if s.serving = false then some .notOpen else if s.exhausted = true then some .revExhausted else none := by
  unfold State.changeCheck State.mayIssue
  cases roleIn (s.port p).actingMask r <;> cases s.serving <;> rfl

theorem State.waitCheck_eq (s : State) (p : Port) : s.waitCheck p =
    if (s.port p).actingMask.sched = false then some .role
    else if s.serving = false then some .notOpen else none := by
  unfold State.waitCheck State.mayIssue roleIn
  cases (s.port p).actingMask.sched <;> cases s.serving <;> rfl

/-- The role check of a command that a role's absence refuses (R189). -/
theorem runOf_of_role {c : Instr} {p : Port} {tag : Byte} {cmd : Command} {t : State}
    (h : commandOf? c = some (p, tag, cmd)) (hp : permits p (t.port p).actingMask cmd = false) :
    runOf c t = refuse t .role := by
  by_cases hs : needsServing cmd = true
  · rcases changing_or_isWait hs with ⟨r, hr⟩ | hw
    · refine runOf_of_changeCheck h hr ?_
      rw [permits_of_changingRole hr] at hp
      rw [State.changeCheck_eq, if_pos hp]
    · refine runOf_of_waitCheck h hw ?_
      rw [permits_of_isWait hw] at hp
      rw [State.waitCheck_eq, if_pos hp]
  · cases c <;> cases h <;> first
      | exact absurd rfl hs
      | exact if_pos (congrArg (!·) hp)

end Sys2Proof.Machine
end

section
/-! SUPPORT. The settling of the statements about the step, the ports' taking of commands, RESET and the guards. -/

namespace Sys2Proof.Machine

/-! ### The step -/

/-- Settles O1: the step's two cases. -/
theorem stepRunsFrontCommand : Obligations.StepRunsFrontCommand := by
  unfold Obligations.StepRunsFrontCommand
  refine ⟨fun s c rest h => ?_, fun s h => ?_⟩ <;> simp only [step, h]

/-! ### Taking a command -/

/-- Flags set where no read is in progress. -/
theorem AgentPort.setFlags_of_idle {a : AgentPort} (h : a.reading = none) (f : PortFlags) :
    a.setFlags f = { a with flags := a.flags.join f } := by
  unfold AgentPort.setFlags
  rw [h]
  rfl

theorem PortFlags.join_ofCollision (f : PortFlags) : f.join .ofCollision = { f with collision := true } := by
  simp [PortFlags.join, PortFlags.ofCollision]

theorem PortFlags.join_ofIncomplete (f : PortFlags) : f.join .ofIncomplete = { f with incomplete := true } := by
  simp [PortFlags.join, PortFlags.ofIncomplete]

theorem PortFlags.join_ofTimeout (f : PortFlags) : f.join .ofTimeout = { f with timeout := true } := by
  simp [PortFlags.join, PortFlags.ofTimeout]

/-- A frame at a port that is not IDLE, with no read in progress, only sets COLLISION (R191). -/
theorem AgentPort.takeFrame_of_busy {a : AgentPort} (hb : a.base ≠ .idle) (hr : a.reading = none) (k : Taken) :
    a.takeFrame k = { a with receiving := false, flags := { a.flags with collision := true } } := by
  unfold AgentPort.takeFrame
  split
  next h => exact absurd h hb
  next =>
    rw [AgentPort.setFlags_of_idle (a := { a with receiving := false }) hr, PortFlags.join_ofCollision]

theorem AgentPort.takeFrame_of_idle {a : AgentPort} (hb : a.base = .idle) (k : Taken) :
    a.takeFrame k = { a with receiving := false, base := .executing, inHand := some k } := by
  unfold AgentPort.takeFrame
  rw [hb]

/-- A command frame at a port that is not IDLE (R191). -/
theorem atPort_of_busy {s : State} {p : Port} {tag : Byte} {cmd : Command} (run : State → State × Reply)
    (hreset : s.resetLow = false) (hb : (s.port p).base ≠ .idle) (hr : (s.port p).reading = none)
    (hh : (s.port p).holdsCommand tag cmd = false) : s.atPort p tag cmd run =
      s.setPort p { s.port p with receiving := false, flags := { (s.port p).flags with collision := true } } := by
  unfold State.atPort
  simp only [hreset, hh, hr, hb, Bool.false_eq_true, if_false, Option.isSome_none,
    AgentPort.takeFrame_of_busy hb hr]

/-- A command of a port whose frame was taken before runs as it would on arrival (R191). -/
theorem atPort_taking {s : State} {p : Port} (tag : Byte) (cmd : Command) (run : State → State × Reply)
    (hc : s.canTake p) : (s.taking p tag cmd).atPort p tag cmd run = s.atPort p tag cmd run := by
  rw [atPort_of_canTake s p tag cmd run hc]
  refine atPort_of_inHand (s.taking p tag cmd) p tag cmd run (s.takenNow p tag cmd) hc.1 ?_ rfl rfl
  unfold State.taking
  rw [State.port_setPort_same]

/-- Settles O3: a busy port's frame sets COLLISION; a command taken before is answered from the same state. -/
theorem commandTakenOnlyWhenIdle : Obligations.CommandTakenOnlyWhenIdle := by
  unfold Obligations.CommandTakenOnlyWhenIdle
  refine ⟨fun c p tag cmd s hcmd hreset hb hr hh => ?_, fun c p tag cmd s hcmd hc => ?_⟩
  · rw [exec_command hcmd, atPort_of_busy _ hreset hb hr hh]
  · rw [exec_command hcmd, exec_command hcmd, atPort_taking tag cmd _ hc]

/-! ### RESET -/

theorem onPort_of_reset {s : State} (h : s.resetLow = true) (p : Port) (f : AgentPort → AgentPort) : s.onPort p f = s :=
  if_pos h

theorem onPort_of_high {s : State} (h : s.resetLow = false) (p : Port) (f : AgentPort → AgentPort) :
    s.onPort p f = s.setPort p (f (s.port p)) := if_neg (by simp [h])

/-- An event of a port's lines is a function of the port's record. -/
theorem exec_portEvent {c : Instr} {p : Port} (h : portEventOf? c = some p) (s : State) :
    ∃ f, exec c s = .next (s.onPort p f) := by
  cases c <;> cases h <;> exact ⟨_, rfl⟩

/-- Settles O4: with RESET low, no line is driven, and commands and events of a port leave the state as it is. -/
theorem resetLineHoldsPorts : Obligations.ResetLineHoldsPorts := by
  unfold Obligations.ResetLineHoldsPorts
  refine ⟨fun s => rfl, fun s p h => ?attention, fun s p l h => ?sdo, fun c p tag cmd s h hcmd => ?command,
    fun c p s h hev => ?event⟩
  case attention =>
    unfold State.attention
    rw [h]
    rfl
  case sdo => exact if_pos h
  case command =>
    rw [exec_command hcmd]
    exact congrArg _ (if_pos h)
  case event =>
    obtain ⟨f, hf⟩ := exec_portEvent hev s
    rw [hf, onPort_of_reset h]

/-- Settles O5: a cold reset leaves every table empty and every port at its straps. -/
theorem coldResetGivesColdState : Obligations.ColdResetGivesColdState := by
  unfold Obligations.ColdResetGivesColdState
  intro a b c s
  refine ⟨s.afterCold a b c, rfl, rfl, rfl, rfl, rfl, rfl, fun _ => rfl, rfl, rfl, rfl, rfl, fun p => ?listings,
    fun _ => rfl, fun _ => rfl, fun _ => rfl, rfl, fun _ => rfl, fun _ => rfl,
    fun _ => ⟨rfl, rfl, rfl, rfl, rfl, rfl, rfl, rfl, rfl, rfl, rfl, rfl, rfl⟩, fun _ _ => rfl, fun _ => ⟨rfl, rfl, rfl⟩,
    fun _ => rfl, fun _ _ => ⟨rfl, rfl⟩, fun _ => rfl, fun _ _ => rfl, fun _ => ⟨rfl, rfl⟩, fun _ => rfl, rfl, rfl, rfl, rfl,
    fun _ => rfl, fun _ => rfl, rfl, fun _ => rfl, rfl, rfl, rfl, fun p => ?ports⟩
  case listings => cases p <;> rfl
  case ports => cases p <;> exact ⟨rfl, rfl, rfl, rfl, rfl, rfl, rfl⟩

/-! ### The guards -/

theorem actingMask_taking (s : State) (p : Port) (tag : Byte) (cmd : Command) :
    ((s.taking p tag cmd).port p).actingMask = (s.port p).roles := by
  unfold State.taking
  rw [State.port_setPort_same]
  rfl

theorem changeCheck_taking (s : State) (p : Port) (tag : Byte) (cmd : Command) (r : Role) :
    (s.taking p tag cmd).changeCheck p r = if roleIn (s.port p).roles r = false then some .role
      else if s.serving = false then some .notOpen else if s.exhausted = true then some .revExhausted else none := by
  rw [State.changeCheck_eq, actingMask_taking]
  rfl

theorem waitCheck_taking (s : State) (p : Port) (tag : Byte) (cmd : Command) :
    (s.taking p tag cmd).waitCheck p = if (s.port p).roles.sched = false then some .role
      else if s.serving = false then some .notOpen else none := by
  rw [State.waitCheck_eq, actingMask_taking]
  rfl

theorem exec_of_role {c : Instr} {p : Port} {tag : Byte} {cmd : Command} {s : State}
    (h : commandOf? c = some (p, tag, cmd)) (hc : s.canTake p) (hp : permits p (s.port p).roles cmd = false) :
    exec c s = .next ((s.taking p tag cmd).placed p tag (Reply.refusal .role)) :=
  exec_of_refuse h hc (runOf_of_role h (by rw [actingMask_taking]; exact hp))

theorem exec_of_notOpen {c : Instr} {p : Port} {tag : Byte} {cmd : Command} {s : State}
    (h : commandOf? c = some (p, tag, cmd)) (hc : s.canTake p) (hp : permits p (s.port p).roles cmd = true)
    (hn : needsServing cmd = true) (hs : s.serving = false) :
    exec c s = .next ((s.taking p tag cmd).placed p tag (Reply.refusal .notOpen)) := by
  rcases changing_or_isWait hn with ⟨r, hr⟩ | hw
  · refine exec_of_refuse h hc (runOf_of_changeCheck h hr ?_)
    rw [permits_of_changingRole hr] at hp
    rw [changeCheck_taking, hp, hs]
    rfl
  · refine exec_of_refuse h hc (runOf_of_waitCheck h hw ?_)
    rw [permits_of_isWait hw] at hp
    rw [waitCheck_taking, hp, hs]
    rfl

theorem exec_of_exhausted {c : Instr} {p : Port} {tag : Byte} {cmd : Command} {s : State}
    (h : commandOf? c = some (p, tag, cmd)) (hc : s.canTake p) (hp : permits p (s.port p).roles cmd = true)
    (hn : needsRevision cmd = true) (hs : s.serving = true) (he : s.exhausted = true) :
    exec c s = .next ((s.taking p tag cmd).placed p tag (Reply.refusal .revExhausted)) := by
  obtain ⟨r, hr⟩ := changingRole_of_needsRevision hn
  refine exec_of_refuse h hc (runOf_of_changeCheck h hr ?_)
  rw [permits_of_changingRole hr] at hp
  rw [changeCheck_taking, hp, hs, he]
  rfl

theorem runCloseRoomForce_of_exhausted {p : Port} {room : Nat} {s : State} (hp : s.mayIssue p .facil = true)
    (hr : room ≤ 159) (hl : s.roomRecs room ≠ []) (he : s.exhausted = true) :
    runCloseRoomForce p room s = refuse s .revExhausted := by
  have hout : roomOut room = false := decide_eq_false (by omega)
  have hne : ((s.roomRecs room).map Prod.fst).isEmpty = false := by simpa using hl
  simp [runCloseRoomForce, hp, hout, hne, he]

/-- Settles O6: the checks each command begins with. -/
theorem commandsAreGuarded : Obligations.CommandsAreGuarded := by
  unfold Obligations.CommandsAreGuarded
  refine ⟨fun c p tag cmd s h hc hp => exec_of_role h hc hp, fun c p tag cmd s h hc hp hn hs => exec_of_notOpen h hc hp hn hs,
    fun c p tag cmd s h hc hp hn hs he => exec_of_exhausted h hc hp hn hs he, fun p tag room s hc hp hr hl he => ?_⟩
  exact exec_of_refuse rfl hc
    (runCloseRoomForce_of_exhausted ((mayIssue_taking s p tag _ .facil).trans hp) hr hl he)

end Sys2Proof.Machine
end

section
/-! SUPPORT. The settling of the statements about the transactions at a port, NARROW_ROLES and unknown commands. -/

namespace Sys2Proof.Machine

/-! ### Command transactions -/

theorem AgentPort.dropFrame_of_idle {a : AgentPort} (h : a.reading = none) (f : PortFlags) :
    a.dropFrame f = { a with receiving := false, flags := a.flags.join f } := by
  unfold AgentPort.dropFrame
  exact AgentPort.setFlags_of_idle (a := { a with receiving := false }) h f

theorem wellFormedFrame_iff (f : CommandFrame) : wellFormedFrame f = true ↔
    f.length.toNat ≤ 60 ∧ f.payload.length = f.length.toNat ∧
    f.check = crc16 (f.length :: f.tag :: f.ident :: f.payload) := by
  simp [wellFormedFrame, CommandFrame.checkMatches, and_assoc]

theorem AgentPort.completeFrame_of_wellFormed {a : AgentPort} {f : CommandFrame} (hr : a.receiving = true)
    (hf : wellFormedFrame f = true) (k : Taken) : a.completeFrame f k = a.takeFrame k := by
  unfold AgentPort.completeFrame
  rw [hr, hf]
  rfl

theorem AgentPort.completeFrame_of_bad {a : AgentPort} {f : CommandFrame} (hr : a.receiving = true)
    (hf : wellFormedFrame f = false) (k : Taken) : a.completeFrame f k = a.dropFrame .ofIncomplete := by
  unfold AgentPort.completeFrame
  rw [hr, hf]
  rfl

theorem AgentPort.stall_of_idle {a : AgentPort} (h : a.reading = none) (b : Bool) :
    a.stall b = { a with receiving := false, flags := { a.flags with timeout := true } } := by
  unfold AgentPort.stall
  rw [h, AgentPort.setFlags_of_idle rfl, PortFlags.join_ofTimeout]
  simp

/-- Settles O7: each event's effect on the port's record. -/
theorem commandTransactions : Obligations.CommandTransactions := by
  unfold Obligations.CommandTransactions
  refine ⟨fun p s hreset hq => ?sync, fun p first s hreset hq h1 h2 => ?void, fun p n s hreset hrec hread hn => ?length,
    fun p f s hreset hrec hread h60 hlen hcheck hb => ?taken, fun p f s hreset hrec hread h60 hlen hcheck hb => ?busy,
    fun p f s hreset hrec hread hcheck => ?bad, fun p s hreset hrec hread => ?early, fun p b s hreset hread => ?stall,
    fun p k s hreset => ?sdo⟩
  case sync =>
    refine congrArg _ ((onPort_of_high hreset p _).trans (congrArg _ ?_))
    unfold AgentPort.openCommand
    rw [if_pos hq]
  case void =>
    refine congrArg _ ((onPort_of_high hreset p _).trans (congrArg _ ?_))
    have hnone := ((s.port p).quiet_iff.1 hq).2
    unfold AgentPort.voidFirst
    rw [if_pos (by rw [hq]; simpa using ⟨h1, h2⟩), AgentPort.setFlags_of_idle hnone, PortFlags.join_ofIncomplete]
  case length =>
    refine congrArg _ ((onPort_of_high hreset p _).trans (congrArg _ ?_))
    unfold AgentPort.lengthFault
    rw [if_pos (by simp [hrec, hn]), AgentPort.dropFrame_of_idle hread, PortFlags.join_ofIncomplete]
  case taken =>
    refine congrArg _ ((onPort_of_high hreset p _).trans (congrArg _ ?_))
    rw [AgentPort.completeFrame_of_wellFormed hrec ((wellFormedFrame_iff f).2 ⟨h60, hlen, hcheck⟩),
      AgentPort.takeFrame_of_idle hb]
  case busy =>
    refine congrArg _ ((onPort_of_high hreset p _).trans (congrArg _ ?_))
    have hbusy : (s.port p).base ≠ .idle := by rcases hb with hb | hb <;> rw [hb] <;> decide
    rw [AgentPort.completeFrame_of_wellFormed hrec ((wellFormedFrame_iff f).2 ⟨h60, hlen, hcheck⟩),
      AgentPort.takeFrame_of_busy hbusy hread]
  case bad =>
    refine congrArg _ ((onPort_of_high hreset p _).trans (congrArg _ ?_))
    have hbad : wellFormedFrame f = false :=
      Bool.eq_false_iff.2 (fun h => hcheck ((wellFormedFrame_iff f).1 h).2.2)
    rw [AgentPort.completeFrame_of_bad hrec hbad, AgentPort.dropFrame_of_idle hread, PortFlags.join_ofIncomplete]
  case early =>
    refine congrArg _ ((onPort_of_high hreset p _).trans (congrArg _ ?_))
    unfold AgentPort.selEarly
    rw [if_pos hrec, AgentPort.dropFrame_of_idle hread, PortFlags.join_ofIncomplete]
  case stall =>
    exact congrArg _ ((onPort_of_high hreset p _).trans (congrArg _ (AgentPort.stall_of_idle hread b)))
  case sdo =>
    unfold State.sdo
    rw [hreset]
    exact ⟨rfl, rfl⟩

/-! ### Read transactions -/

theorem State.setPort_self (s : State) (p : Port) : s.setPort p (s.port p) = s := by cases p <;> rfl

theorem PortFlags.join_clear (f : PortFlags) : f.join ⟨false, false, false, false⟩ = f := by simp [PortFlags.join]

/-- Flags set where a read has just ended. -/
theorem AgentPort.setFlags_ended (a : AgentPort) (f : PortFlags) :
    AgentPort.setFlags { a with reading := none } f = { a with reading := none, flags := a.flags.join f } :=
  AgentPort.setFlags_of_idle (a := { a with reading := none }) rfl f

theorem removeTopic_head (n : Notice) (l : List Notice) : removeTopic n (n :: l) = l := by
  simp [removeTopic, Notice.sameTopic]

theorem AgentPort.finishRead_eq {a : AgentPort} {r : Reading} (h : a.reading = some r) : a.finishRead =
    AgentPort.removeItem { a with flags := (a.flags.without r.carried).join r.again, reading := none } r := by
  unfold AgentPort.finishRead
  rw [h]

/-- The byte that SDO carries in a read transaction (R188, R194). -/
theorem sdo_of_reading {s : State} {p : Port} {r : Reading} (hreset : s.resetLow = false)
    (hr : (s.port p).reading = some r) (k : Nat) : s.sdo p (.clocked 0xA5 k) = .byte (r.bytes.getD k 0) := by
  unfold State.sdo
  simp only [hreset, hr]
  rfl

theorem bytes16_eq (w : BitVec 16) : bytes16 w = [w.extractLsb' 8 8, w.extractLsb' 0 8] := by
  have high : (w >>> 8).setWidth 8 = w.extractLsb' 8 8 := by
    ext i
    simp
  have low : w.setWidth 8 = w.extractLsb' 0 8 := by
    ext i
    simp
  rw [bytes16, high, low]

theorem bytes32_eq (w : BitVec 32) :
    bytes32 w = [w.extractLsb' 24 8, w.extractLsb' 16 8, w.extractLsb' 8 8, w.extractLsb' 0 8] := by
  have shift : ∀ k, (w >>> k).setWidth 8 = w.extractLsb' k 8 := fun k => by
    ext i
    simp
  have low : w.setWidth 8 = w.extractLsb' 0 8 := by
    ext i
    simp
  rw [bytes32, shift, shift, shift, low]

/-- Settles O8: each event of a read, and the bytes of each kind of frame. -/
theorem readTransactions : Obligations.ReadTransactions := by
  unfold Obligations.ReadTransactions
  refine ⟨fun p s hreset hq => ?choose, fun p s r f b hreset hr => ?response, fun p s n l f hreset hr hl => ?notice,
    fun p s n f hreset hr => ?superseded, fun p s f g b hreset hr => ?empty, fun p s r hreset hr => ?cut,
    fun p s r hreset hr => ⟨?lastOut, ?stall⟩, fun p s r body payload k hreset hr hpay hbody => ?bytes⟩
  case choose =>
    refine congrArg _ ((onPort_of_high hreset p _).trans (congrArg _ ?_))
    unfold AgentPort.openRead AgentPort.chooseFrame
    rw [if_pos hq]
    refine congrArg (fun f => { s.port p with reading := some ⟨f, (s.port p).flags, PortFlags.clear, false⟩ }) ?_
    cases (s.port p).slot with
    | some r => rfl
    | none => cases (s.port p).queue <;> rfl
  case response =>
    refine congrArg _ ((onPort_of_high hreset p _).trans (congrArg _ ?_))
    rw [AgentPort.finishRead_eq hr, PortFlags.join_clear]
    rfl
  case notice =>
    refine congrArg _ ((onPort_of_high hreset p _).trans (congrArg _ ?_))
    rw [AgentPort.finishRead_eq hr, PortFlags.join_clear]
    simp only [AgentPort.removeItem, hl, removeTopic_head, Bool.false_eq_true, if_false]
  case superseded =>
    refine congrArg _ ((onPort_of_high hreset p _).trans (congrArg _ ?_))
    rw [AgentPort.finishRead_eq hr, PortFlags.join_clear]
    rfl
  case empty =>
    refine congrArg _ ((onPort_of_high hreset p _).trans (congrArg _ ?_))
    rw [AgentPort.finishRead_eq hr]
    rfl
  case cut =>
    refine congrArg _ ((onPort_of_high hreset p _).trans (congrArg _ ?_))
    unfold AgentPort.cutRead
    rw [hr, Option.isSome_some, if_pos rfl, AgentPort.setFlags_ended, PortFlags.join_ofIncomplete]
  case lastOut =>
    refine congrArg _ ((onPort_of_high hreset p _).trans ?_)
    rw [show (s.port p).stall true = s.port p by simp [AgentPort.stall, hr], State.setPort_self]
  case stall =>
    refine congrArg _ ((onPort_of_high hreset p _).trans (congrArg _ ?_))
    have hgo : ((s.port p).reading.isSome && false) = false := by simp
    unfold AgentPort.stall
    rw [hgo, if_neg (by decide), AgentPort.setFlags_of_idle rfl, PortFlags.join_ofTimeout]
  case bytes =>
    have hp : payload = r.frame.payload := by
      rw [hpay]
      unfold ReadFrame.payload
      cases r.frame with
      | response x => rfl
      | empty => rfl
      | notice n =>
        simp only [Notice.fixedBytes, bytes32_eq, bytes16_eq, Notice.tagBytes, readPayloadMax]
        cases n.cond <;> cases n.tag <;> rfl
    have hb : body = r.body := by
      rw [hbody, hp]
      unfold Reading.body
      cases r.frame <;> rfl
    refine ⟨hp ▸ r.frame.payload_length_le, ?_⟩
    rw [sdo_of_reading hreset hr, hb]
    exact congrArg SdoLine.byte (List.getD_eq_getElem?_getD ..)

/-! ### NARROW_ROLES and frames that name no command -/

theorem mayNarrow_taking (s : State) (p q : Port) (tag : Byte) (cmd : Command) {letter : Nat}
    (h : portOfLetter letter = some q) : (s.taking p tag cmd).mayNarrow p letter =
      if q = p then RoleMask.any (s.port p).roles else (s.port p).roles.facil := by
  unfold State.mayNarrow
  rw [h, mayIssueAny_taking, mayIssue_taking]
  simp only [Option.some.injEq]
  rfl

theorem roles_taking (s : State) (p q : Port) (tag : Byte) (cmd : Command) :
    ((s.taking p tag cmd).port q).roles = (s.port q).roles := taking_sameBut s p tag cmd .roles (by decide) q

/-- Settles O9: the mask kept, and the answers to frames that name no command. -/
theorem narrowingAndUnknownCommands : Obligations.NarrowingAndUnknownCommands := by
  unfold Obligations.NarrowingAndUnknownCommands
  refine ⟨fun p q tag letter mask s hc hq hrole hmask => ?_, fun p tag ident s hc => exec_of_refuse rfl hc rfl,
    fun p tag ident s hc => exec_of_refuse rfl hc rfl⟩
  generalize ht : s.taking p tag (.narrowRoles letter mask) = t
  have hroles : ∀ r, (t.port r).roles = (s.port r).roles := fun r => by rw [← ht, roles_taking]
  have hmay : t.mayNarrow p letter = true := by rw [← ht, mayNarrow_taking s p q tag _ hq, hrole]
  have hrun : runNarrowRoles p letter mask t = accept (t.setPort q ((t.port q).narrow (maskOfBits mask)))
      (.mask ((t.port q).narrow (maskOfBits mask)).roles) := by
    unfold runNarrowRoles
    rw [hmay, if_neg (by decide), hq]
    exact if_neg (by omega)
  refine ⟨t.setPort q ((t.port q).narrow (maskOfBits mask)), ?_, ?_, fun r hr => ?_, ?_⟩
  · rw [State.port_setPort_same]
    refine exec_of_run (cmd := .narrowRoles letter mask) rfl hc ?_
    rw [ht]
    exact hrun
  · rw [State.port_setPort_same]
    show RoleMask.meet (t.port q).roles (maskOfBits mask) = _
    rw [hroles]
    rfl
  · rw [State.port_setPort_other _ _ _ _ hr, hroles]
  · exact setPort_sameBut t q _ _ (.inl (by decide)) (.inr ⟨rfl, rfl, rfl, rfl⟩) (.inr rfl) (.inr rfl) (.inr rfl)

end Sys2Proof.Machine
end

section
/-! SUPPORT. The settling of the statements about handles, free entries and day lists. -/

namespace Sys2Proof.Machine

/-! ### Handles -/

theorem changingRole_of_changesRecord {cmd : Command} {x : Handle × RecKind × Nat} (h : changesRecord? cmd = some x) :
    ∃ r, changingRole cmd = some r ∧ needsRevision cmd = true := by
  cases cmd <;> cases h <;> exact ⟨_, rfl, rfl⟩

theorem changingRole_of_changesOrder {cmd : Command} {x : Handle × Nat} (h : changesOrder? cmd = some x) :
    ∃ r, changingRole cmd = some r ∧ needsRevision cmd = true := by
  cases cmd <;> cases h <;> exact ⟨_, rfl, rfl⟩

/-- A command that changes a record, past the checks of R40 and of its own fields, resolves its handle. -/
theorem runOf_eq_withRecord {c : Instr} {p : Port} {tag : Byte} {cmd : Command} {h : Handle} {k : RecKind} {e : Nat}
    {r : Role} {t : State} (hcmd : commandOf? c = some (p, tag, cmd)) (hrec : changesRecord? cmd = some (h, k, e))
    (hrole : changingRole cmd = some r) (hcheck : t.changeCheck p r = none) (hf : t.fieldsInRange cmd = true) :
    ∃ go, runOf c t = t.withRecord h k e go := by
  cases c <;> cases hcmd <;> cases hrec <;> cases hrole <;>
    simp only [State.fieldsInRange, Bool.not_eq_true', Bool.and_eq_true] at hf <;>
    simp only [runOf, runConfirm, runModify, runMove, runCancel, runUnblock, runCheckIn, runExtend, runCaterOrder, hcheck, hf,
      Bool.or_self, Bool.false_eq_true, if_false] <;>
    exact ⟨_, rfl⟩

theorem runOf_eq_withOrder {c : Instr} {p : Port} {tag : Byte} {cmd : Command} {h : Handle} {e : Nat}
    {r : Role} {t : State} (hcmd : commandOf? c = some (p, tag, cmd)) (hord : changesOrder? cmd = some (h, e))
    (hrole : changingRole cmd = some r) (hcheck : t.changeCheck p r = none) (hf : t.fieldsInRange cmd = true) :
    ∃ go, runOf c t = t.withOrder h e go := by
  cases c <;> cases hcmd <;> cases hord <;> cases hrole <;>
    simp only [State.fieldsInRange, Bool.not_eq_true', Bool.and_eq_true] at hf <;>
    simp only [runOf, runCaterChange, runCaterCancel, runCaterDelivered, hcheck, hf, Bool.or_self, Bool.false_eq_true,
      if_false] <;>
    exact ⟨_, rfl⟩

/-- The newest tombstone that a test picks. -/
theorem find?_reverse_eq {α : Type} (f : α → Bool) (l : List α) : l.reverse.find? f = (l.filter f).getLast? := by
  rw [← List.head?_filter, List.filter_reverse, List.head?_reverse]

theorem findTombstone_record (s : State) (h : Handle) : s.findTombstone false h =
    if (Pool.entry s.book.pool h.index).gen = h.gen then none
      else (s.book.ring.filter (fun t => t.handle = h && !(t.kind == .order))).getLast? := by
  unfold State.findTombstone State.presentGen
  rw [find?_reverse_eq]
  simp only [beq_false, Bool.false_eq_true, if_false]

theorem findTombstone_order (s : State) (h : Handle) : s.findTombstone true h =
    if (Pool.entry s.plan.orders h.index).gen = h.gen then none
      else (s.book.ring.filter (fun t => t.handle = h && (t.kind == .order))).getLast? := by
  unfold State.findTombstone State.presentGen
  rw [find?_reverse_eq]
  simp only [beq_true, if_true]

theorem changeCheck_of_ready {s : State} {p : Port} {tag : Byte} {cmd : Command} {r : Role} (h : s.ready p cmd)
    (hr : changingRole cmd = some r) (hn : needsRevision cmd = true) : (s.taking p tag cmd).changeCheck p r = none := by
  obtain ⟨-, hp, hs, he⟩ := h
  rw [permits_of_changingRole hr] at hp
  rw [changeCheck_taking, hp, hs (needsServing_of_changingRole hr), he hn]
  rfl

/-- A port's own record does not decide which fields are in range. -/
theorem fieldsInRange_taking (s : State) (p : Port) (tag : Byte) (cmd x : Command) :
    (s.taking p tag cmd).fieldsInRange x = s.fieldsInRange x := by
  cases x <;> rfl

/-- Settles O11: what the resolution of a handle answers. -/
theorem handlesAreChecked : Obligations.HandlesAreChecked := by
  unfold Obligations.HandlesAreChecked
  refine ⟨fun c p tag cmd h k e s hcmd hrec hready hf => ?record, fun c p tag cmd h e s hcmd hord hready hf => ?order⟩
  case record =>
    obtain ⟨r, hr, hn⟩ := changingRole_of_changesRecord hrec
    obtain ⟨go, hgo⟩ := runOf_eq_withRecord hcmd hrec hr (changeCheck_of_ready (tag := tag) hready hr hn)
      (by rw [fieldsInRange_taking]; exact hf)
    have hc := hready.1
    refine ⟨fun hnone => ?_, fun x hx hk => ?_, fun x hx hk hrev => ?_⟩
    · refine exec_of_run hcmd hc (hgo.trans ?_)
      unfold State.withRecord
      rw [show Pool.named? (s.taking p tag cmd).book.pool h = none from hnone, findTombstone_record]
      rfl
    · refine exec_of_run hcmd hc (hgo.trans ?_)
      unfold State.withRecord
      rw [show Pool.named? (s.taking p tag cmd).book.pool h = some x from hx]
      exact if_pos hk
    · refine exec_of_run hcmd hc (hgo.trans ?_)
      unfold State.withRecord
      rw [show Pool.named? (s.taking p tag cmd).book.pool h = some x from hx]
      exact (if_neg (not_not.2 hk)).trans (if_pos hrev)
  case order =>
    obtain ⟨r, hr, hn⟩ := changingRole_of_changesOrder hord
    obtain ⟨go, hgo⟩ := runOf_eq_withOrder hcmd hord hr (changeCheck_of_ready (tag := tag) hready hr hn)
      (by rw [fieldsInRange_taking]; exact hf)
    have hc := hready.1
    refine ⟨fun hnone => ?_, fun x hx hrev => ?_⟩
    · refine exec_of_run hcmd hc (hgo.trans ?_)
      unfold State.withOrder
      rw [show Pool.named? (s.taking p tag cmd).plan.orders h = none from hnone, findTombstone_order]
      rfl
    · refine exec_of_run hcmd hc (hgo.trans ?_)
      unfold State.withOrder
      rw [show Pool.named? (s.taking p tag cmd).plan.orders h = some x from hx]
      exact if_pos hrev

/-! ### Free entries and day lists -/

theorem Pool.freeFrom_eq_none {α : Type} {p : Pool α} {n i : Nat} :
    Pool.freeFrom p n i = none ↔ ∀ k, i ≤ k → k < i + n → Pool.item? p k ≠ none := by
  induction n generalizing i with
  | zero =>
    simp only [Pool.freeFrom, true_iff]
    omega
  | succ n ih =>
    unfold Pool.freeFrom
    split
    next h =>
      simp only [reduceCtorEq, false_iff]
      exact fun hall => hall i (Nat.le_refl _) (by omega) (Option.isNone_iff_eq_none.1 h)
    next h =>
      rw [ih]
      refine ⟨fun hall k h1 h2 => ?_, fun hall k h1 h2 => hall k (by omega) (by omega)⟩
      rcases Nat.eq_or_lt_of_le h1 with rfl | hlt
      · exact fun hk => h (Option.isNone_iff_eq_none.2 hk)
      · exact hall k hlt (by omega)

theorem Pool.lowestFree_eq_none {α : Type} {p : Pool α} {cap : Nat} :
    Pool.lowestFree p cap = none ↔ ∀ k, k < cap → Pool.item? p k ≠ none := by
  unfold Pool.lowestFree
  rw [Pool.freeFrom_eq_none]
  simp only [Nat.zero_le, Nat.zero_add, forall_true_left]

theorem Pool.lowestFree_iff {α : Type} (p : Pool α) (cap i : Nat) :
    Pool.lowestFree p cap = some i ↔ isLowestFree p cap i := by
  refine ⟨fun h => ?_, fun ⟨hi, hnone, hlow⟩ => ?_⟩
  · obtain ⟨h1, h2, h3⟩ := Pool.lowestFree_spec h
    exact ⟨h2, h1, h3⟩
  · cases hj : Pool.lowestFree p cap with
    | none => exact absurd hnone (Pool.lowestFree_eq_none.1 hj i hi)
    | some j =>
      obtain ⟨h1, h2, h3⟩ := Pool.lowestFree_spec hj
      rcases Nat.lt_trichotomy i j with hlt | rfl | hlt
      · exact absurd hnone (h3 i hlt)
      · rfl
      · exact absurd h1 (hlow j hlt)

/-- The first conflict stands in the day list behind records that do not conflict (R24). -/
theorem State.firstConflict_eq_some {s : State} {room plane lo hi i : Nat} {own : Option Nat}
    (h : s.firstConflict room plane lo hi own = some i) : ∃ r pre post, s.dayList room plane = pre ++ (i, r) :: post ∧
      own ≠ some i ∧ lo < r.padEnd ∧ r.padStart < hi ∧
      ∀ e, e ∈ pre → own ≠ some e.1 → ¬ (lo < e.2.padEnd ∧ e.2.padStart < hi) := by
  unfold State.firstConflict at h
  obtain ⟨⟨j, r⟩, hfind, rfl⟩ := Option.map_eq_some_iff.1 h
  obtain ⟨htest, pre, post, hlist, hpre⟩ := List.find?_eq_some_iff_append.1 hfind
  simp only [Bool.and_eq_true, Bool.not_eq_true', beq_eq_false_iff_ne, overlap, decide_eq_true_eq] at htest
  refine ⟨r, pre, post, hlist, htest.1, htest.2.1, htest.2.2, fun e he hown hover => ?_⟩
  have := hpre e he
  simp only [Bool.not_and, Bool.not_not, overlap, Bool.or_eq_true, beq_iff_eq, Bool.not_eq_true',
    decide_eq_false_iff_not] at this
  rcases this with h1 | h1 | h1
  · exact hown h1
  · exact h1 hover.1
  · exact h1 hover.2

/-- Settles O12: the lowest free entry, the day list and the first conflict. -/
theorem freeEntriesAndDayLists : Obligations.FreeEntriesAndDayLists := by
  unfold Obligations.FreeEntriesAndDayLists
  exact ⟨Pool.lowestFree_iff, fun q cap => Pool.lowestFree_eq_none, fun s room plane lo hi own =>
    ⟨fun e => State.mem_dayList, s.dayList_padSorted room plane, State.firstConflict_eq_none,
      fun i h => State.firstConflict_eq_some h⟩⟩

end Sys2Proof.Machine
end

section
/-! SUPPORT. The settling of the statements about the reads of tables and records. -/

namespace Sys2Proof.Machine

/-! ### Reads of tables -/

theorem mayIssueAny_of_permits {s : State} {p : Port} {tag : Byte} {cmd : Command}
    (h : permits p (s.port p).roles cmd = true) (hp : permits p (s.port p).roles cmd = RoleMask.any (s.port p).roles) :
    (s.taking p tag cmd).mayIssueAny p = true := by
  rw [mayIssueAny_taking, ← hp, h]

theorem mayIssueAny_of_ready {s : State} {p : Port} {cmd : Command} (tag : Byte) (h : s.ready p cmd)
    (hp : ∀ m, permits p m cmd = RoleMask.any m) : (s.taking p tag cmd).mayIssueAny p = true :=
  mayIssueAny_of_permits h.2.1 (hp _)

/-- The rooms of a READ_USAGE page (R175). -/
theorem usageRooms_eq (first : Nat) : usageRooms first = (List.range (min 4 (160 - first))).map (fun j => first + j) :=
  filter_le_consecutive 4 first 159

theorem runReadUsage_rooms {p : Port} {first : Nat} {s : State} (hm : s.mayIssueAny p = true) (h : first ≤ 159) :
    runReadUsage p (.rooms first) s = accept s (.usageRooms
      ((List.range (min 4 (160 - first))).map (fun j => s.usageReading (first + j))) s.monitor.bank.seq
      s.monitor.bank.kind s.monitor.bank.day s.monitor.bank.minute s.monitor.autoSnapshot) := by
  unfold runReadUsage
  rw [hm, if_neg (by decide)]
  dsimp only
  rw [if_neg (by omega), usageRooms_eq, List.map_map]
  rfl

theorem runReadUsage_kitchen {p : Port} {k : Nat} {s : State} (hm : s.mayIssueAny p = true) (h : k ≤ 3) :
    runReadUsage p (.kitchen k) s = accept s (.usageKitchen (Table.read KitchenUsage.zero s.monitor.bank.kitchens k)
      s.monitor.bank.seq s.monitor.bank.kind s.monitor.bank.day s.monitor.bank.minute s.monitor.autoSnapshot) := by
  unfold runReadUsage
  rw [hm, if_neg (by decide)]
  exact if_neg (by omega)

theorem runReadKitchenSetup_kitchen {p : Port} {k : Nat} {s : State} (hm : s.mayIssueAny p = true) (h : k ≤ 3) :
    runReadKitchenSetup p (.kitchen k) s =
      accept s (.kitchenSetup (s.kitchen k) ((List.range 12).map (fun b => s.transit b k))) := by
  unfold runReadKitchenSetup
  rw [hm, if_neg (by decide)]
  exact if_neg (by omega)

theorem runReadKitchenSetup_classes {p : Port} {s : State} (hm : s.mayIssueAny p = true) :
    runReadKitchenSetup p .classes s = accept s (.classes ((List.range 16).map s.menuClass)) := by
  unfold runReadKitchenSetup
  rw [hm, if_neg (by decide)]

theorem runKitchenLoad_of_ok {p : Port} {k first count : Nat} {s : State} (hm : s.mayIssueAny p = true) (hk : k ≤ 3)
    (h1 : 1 ≤ count) (h16 : count ≤ 16) (hend : first + count ≤ 768) : runKitchenLoad p k first count s =
      accept s (.load ((List.range count).map (fun j => s.windowReading k (first + j))) (s.kitchen k) s.currentWindow
        (s.overWindows k).length) := by
  unfold runKitchenLoad
  rw [hm, if_neg (by decide), if_neg (by omega)]

/-- Settles O13: the reads of the tables, and STATUS as taken. -/
theorem readsOfTables : Obligations.ReadsOfTables := by
  unfold Obligations.ReadsOfTables
  refine ⟨fun p tag room s hc hr => exec_of_run rfl hc (runReadRoom_of_ok _ hr), fun p tag s hc => ?status,
    fun p f s u v hs hu hv hhand => ⟨fun hrec hbase hwf hcmd => ?taken, ?answer⟩, fun p tag first s hready h => ?rooms,
    fun p tag k s hready hk => ?kitchen, fun p tag s hready => ?classes, fun p tag k s hready hk => ?setup,
    fun p tag k first count s hready hk h1 h16 hend => ?load⟩
  case status => exact exec_of_run rfl hc (runStatus_taking s p tag)
  case taken =>
    refine ⟨_, congrArg Host.Outcome.next (onPort_of_high hs p _), ?_⟩
    rw [State.port_setPort_same, AgentPort.completeFrame_of_wellFormed hrec hwf, AgentPort.takeFrame_of_idle hbase, hhand,
      hv, hcmd]
    rfl
  case answer =>
    refine congrArg Host.Outcome.next ((atPort_of_inHand u p f.tag .status _ _ hu hhand rfl rfl).trans ?_)
    rw [runStatus_of_inHand u p v _ hhand rfl]
  case rooms =>
    exact exec_of_run rfl hready.1 (runReadUsage_rooms (mayIssueAny_of_ready tag hready (fun _ => rfl)) h)
  case kitchen =>
    exact exec_of_run rfl hready.1 (runReadUsage_kitchen (mayIssueAny_of_ready tag hready (fun _ => rfl)) hk)
  case classes =>
    exact exec_of_run rfl hready.1 (runReadKitchenSetup_classes (mayIssueAny_of_ready tag hready (fun _ => rfl)))
  case setup =>
    exact exec_of_run rfl hready.1 (runReadKitchenSetup_kitchen (mayIssueAny_of_ready tag hready (fun _ => rfl)) hk)
  case load =>
    exact exec_of_run rfl hready.1
      (runKitchenLoad_of_ok (mayIssueAny_of_ready tag hready (fun _ => rfl)) hk h1 h16 hend)

/-! ### Reads of records -/

/-- Keeping what a function keeps of every element keeps their places. -/
theorem getElem?_filterMap_of_isSome {α β : Type} {f : α → Option β} {l : List α} (h : ∀ a, a ∈ l → (f a).isSome = true)
    (j : Nat) : (l.filterMap f)[j]? = l[j]?.bind f := by
  induction l generalizing j with
  | nil => rfl
  | cons a l ih =>
    obtain ⟨b, hb⟩ := Option.isSome_iff_exists.1 (h a (List.mem_cons_self ..))
    rw [List.filterMap_cons_some hb]
    cases j with
    | zero => simp [hb]
    | succ j => simpa using ih (fun x hx => h x (List.mem_cons_of_mem _ hx)) j

theorem length_filterMap_of_isSome {α β : Type} {f : α → Option β} {l : List α} (h : ∀ a, a ∈ l → (f a).isSome = true) :
    (l.filterMap f).length = l.length := by
  induction l with
  | nil => rfl
  | cons a l ih =>
    obtain ⟨b, hb⟩ := Option.isSome_iff_exists.1 (h a (List.mem_cons_self ..))
    rw [List.filterMap_cons_some hb, List.length_cons, List.length_cons, ih (fun x hx => h x (List.mem_cons_of_mem _ hx))]

theorem Pool.named?_handle {α : Type} (p : Pool α) (i : Nat) : Pool.named? p (Pool.handle p i) = Pool.item? p i :=
  if_pos rfl

/-- What stands at a place of the waitlist listing (R68). -/
theorem waitListing_spec {s : State} (h : ∀ w, w ∈ s.wait.order → (s.waitEntry? w).isSome = true) :
    s.waitListing.length = s.wait.order.length ∧ ∀ (i : Nat) (x : WaitReading), s.waitListing[i]? = some x →
      x.position = i ∧ s.wait.order[i]? = some x.handle.index ∧
      ∃ e, Pool.named? s.wait.pool x.handle = some e ∧ x = e.reading i x.handle := by
  have hall : ∀ q, q ∈ (List.range s.wait.order.length).zip s.wait.order →
      ((s.waitEntry? q.2).map (WaitEntry.reading q.1 (Pool.handle s.wait.pool q.2))).isSome = true := by
    intro q hq
    rw [Option.isSome_map]
    exact h q.2 (List.of_mem_zip hq).2
  unfold State.waitListing
  refine ⟨by rw [length_filterMap_of_isSome hall]; simp, fun i x hx => ?_⟩
  rw [getElem?_filterMap_of_isSome hall] at hx
  obtain ⟨⟨a, w⟩, hz, hx⟩ := Option.bind_eq_some_iff.1 hx
  obtain ⟨ha, hw⟩ := List.getElem?_zip_eq_some.1 hz
  obtain ⟨e, he, rfl⟩ := Option.map_eq_some_iff.1 hx
  obtain ⟨_, rfl⟩ := List.getElem?_eq_some_iff.1 ha
  rw [List.getElem_range]
  exact ⟨rfl, hw, e, (Pool.named?_handle _ _).trans he, rfl⟩

/-- Taking a command leaves what a handle names as it is (R191). -/
theorem State.taking_named? (s : State) (p : Port) (tag : Byte) (cmd : Command) (h : Handle) :
    Pool.named? (s.taking p tag cmd).book.pool h = Pool.named? s.book.pool h := rfl

theorem State.taking_namedOrder? (s : State) (p : Port) (tag : Byte) (cmd : Command) (h : Handle) :
    Pool.named? (s.taking p tag cmd).plan.orders h = Pool.named? s.plan.orders h := rfl

theorem runQueryBooking_of_any {p : Port} {h : Handle} {s : State} (hm : s.mayIssueAny p = true) (hi : h.index ≤ 2047) :
    runQueryBooking p h s = (s, match Pool.named? s.book.pool h with
      | some r => Reply.okWith (.record (r.reading h))
      | none => Reply.refusalWith .noSuch (.noSuch (s.findTombstone false h))) := by
  have hout : bookIndexOut h = false := decide_eq_false (by omega)
  unfold runQueryBooking
  rw [hm, hout]
  cases Pool.named? s.book.pool h <;> rfl

theorem runQueryRoomDay_of_any {p : Port} {room plane start : Nat} {s : State} (hm : s.mayIssueAny p = true)
    (hr : room ≤ 159) (hp : plane ≤ 7) (hs : start ≤ (s.dayList room plane).length) :
    runQueryRoomDay p room plane start s = accept s (.dayPage ((((s.dayList room plane).drop start).take 6).map s.summary)
      (s.dayList room plane).length s.book.rev) := by
  unfold runQueryRoomDay
  rw [hm, if_neg (by decide), if_neg (by simp [roomOut]; omega)]

theorem runQueryWaitlist_of_any {p : Port} {start : Nat} {s : State} (hm : s.mayIssueAny p = true) (hs : start ≤ 63) :
    runQueryWaitlist p start s =
      accept s (.waitPage ((s.waitListing.drop start).take 4) (Pool.occupancy s.wait.pool)) := by
  unfold runQueryWaitlist
  rw [hm, if_neg (by decide), if_neg (by omega)]

theorem runQueryOrder_order {p : Port} {h : Handle} {s : State} (hm : s.mayIssueAny p = true) (hi : h.index ≤ 511) :
    runQueryOrder p (.order h) s = (s, match Pool.named? s.plan.orders h with
      | some o => Reply.okWith (.order (some (o.reading h)) s.currentWindow)
      | none => Reply.refusalWith .noSuch (.noSuch (s.findTombstone true h))) := by
  have hout : orderIndexOut h = false := decide_eq_false (by omega)
  unfold runQueryOrder
  rw [hm, if_neg (by decide)]
  dsimp only
  rw [hout]
  cases Pool.named? s.plan.orders h <;> rfl

theorem runQueryOrder_booking {p : Port} {h : Handle} {r : Rec} {s : State} (hm : s.mayIssueAny p = true)
    (hi : h.index ≤ 2047) (hr : Pool.named? s.book.pool h = some r) (hk : r.kind = .booking) :
    runQueryOrder p (.booking h) s = accept s (.order
      (r.order.bind (fun o => (Pool.named? s.plan.orders o).map (Order.reading o))) s.currentWindow) := by
  have hout : bookIndexOut h = false := decide_eq_false (by omega)
  unfold runQueryOrder
  rw [hm, if_neg (by decide)]
  simp only [hout, hr, hk, Bool.false_eq_true, if_false, reduceCtorEq]

/-- An order as QUERY_ORDER returns it, its deadline spelled out (R167). -/
theorem Order.reading_eq (h : Handle) (o : Order) : o.reading h =
    { handle := h, placing := o.placing, booking := o.booking, kitchen := o.kitchen, cls := o.cls, covers := o.covers,
      offset := o.offset, load := o.load, lead := o.lead, last := o.last, cutoff := o.cutoff, dispatch := o.dispatch,
      delivery := o.delivery, state := o.state
      deadline := match o.deadline with
        | none => none
        | some d => some (d.kind, d.minute)
      rev := o.rev, clamped := o.clamped, lateSent := o.lateSent
      servicePlane := (o.delivery - o.offset) / 1440 } := by
  unfold Order.reading
  cases o.deadline <;> rfl

/-- Settles O14: the reads of the book, the waitlist and the orders. -/
theorem readsOfRecords : Obligations.ReadsOfRecords := by
  unfold Obligations.ReadsOfRecords
  refine ⟨fun p tag h s hready hi => ?booking, fun p tag room plane start s hready hr hp hs => ?day,
    fun p tag start s hready hs hlive => ?wait, fun p tag h s hready hi => ?order,
    fun p tag h r s hready hi hr hk => ?orderOf⟩
  case booking =>
    have hany := mayIssueAny_of_ready tag hready (fun _ => rfl)
    refine exec_of_run rfl hready.1 ((runQueryBooking_of_any hany hi).trans (congrArg (Prod.mk _) ?_))
    rw [findTombstone_record, State.taking_named?]
    cases Pool.named? s.book.pool h <;> rfl
  case day =>
    exact exec_of_run rfl hready.1 (runQueryRoomDay_of_any (mayIssueAny_of_ready tag hready (fun _ => rfl)) hr hp hs)
  case wait =>
    obtain ⟨hlen, hat⟩ := waitListing_spec hlive
    refine ⟨(s.waitListing.drop start).take 4,
      exec_of_run rfl hready.1 (runQueryWaitlist_of_any (mayIssueAny_of_ready tag hready (fun _ => rfl)) hs), ?_,
      fun j x hx => ?_⟩
    · rw [List.length_take, List.length_drop, hlen]
    · have hx' : s.waitListing[start + j]? = some x := by
        rw [List.getElem?_take] at hx
        split at hx
        · rwa [List.getElem?_drop] at hx
        · cases hx
      exact hat (start + j) x hx'
  case order =>
    have hany := mayIssueAny_of_ready tag hready (fun _ => rfl)
    refine exec_of_run rfl hready.1 ((runQueryOrder_order hany hi).trans (congrArg (Prod.mk _) ?_))
    rw [findTombstone_order, State.taking_namedOrder?]
    cases Pool.named? s.plan.orders h with
    | none => rfl
    | some o =>
      simp only [Order.reading_eq]
      rfl
  case orderOf =>
    have hany := mayIssueAny_of_ready tag hready (fun _ => rfl)
    refine exec_of_run rfl hready.1 ((runQueryOrder_booking hany hi hr hk).trans (congrArg (Prod.mk _) ?_))
    have hreading : Order.reading = fun h o => _ := funext fun h => funext fun o => Order.reading_eq h o
    rw [hreading]
    rfl

end Sys2Proof.Machine
end

section
/-! SUPPORT. What follows a change: a room's display and vacancy timer as the book and the tables give them, and the
states between which these stand (R92, R121 to R124). -/

namespace Sys2Proof.Machine

/-! ### What a display and a vacancy subject are computed from -/

/-- Two states agree on what the display of a room is computed from: the records, the orders, the clock, the mode and
whether the room is open. -/
structure State.SeenAlike (room : Nat) (s u : State) : Prop where
  pool : u.book.pool = s.book.pool
  orders : u.plan.orders = s.plan.orders
  clock : u.clock = s.clock
  mode : u.site.mode = s.site.mode
  isOpen : (u.room room).isOpen = (s.room room).isOpen

/-- The parts a display is computed from. -/
def seenParts : List Part := [.records, .orders, .clock, .mode, .rooms]

theorem Part.agree_of_sameBut {l : List Part} {s t : State} {q : Part} (h : sameBut l s t) (hq : q ∉ l) : q.agree s t :=
  h q hq

theorem State.seenAlike_of_sameBut {l : List Part} {s t : State} (h : sameBut l s t) (room : Nat)
    (hl : ∀ x ∈ seenParts, x ∉ l) : State.SeenAlike room s t where
  pool := h .records (hl _ (by decide))
  orders := h .orders (hl _ (by decide))
  clock := h .clock (hl _ (by decide))
  mode := h .mode (hl _ (by decide))
  isOpen := (congrArg Room.isOpen (h .rooms (hl _ (by decide)) room) :)

theorem State.now_congr {s u : State} (h : u.clock = s.clock) : u.now = s.now := by
  unfold State.now State.nowMinute; rw [h]

theorem State.currentSlot_congr {s u : State} (h : u.clock = s.clock) : u.currentSlot = s.currentSlot := by
  unfold State.currentSlot State.nowMinute; rw [h]

theorem State.liveRecs_congr {s u : State} (h : u.book.pool = s.book.pool) : u.liveRecs = s.liveRecs :=
  congrArg Pool.live h

theorem State.windowOpen_congr {s u : State} (h : u.clock = s.clock) (r : Rec) : u.windowOpen r = s.windowOpen r := by
  unfold State.windowOpen; rw [State.now_congr h]

theorem State.coveringArrived_congr {s u : State} (hp : u.book.pool = s.book.pool) (hc : u.clock = s.clock) (room : Nat) :
    u.coveringArrived room = s.coveringArrived room := by
  unfold State.coveringArrived
  rw [State.liveRecs_congr hp, State.currentSlot_congr hc]

theorem State.SeenAlike.recsOf {room : Nat} {s u : State} (h : State.SeenAlike room s u) :
    u.recsOf room = s.recsOf room := by
  unfold State.recsOf; rw [State.liveRecs_congr h.pool]

theorem State.SeenAlike.displayState {room : Nat} {s u : State} (h : State.SeenAlike room s u) :
    u.displayState room = s.displayState room := by
  unfold State.displayState
  rw [State.serving_congr h.mode, h.isOpen, h.recsOf, State.currentSlot_congr h.clock,
    State.coveringArrived_congr h.pool h.clock, State.now_congr h.clock]
  simp only [State.windowOpen_congr h.clock]

theorem State.SeenAlike.badge {room : Nat} {s u : State} (h : State.SeenAlike room s u) (c n : Option Rec) :
    u.badge c n = s.badge c n := by
  unfold State.badge State.badgeOf; rw [h.orders]

theorem State.SeenAlike.contentOf {room : Nat} {s u : State} (h : State.SeenAlike room s u) :
    u.contentOf room = s.contentOf room := by
  unfold State.contentOf State.currentRec State.nextRec
  rw [h.displayState, h.recsOf, State.currentSlot_congr h.clock, State.now_congr h.clock, h.badge]

theorem State.SeenAlike.displayDeadlineOf {room : Nat} {s u : State} (h : State.SeenAlike room s u) :
    u.displayDeadlineOf room = s.displayDeadlineOf room := by
  unfold State.displayDeadlineOf
  rw [State.serving_congr h.mode, h.recsOf, State.now_congr h.clock]

theorem State.vacancySubject_congr {room : Nat} {s u : State} (hp : u.book.pool = s.book.pool)
    (hc : u.clock = s.clock) (hv : (u.vacancy room).subject = (s.vacancy room).subject) :
    u.vacancySubject room = s.vacancySubject room := by
  unfold State.vacancySubject State.recHandle
  rw [State.coveringArrived_congr hp hc, hp, hv, State.currentSlot_congr hc]

/-! ### After a recomputation -/

theorem display_recompute (t : State) (room : Nat) :
    (t.recompute room).display room = ⟨t.contentOf room, t.displayDeadlineOf room⟩ := by
  have hset : (t.setDisplay room ⟨t.contentOf room, t.displayDeadlineOf room⟩).display room =
      ⟨t.contentOf room, t.displayDeadlineOf room⟩ := by
    rw [display_setDisplay, if_pos rfl]
  unfold State.recompute
  dsimp only
  split
  · exact hset
  · exact hset

theorem displayRev_recompute (t : State) (room : Nat) :
    ((t.recompute room).room room).displayRev = if t.contentOf room = (t.display room).content then
      (t.room room).displayRev else (t.room room).displayRev + 1 := by
  unfold State.recompute
  dsimp only
  split
  · rfl
  · rw [room_setRoom, if_pos rfl]

theorem seenAlike_recompute (t : State) (room q : Nat) : State.SeenAlike q t (t.recompute room) :=
  State.seenAlike_of_sameBut (recompute_sameBut t room) q (by decide)

/-- What a room showed and timed before: its content, display revision and vacancy timer. -/
def State.shownAlike (room : Nat) (s t : State) : Prop :=
  t.display room = s.display room ∧ (t.room room).displayRev = (s.room room).displayRev

theorem State.shownAlike_of_sameBut {l : List Part} {s t : State} (h : sameBut l s t) (room : Nat)
    (hl : ∀ x ∈ [Part.displays, .displayRevs], x ∉ l) : State.shownAlike room s t := by
  have a := h .displays (hl _ (by decide))
  exact ⟨by unfold State.display; rw [show t.link.displays = s.link.displays from a], h .displayRevs (hl _ (by decide)) room⟩

theorem State.shownAlike_of_otherRooms {q room : Nat} {s t : State} (h : sameOtherRooms q s t) (hr : room ≠ q) :
    State.shownAlike room s t := ⟨(h room hr).1, (h room hr).2.1⟩

theorem State.shownAlike.trans {room : Nat} {s t u : State} (h : State.shownAlike room s t)
    (k : State.shownAlike room t u) : State.shownAlike room s u := ⟨k.1.trans h.1, k.2.trans h.2⟩

theorem displayFollows_recompute {s t : State} {room : Nat} (h : State.shownAlike room s t) :
    displayFollows s (t.recompute room) room := by
  have hseen := seenAlike_recompute t room room
  refine ⟨?_, ?_⟩
  · rw [display_recompute, hseen.contentOf, hseen.displayDeadlineOf]
  · rw [displayRev_recompute, hseen.contentOf, h.1, h.2]

/-- A display that follows still does where nothing it is computed from changes after it. -/
theorem displayFollows.after {s t u : State} {room : Nat} (h : displayFollows s t room)
    (hseen : State.SeenAlike room t u) (hshown : State.shownAlike room t u) : displayFollows s u room := by
  refine ⟨?_, ?_⟩
  · rw [hseen.contentOf, hseen.displayDeadlineOf, hshown.1]; exact h.1
  · rw [hseen.contentOf, hshown.2]; exact h.2

theorem displayFollows.from {s s' u : State} {room : Nat} (h : displayFollows s u room)
    (hshown : State.shownAlike room s' s) : displayFollows s' u room := by
  refine ⟨h.1, ?_⟩
  rw [← hshown.1, ← hshown.2]; exact h.2

/-- The parts that a display and a vacancy timer are computed from and kept in. -/
def followParts : List Part := [.records, .orders, .clock, .mode, .rooms, .displays, .displayRevs, .vacancy]

theorem displayFollows.sameBut {l : List Part} {s t u : State} {room : Nat} (h : displayFollows s t room)
    (k : sameBut l t u) (hl : ∀ x ∈ followParts, x ∉ l) : displayFollows s u room :=
  h.after (State.seenAlike_of_sameBut k room (fun x hx => hl x (by revert x; decide)))
    (State.shownAlike_of_sameBut k room (fun x hx => hl x (by revert x; decide)))

/-! ### Every room's display -/

theorem displayFollows_foldl_recompute {s : State} (l : List Nat) :
    ∀ t : State, l.Nodup → (∀ q, q ∈ l → State.shownAlike q s t) →
      ∀ q, q ∈ l → displayFollows s (l.foldl State.recompute t) q := by
  induction l with
  | nil => intro t _ _ q hq; exact absurd hq (by simp)
  | cons r l ih =>
    intro t hnd hs q hq
    obtain ⟨hr, hnd⟩ := List.nodup_cons.mp hnd
    rcases List.mem_cons.mp hq with rfl | hq
    · have key : ∀ (l : List Nat) (t : State), q ∉ l → displayFollows s t q →
          displayFollows s (l.foldl State.recompute t) q := by
        intro l
        induction l with
        | nil => intro t _ h; exact h
        | cons r l ih =>
          intro t hql h
          obtain ⟨hqr, hql⟩ := List.ne_and_not_mem_of_not_mem_cons hql
          exact ih _ hql (h.after (seenAlike_recompute t r q)
            (State.shownAlike_of_otherRooms (recompute_sameOtherRooms t r) hqr))
      exact key l _ hr (displayFollows_recompute (hs q List.mem_cons_self))
    · refine ih _ hnd (fun q hq => ?_) q hq
      exact (hs q (List.mem_cons_of_mem _ hq)).trans
        (State.shownAlike_of_otherRooms (recompute_sameOtherRooms t r) (fun e => hr (e ▸ hq)))

/-- R123: after every display is computed afresh, each follows. -/
theorem allDisplaysFollow_recomputeAll {s t : State} (h : ∀ q, State.shownAlike q s t) :
    allDisplaysFollow s t.recomputeAll := fun q hq =>
  displayFollows_foldl_recompute roomNumbers t List.nodup_range (fun q _ => h q) q (List.mem_range.mpr hq)

/-! ### The vacancy timer -/

/-- The subject that a room with no covering ARRIVED booking keeps (R92, log entry 10). -/
def State.subjectKept (s : State) (room : Nat) (old : Option Handle) : Option Handle :=
  match old with
  | none => none
  | some h => match Pool.named? s.book.pool h with
    | none => none
    | some r =>
      if r.room = room && r.plane = 0 && r.state = .arrived && r.stop = s.currentSlot then some h else none

theorem State.vacancySubject_eq (s : State) (room : Nat) :
    s.vacancySubject room = match s.coveringArrived room with
      | some e => some (s.recHandle e.1)
      | none => s.subjectKept room (s.vacancy room).subject := rfl

theorem State.subjectKept_idem (s : State) (room : Nat) (old : Option Handle) :
    s.subjectKept room (s.subjectKept room old) = s.subjectKept room old := by
  have hcases : s.subjectKept room old = none ∨ s.subjectKept room old = old := by
    unfold State.subjectKept
    split
    · exact .inl rfl
    · split
      · exact .inl rfl
      · split
        · exact .inr rfl
        · exact .inl rfl
  rcases hcases with h | h
  · rw [h]; rfl
  · rw [h, h]

theorem State.vacancySubject_setVacancy (t : State) (room : Nat) :
    (t.setVacancy room ⟨t.vacancySubject room, 0⟩).vacancySubject room = t.vacancySubject room := by
  have hcover : (t.setVacancy room ⟨t.vacancySubject room, 0⟩).coveringArrived room = t.coveringArrived room :=
    State.coveringArrived_congr rfl rfl room
  rw [State.vacancySubject_eq, vacancy_setVacancy, if_pos rfl, hcover]
  cases hcov : t.coveringArrived room with
  | some e => rw [State.vacancySubject_eq, hcov]; rfl
  | none =>
    have hsub : t.vacancySubject room = t.subjectKept room (t.vacancy room).subject := by
      rw [State.vacancySubject_eq, hcov]
    rw [hsub]
    exact t.subjectKept_idem room _

theorem timerFollows_updateSubject {s t : State} {room : Nat} (hv : t.vacancy room = s.vacancy room) :
    timerFollows s (t.updateSubject room) room := by
  unfold State.updateSubject
  split
  · rename_i h
    exact ⟨h.symm, by rw [hv, if_pos rfl]⟩
  · rename_i h
    have hset : (t.setVacancy room ⟨t.vacancySubject room, 0⟩).vacancy room = ⟨t.vacancySubject room, 0⟩ := by
      rw [vacancy_setVacancy, if_pos rfl]
    refine ⟨?_, ?_⟩
    · rw [hset, State.vacancySubject_setVacancy]
    · rw [hset]
      dsimp only
      rw [if_neg (by rw [← hv]; exact h)]

theorem timerFollows.after {s t u : State} {room : Nat} (h : timerFollows s t room)
    (hp : u.book.pool = t.book.pool) (hc : u.clock = t.clock) (hv : u.vacancy room = t.vacancy room) :
    timerFollows s u room := by
  refine ⟨?_, ?_⟩
  · rw [State.vacancySubject_congr hp hc (congrArg _ hv), hv]; exact h.1
  · rw [hv]; exact h.2

theorem vacancy_of_sameBut {l : List Part} {s t : State} (h : sameBut l s t) (hl : Part.vacancy ∉ l) (r : Nat) :
    t.vacancy r = s.vacancy r := by
  have a : t.book.vacancy = s.book.vacancy := h .vacancy hl
  unfold State.vacancy; rw [a]

theorem timerFollows.sameBut {l : List Part} {s t u : State} {room : Nat} (h : timerFollows s t room)
    (k : sameBut l t u) (hl : ∀ x ∈ [Part.records, .clock, .vacancy], x ∉ l) : timerFollows s u room :=
  h.after (k .records (hl _ (by decide))) (k .clock (hl _ (by decide))) (vacancy_of_sameBut k (hl _ (by decide)) room)

/-! ### A room after a change of its records -/

theorem roomFollows_roomChanged {l : List Part} {s t : State} (room : Nat) (h : sameBut l s t)
    (hl : ∀ x ∈ displayParts, x ∉ l) : roomFollows s (t.roomChanged room) room := by
  have hsub := updateSubject_sameBut t room
  have hshown : State.shownAlike room s (t.updateSubject room) :=
    (State.shownAlike_of_sameBut h room (fun x hx => hl x (by revert x; decide))).trans
      (State.shownAlike_of_sameBut hsub room (by decide))
  refine ⟨displayFollows_recompute hshown, ?_, ?_⟩
  · exact (timerFollows_updateSubject (vacancy_of_sameBut h (hl _ (by decide)) room)).sameBut
      (recompute_sameBut _ room) (by decide)
  · exact sameOtherRooms_trans (sameOtherRooms_of_sameBut room h (hl _ (by decide)) (hl _ (by decide))
      (hl _ (by decide))) (roomChanged_sameOtherRooms t room)

theorem roomFollows.sameBut {l : List Part} {s t u : State} {room : Nat} (h : roomFollows s t room)
    (k : sameBut l t u) (hl : ∀ x ∈ followParts, x ∉ l) : roomFollows s u room := by
  obtain ⟨hd, ht, ho⟩ := h
  exact ⟨hd.sameBut k hl, ht.sameBut k (fun x hx => hl x (by revert x; decide)),
    sameOtherRooms_trans ho (sameOtherRooms_of_sameBut room k (hl _ (by decide)) (hl _ (by decide))
      (hl _ (by decide)))⟩

end Sys2Proof.Machine
end

section
/-! SUPPORT. The settling of the statements about the site's tables and the device modes. -/

namespace Sys2Proof.Machine

/-! ### Issuing a command -/

theorem mayIssue_of_permits {s : State} {p : Port} {cmd : Command} {r : Role} (tag : Byte)
    (h : permits p (s.port p).roles cmd = true) (hp : ∀ m, permits p m cmd = roleIn m r) :
    (s.taking p tag cmd).mayIssue p r = true := by
  rw [mayIssue_taking, ← hp, h]

theorem mayIssue_of_ready {s : State} {p : Port} {cmd : Command} {r : Role} (tag : Byte) (h : s.ready p cmd)
    (hp : ∀ m, permits p m cmd = roleIn m r) : (s.taking p tag cmd).mayIssue p r = true :=
  mayIssue_of_permits tag h.2.1 hp

theorem roomOut_eq_true {room : Nat} (h : 159 < room) : roomOut room = true := decide_eq_true h

theorem roomOut_eq_false {room : Nat} (h : room ≤ 159) : roomOut room = false := decide_eq_false (by omega)

/-! ### CONFIG_SITE -/

/-- The first listed value of a table in rising order that satisfies a test is that of the lowest number. -/
theorem Table.find?_rising {α : Type} {t : Table α} {lo : Option Nat} (h : Table.rising lo t = true) {f : Nat × α → Bool}
    {e : Nat × α} (hf : t.find? f = some e) : e ∈ t ∧ f e = true ∧ ∀ x, x ∈ t → x.1 < e.1 → f x = false := by
  refine ⟨List.mem_of_find?_eq_some hf, List.find?_some hf, ?_⟩
  induction t generalizing lo with
  | nil => intro x hx; cases hx
  | cons y t ih =>
    obtain ⟨j, v⟩ := y
    simp only [Table.rising, Bool.and_eq_true] at h
    intro x hx hlt
    rw [List.find?_cons] at hf
    cases hfy : f (j, v) with
    | true =>
      rw [hfy] at hf
      cases hf
      rcases List.mem_cons.mp hx with rfl | hx
      · exact absurd hlt (Nat.lt_irrefl _)
      · exact absurd (Table.rising_lower h.2 x hx) (by omega)
    | false =>
      rw [hfy] at hf
      rcases List.mem_cons.mp hx with rfl | hx
      · exact hfy
      · exact ih h.2 hf x hx hlt

theorem Table.read_of_mem {α : Type} {d : α} {t : Table α} {lo : Option Nat} (h : Table.rising lo t = true)
    {e : Nat × α} (he : e ∈ t) : Table.read d t e.1 = e.2 := by
  unfold Table.read
  rw [Table.look?_of_mem h he]; rfl

/-- A number whose value is not the default is listed with it. -/
theorem Table.mem_of_read {α : Type} {d : α} {t : Table α} {i : Nat} (h : Table.read d t i ≠ d) :
    (i, Table.read d t i) ∈ t := by
  unfold Table.read at h ⊢
  cases hl : Table.look? t i with
  | none => rw [hl] at h; exact absurd rfl h
  | some v => exact Table.mem_of_look? hl

/-- The room that CONFIG_SITE's refusal names is the lowest that its count leaves out (R2). -/
theorem State.roomBeyond_spec {s : State} (hw : Table.wf Room.cold s.site.rooms = true) {n : Nat} {e : Nat × Room}
    (he : e ∈ s.site.rooms) (hc : e.2.configured = true) (hn : n ≤ e.2.building) :
    ∃ room, s.roomBeyond n = some room ∧ (s.room room).configured = true ∧ n ≤ (s.room room).building ∧
      ∀ q, q < room → (s.room q).configured = true → (s.room q).building < n := by
  have hr := ((Table.wf_iff _ _).mp hw).1
  unfold State.roomBeyond
  cases hf : s.site.rooms.find? (fun e => e.2.configured && decide (n ≤ e.2.building)) with
  | none =>
    have := List.find?_eq_none.mp hf e he
    simp [hc, hn] at this
  | some x =>
    obtain ⟨hx, hfx, hlow⟩ := Table.find?_rising hr hf
    rw [Bool.and_eq_true, decide_eq_true_eq] at hfx
    refine ⟨x.1, rfl, ?_⟩
    have hroom : s.room x.1 = x.2 := Table.read_of_mem hr hx
    rw [hroom]
    refine ⟨hfx.1, hfx.2, fun q hq hqc => ?_⟩
    have hne : s.room q ≠ Room.cold := fun h => by rw [h] at hqc; cases hqc
    have := hlow _ (Table.mem_of_read hne) hq
    change ((s.room q).configured && decide (n ≤ (s.room q).building)) = false at this
    rw [hqc] at this
    simpa using this

theorem State.roomBeyond_eq_none {s : State} {n : Nat}
    (h : ∀ e, e ∈ s.site.rooms → e.2.configured = true → e.2.building < n) : s.roomBeyond n = none := by
  unfold State.roomBeyond
  rw [Option.map_eq_none_iff, List.find?_eq_none]
  intro e he hb
  rw [Bool.and_eq_true, decide_eq_true_eq] at hb
  exact absurd (h e he hb.1) (by omega)

theorem runConfigSite_of_role {p : Port} {n : Nat} {s : State} (hm : s.mayIssue p .facil = true) :
    runConfigSite p n s =
      if n < 1 ∨ 12 < n then refuse s .range
      else if s.serving then refuse s .state
      else match s.roomBeyond n with
        | some room => refuse s .range (.number room)
        | none => accept { s with site := { s.site with buildings := n } } := by
  unfold runConfigSite
  exact if_neg (by rw [hm]; decide)

theorem setBuildings_sameBut (s : State) (n : Nat) :
    sameBut [.buildings] s { s with site := { s.site with buildings := n } } := by
  intro x hx
  cases x <;> first
    | exact absurd (by decide) hx
    | rfl
    | exact ⟨rfl, rfl⟩
    | (intro _; first | rfl | exact ⟨rfl, rfl, rfl, rfl⟩)

/-! ### OPEN_ROOM and CLOSE_ROOM -/

theorem setRoom_isOpen_sameBut (s : State) (room : Nat) (b : Bool) :
    sameBut [.rooms] s (s.setRoom room { s.room room with isOpen := b }) :=
  setRoom_sameBut s room _ _ (.inl (by decide)) (.inr rfl)

theorem settings_of_sameBut {l : List Part} {s t : State} (h : sameBut l s t) (hl : Part.rooms ∉ l) (r : Nat) :
    (t.room r).settings = (s.room r).settings := h .rooms hl r

/-- The settings of the rooms once one is opened or closed. -/
theorem settings_setRoom_isOpen (s : State) (room q : Nat) (b : Bool) :
    ((s.setRoom room { s.room room with isOpen := b }).room q).settings =
      if q = room then { (s.room room).settings with isOpen := b } else (s.room q).settings := by
  rw [room_setRoom]
  split <;> rfl

/-- What opening or closing a room does (R5, R6, R123). -/
theorem setRoomOpen_spec (s : State) (room : Nat) (b : Bool) :
    ((s.setRoomOpen room b).room room).settings = { (s.room room).settings with isOpen := b } ∧
    (∀ q, q ≠ room → ((s.setRoomOpen room b).room q).settings = (s.room q).settings) ∧
    displayFollows s (s.setRoomOpen room b) room ∧ sameOtherRooms room s (s.setRoomOpen room b) ∧
    sameBut [.rooms, .displayRevs, .displays] s (s.setRoomOpen room b) := by
  have h1 := setRoom_isOpen_sameBut s room b
  have h2 := recompute_sameBut (s.setRoom room { s.room room with isOpen := b }) room
  unfold State.setRoomOpen
  refine ⟨?_, fun q hq => ?_, ?_, ?_, ?_⟩
  · rw [settings_of_sameBut h2 (by decide), settings_setRoom_isOpen, if_pos rfl]
  · rw [settings_of_sameBut h2 (by decide), settings_setRoom_isOpen, if_neg hq]
  · exact displayFollows_recompute (State.shownAlike_of_sameBut h1 room (by decide))
  · exact sameOtherRooms_trans (sameOtherRooms_of_sameBut room h1 (by decide) (by decide) (by decide))
      (recompute_sameOtherRooms _ room)
  · exact sameBut_trans (sameBut_mono (by decide) h1) (sameBut_mono (by decide) h2)

theorem runOpenRoom_of_role {p : Port} {room : Nat} {s : State} (hm : s.mayIssue p .facil = true) :
    runOpenRoom p room s = if roomOut room then refuse s .range
      else if !(s.room room).configured then refuse s .state else accept (s.setRoomOpen room true) := by
  unfold runOpenRoom
  rw [hm, if_neg (by decide)]

theorem runCloseRoom_of_role {p : Port} {room : Nat} {s : State} (hm : s.mayIssue p .facil = true) :
    runCloseRoom p room s = if roomOut room then refuse s .range
      else match s.roomRecs room with
        | e :: _ => refuse s .state (.booking (s.recHandle e.1))
        | [] => accept (s.setRoomOpen room false) := by
  unfold runCloseRoom
  exact if_neg (by rw [hm]; decide)

theorem runCloseRoomForce_of_role {p : Port} {room : Nat} {s : State} (hm : s.mayIssue p .facil = true) :
    runCloseRoomForce p room s = if roomOut room then refuse s .range
      else if ((s.roomRecs room).map Prod.fst).isEmpty then accept (s.setRoomOpen room false)
      else if s.exhausted then refuse s .revExhausted
      else accept (s.forceClose p room ((s.roomRecs room).map Prod.fst))
        (.number ((s.roomRecs room).map Prod.fst).length) := by
  unfold runCloseRoomForce
  rw [hm, if_neg (by decide)]

theorem State.mem_roomRecs {s : State} {room : Nat} {e : Nat × Rec} :
    e ∈ s.roomRecs room ↔ e ∈ s.liveRecs ∧ e.2.room = room ∧ e.2.plane < 8 := by
  unfold State.roomRecs
  simp only [List.mem_flatMap, List.mem_range, State.mem_dayList]
  exact ⟨fun ⟨_, hk, hm, hr, hp⟩ => ⟨hm, hr, hp ▸ hk⟩, fun ⟨hm, hr, hp⟩ => ⟨_, hp, hm, hr, rfl⟩⟩

theorem State.roomRecs_eq_nil {s : State} {room : Nat} (h : ∀ e, e ∈ s.liveRecs → e.2.room ≠ room) :
    s.roomRecs room = [] :=
  List.eq_nil_iff_forall_not_mem.mpr (fun e he => h e (State.mem_roomRecs.mp he).1 (State.mem_roomRecs.mp he).2.1)

/-- Settles O17. -/
theorem siteAndRoomStates : Obligations.SiteAndRoomStates := by
  unfold Obligations.SiteAndRoomStates
  refine ⟨?_, ?_, ?_, ?_, ?_⟩
  · intro p tag n s h hn
    have hm := mayIssue_of_ready (r := .facil) tag h (fun _ => rfl)
    exact exec_of_refuse rfl h.1 ((runConfigSite_of_role hm).trans (if_pos hn))
  · intro p tag room s hc hf hr
    have hrange := roomOut_eq_true hr
    refine ⟨exec_of_refuse rfl hc ?_, exec_of_refuse rfl hc ?_, exec_of_refuse rfl hc ?_⟩
    · exact (runOpenRoom_of_role (mayIssue_of_permits (cmd := (.openRoom room)) tag hf (fun _ => rfl))).trans (if_pos hrange)
    · exact (runCloseRoom_of_role (mayIssue_of_permits (cmd := (.closeRoom room)) tag hf (fun _ => rfl))).trans (if_pos hrange)
    · exact (runCloseRoomForce_of_role (mayIssue_of_permits (cmd := (.closeRoomForce room)) tag hf (fun _ => rfl))).trans (if_pos hrange)
  · intro p tag n s h h1 h12
    have hm := mayIssue_of_ready (r := .facil) tag h (fun _ => rfl)
    have hrun := (runConfigSite_of_role (n := n) hm).trans (if_neg (by omega))
    refine ⟨fun hs => exec_of_refuse rfl h.1 (hrun.trans (if_pos hs)), fun hs hb => ?_, fun e he hs hw hc hn => ?_⟩
    · have hs' : (s.taking p tag (.configSite n)).serving = false := hs
      have hb' : (s.taking p tag (.configSite n)).roomBeyond n = none := State.roomBeyond_eq_none hb
      rw [hs', if_neg (by decide), hb'] at hrun
      exact ⟨_, exec_of_run rfl h.1 hrun, rfl, setBuildings_sameBut _ n⟩
    · have hs' : (s.taking p tag (.configSite n)).serving = false := hs
      obtain ⟨room, hroom, hspec⟩ :=
        State.roomBeyond_spec (s := s.taking p tag (.configSite n)) hw he hc hn
      rw [hs', if_neg (by decide), hroom] at hrun
      exact ⟨room, exec_of_refuse rfl h.1 hrun, hspec⟩
  · intro p tag room s h hr
    have hm := mayIssue_of_ready (r := .facil) tag h (fun _ => rfl)
    have hrun := (runOpenRoom_of_role (room := room) hm).trans (if_neg (by rw [roomOut_eq_false hr]; decide))
    refine ⟨fun hc => exec_of_refuse rfl h.1 (hrun.trans (if_pos ?_)), fun hc => ?_⟩
    · change (!(s.room room).configured) = true
      rw [hc]; rfl
    · refine ⟨_, exec_of_run rfl h.1 (hrun.trans (if_neg ?_)),
        setRoomOpen_spec (s.taking p tag (.openRoom room)) room true⟩
      change ¬ (!(s.room room).configured) = true
      rw [hc]; decide
  · intro p tag room s h hr
    have hm := mayIssue_of_ready (r := .facil) tag h (fun _ => rfl)
    have hrun := (runCloseRoom_of_role (room := room) hm).trans (if_neg (by rw [roomOut_eq_false hr]; decide))
    refine ⟨fun e l he => ?_, fun he => ?_⟩
    · have he' : (s.taking p tag (.closeRoom room)).roomRecs room = e :: l := he
      rw [he'] at hrun
      exact exec_of_refuse rfl h.1 hrun
    · have he' : (s.taking p tag (.closeRoom room)).roomRecs room = [] := State.roomRecs_eq_nil he
      rw [he'] at hrun
      exact ⟨_, exec_of_run rfl h.1 hrun, setRoomOpen_spec (s.taking p tag (.closeRoom room)) room false⟩

/-! ### OPEN and RECONFIGURE -/

theorem setModeField_sameBut (s : State) (m : Mode) : sameBut [.mode] s { s with site := { s.site with mode := m } } := by
  intro x hx
  cases x <;> first
    | exact absurd (by decide) hx
    | rfl
    | exact ⟨rfl, rfl⟩
    | (intro _; first | rfl | exact ⟨rfl, rfl, rfl, rfl⟩)

/-- What a set mode leaves, after every display is computed again. -/
theorem setMode_of_sameBut {s t u : State} {m : Mode} (h1 : sameBut [.mode] s t) (ht : t.site.mode = m)
    (h2 : sameBut [.displayRevs, .displays] t u) (hall : allDisplaysFollow t u) :
    u.site.mode = m ∧ allDisplaysFollow s u ∧ sameBut [.mode, .displayRevs, .displays] s u :=
  ⟨(h2 .mode (by decide) : u.site.mode = t.site.mode).trans ht,
    fun q hq => (hall q hq).from (State.shownAlike_of_sameBut h1 q (by decide)),
    sameBut_trans (sameBut_mono (by decide) h1) (sameBut_mono (by decide) h2)⟩

/-- What setting the mode does (R9, R10, R123). -/
theorem setMode_spec (s : State) (m : Mode) : (s.setMode m).site.mode = m ∧ allDisplaysFollow s (s.setMode m) ∧
    sameBut [.mode, .displayRevs, .displays] s (s.setMode m) :=
  setMode_of_sameBut (setModeField_sameBut s m) rfl (recomputeAll_sameBut _)
    (allDisplaysFollow_recomputeAll (fun _ => ⟨rfl, rfl⟩))

theorem runOpenDevice_of_role {p : Port} {s : State} (hm : s.mayIssue p .facil = true) :
    runOpenDevice p s = if s.serving then refuse s .state
      else if !s.clock.set then refuse s .noTime
      else if !s.site.rooms.any (fun e => e.2.isOpen) then refuse s .state
      else accept (s.setMode .serving) := by
  unfold runOpenDevice
  rw [hm, if_neg (by decide)]

theorem runReconfigure_of_role {p : Port} {s : State} (hm : s.mayIssue p .facil = true) :
    runReconfigure p s = if !s.serving then refuse s .state
      else accept (s.clearBooking.setMode .configuring) := by
  unfold runReconfigure
  rw [hm, if_neg (by decide)]

theorem runOpenDevice_serves {p : Port} {s : State} (hm : s.mayIssue p .facil = true) {room : Nat}
    (hs : s.serving = false) (hc : s.clock.set = true) (ho : (s.room room).isOpen = true) :
    runOpenDevice p s = accept (s.setMode .serving) := by
  have hmem : (room, s.room room) ∈ s.site.rooms :=
    Table.mem_of_read (d := Room.cold) (fun h => by
      have : (Room.cold).isOpen = true := h ▸ ho
      cases this)
  have hany : s.site.rooms.any (fun e => e.2.isOpen) = true := List.any_eq_true.mpr ⟨_, hmem, ho⟩
  rw [runOpenDevice_of_role hm, hs, if_neg (by decide), hc, if_neg (by decide), hany]
  rfl

/-- What a built table holds for a number below its bound. -/
theorem Table.read_build {α : Type} [DecidableEq α] (d : α) (f : Nat → α) {n i : Nat} (h : i < n) :
    Table.read d (Table.build d n f) i = f i := by
  have hr := ((Table.wf_iff _ _).mp (Table.wf_build d n f)).1
  by_cases hf : f i = d
  · by_contra hne
    have hd : Table.read d (Table.build d n f) i ≠ d := fun he => hne (he.trans hf.symm)
    obtain ⟨j, -, hj⟩ := List.mem_filterMap.mp (Table.mem_of_read hd)
    split at hj
    · cases hj
    · injection hj with hj
      injection hj with hji hjv
      exact hne (hjv.symm.trans (congrArg f hji))
  · exact Table.read_of_mem (e := (i, f i)) hr
      (List.mem_filterMap.mpr ⟨i, List.mem_range.mpr h, if_neg hf⟩)

/-- An entry of a pool whose entries were all freed: its generation has advanced (R10, R39). -/
theorem Pool.entry_renewAll {α : Type} [DecidableEq α] (p : Pool α) {cap i : Nat} (h : i < cap) :
    Pool.entry (Pool.renewAll p cap) i = ⟨(Pool.entry p i).gen + 1, none⟩ :=
  Table.read_build _ _ h

theorem clearBooking_sameBut (s : State) : sameBut [.records, .ring, .clearMark, .listings, .vacancy, .waitlist, .load,
    .orders, .queues, .readings] s s.clearBooking := by
  intro x hx
  unfold State.clearBooking Book.reconfigured
  cases x <;> simp only [Part.agree] <;> first
    | exact absurd (by decide) hx
    | (intro r; simp only [State.room])
    | (intro q
       simp only [State.port]
       cases q <;> first | rfl | exact ⟨rfl, rfl, rfl, rfl⟩)

theorem contentOf_of_notServing {s : State} (h : s.serving = false) (room : Nat) :
    s.contentOf room = ⟨.closed, none, none, .none⟩ := by
  have hd : s.displayState room = .closed := by
    unfold State.displayState
    rw [h]; rfl
  unfold State.contentOf
  rw [hd]; rfl

/-- Everything that RECONFIGURE has emptied (R10, R39, R74, R153). -/
structure State.Cleared (s u : State) : Prop where
  recs : ∀ i, i < 2048 → Pool.entry u.book.pool i = ⟨(Pool.entry s.book.pool i).gen + 1, none⟩
  entries : ∀ w, w < 64 → Pool.entry u.wait.pool w = ⟨(Pool.entry s.wait.pool w).gen + 1, none⟩
  orders : ∀ j, j < 512 → Pool.entry u.plan.orders j = ⟨(Pool.entry s.plan.orders j).gen + 1, none⟩
  order : u.wait.order = []
  fates : u.wait.fates = []
  load : u.plan.load = []
  ring : u.book.ring = []
  wrapped : u.book.wrapped = false
  clearMark : u.book.clearMark = some s.book.rev
  listings : u.book.listings = ⟨none, none, none⟩
  vacancy : u.book.vacancy = []
  queues : ∀ q, (u.port q).queue = []

theorem cleared_clearBooking (s : State) : State.Cleared s s.clearBooking := by
  have hrecs : ∀ i, i < 2048 →
      Pool.entry s.clearBooking.book.pool i = ⟨(Pool.entry s.book.pool i).gen + 1, none⟩ := fun i hi => by
    rw [State.clearBooking_pool, Pool.entry_renewAll (cap := Config.bookCap) _ hi]
  have horders : ∀ j, j < 512 →
      Pool.entry s.clearBooking.plan.orders j = ⟨(Pool.entry s.plan.orders j).gen + 1, none⟩ := fun j hj => by
    rw [State.clearBooking_orders, Pool.entry_renewAll (cap := Config.orderCap) _ hj]
  refine ⟨hrecs, ?_, horders, ?_, ?_, ?_, ?_, ?_, ?_, ?_, ?_, ?_⟩ <;> unfold State.clearBooking Book.reconfigured
  · exact fun w hw => Pool.entry_renewAll s.wait.pool hw
  all_goals first | rfl | (intro q; cases q <;> rfl)

theorem State.Cleared.sameBut {s t u : State} {l : List Part} (h : State.Cleared s t) (k : sameBut l t u)
    (hl : ∀ x ∈ [Part.records, .waitlist, .orders, .load, .ring, .clearMark, .listings, .vacancy, .queues], x ∉ l) :
    State.Cleared s u := by
  have hrec : u.book.pool = t.book.pool := k .records (hl _ (by decide))
  have hwait : u.wait = t.wait := k .waitlist (hl _ (by decide))
  have horders : u.plan.orders = t.plan.orders := k .orders (hl _ (by decide))
  have hload : u.plan.load = t.plan.load := k .load (hl _ (by decide))
  have hring : u.book.ring = t.book.ring ∧ u.book.wrapped = t.book.wrapped := k .ring (hl _ (by decide))
  have hmark : u.book.clearMark = t.book.clearMark := k .clearMark (hl _ (by decide))
  have hlist : u.book.listings = t.book.listings := k .listings (hl _ (by decide))
  have hvac : u.book.vacancy = t.book.vacancy := k .vacancy (hl _ (by decide))
  exact {
    recs := fun i hi => by rw [hrec, h.recs i hi]
    entries := fun i hi => by rw [hwait, h.entries i hi]
    orders := fun i hi => by rw [horders, h.orders i hi]
    order := by rw [hwait, h.order]
    fates := by rw [hwait, h.fates]
    load := by rw [hload, h.load]
    ring := by rw [hring.1, h.ring]
    wrapped := by rw [hring.2, h.wrapped]
    clearMark := by rw [hmark, h.clearMark]
    listings := by rw [hlist, h.listings]
    vacancy := by rw [hvac, h.vacancy]
    queues := fun q => (k .queues (hl _ (by decide)) q).trans (h.queues q) }

/-- What RECONFIGURE leaves (R10). -/
theorem reconfigured_spec (s : State) : ∃ u, s.clearBooking.setMode .configuring = u ∧ u.site.mode = .configuring ∧
    State.Cleared s u ∧ allDisplaysFollow s u ∧
    sameBut [.mode, .displayRevs, .records, .ring, .clearMark, .listings, .vacancy, .waitlist, .displays, .load,
      .orders, .queues, .readings] s u := by
  have hc := cleared_clearBooking s
  have hb := clearBooking_sameBut s
  generalize s.clearBooking = t at hc hb
  obtain ⟨hm, hall, hsame⟩ := setMode_spec t .configuring
  refine ⟨_, rfl, hm, hc.sameBut hsame (by decide), fun q hq => ?_,
    sameBut_trans (sameBut_mono (by decide) hb) (sameBut_mono (by decide) hsame)⟩
  exact (hall q hq).from (State.shownAlike_of_sameBut hb q (by decide))

/-- Settles O20. -/
theorem deviceModes : Obligations.DeviceModes := by
  unfold Obligations.DeviceModes
  refine ⟨fun p tag s h => ?_, fun p tag s h => ?_⟩
  · have hm := mayIssue_of_ready (r := .facil) tag h (fun _ => rfl)
    have hrun := runOpenDevice_of_role hm
    refine ⟨fun hs => exec_of_refuse rfl h.1 (hrun.trans (if_pos hs)), fun hs hc => ?_, fun hs hc ho => ?_,
      fun room hs hc ho => ?_⟩
    · have hs' : (s.taking p tag .openDevice).serving = false := hs
      have hc' : (s.taking p tag .openDevice).clock.set = false := hc
      rw [hs', if_neg (by decide), hc', if_pos (by decide)] at hrun
      exact exec_of_refuse rfl h.1 hrun
    · have hs' : (s.taking p tag .openDevice).serving = false := hs
      have hc' : (s.taking p tag .openDevice).clock.set = true := hc
      have hany : (s.taking p tag .openDevice).site.rooms.any (fun e => e.2.isOpen) = false := by
        rw [List.any_eq_false]
        exact fun e he => by rw [ho e he]; decide
      rw [hs', if_neg (by decide), hc', if_neg (by decide), hany, if_pos (by decide)] at hrun
      exact exec_of_refuse rfl h.1 hrun
    · exact ⟨_, exec_of_run rfl h.1 (runOpenDevice_serves hm hs hc ho), setMode_spec (s.taking p tag .openDevice) .serving⟩
  · have hm := mayIssue_of_ready (r := .facil) tag h (fun _ => rfl)
    have hrun := runReconfigure_of_role hm
    refine ⟨fun hs => ?_, fun hs => ?_⟩
    · have hs' : (s.taking p tag .reconfigure).serving = false := hs
      rw [hs', if_pos (by decide)] at hrun
      exact exec_of_refuse rfl h.1 hrun
    · have hs' : (s.taking p tag .reconfigure).serving = true := hs
      obtain ⟨u, hu, hmode, hc, hall, hsame⟩ := reconfigured_spec (s.taking p tag .reconfigure)
      rw [hs', if_neg (by decide), hu] at hrun
      refine ⟨u, exec_of_run rfl h.1 hrun, hmode, hc.recs, hc.entries, hc.orders, hc.order, hc.fates, fun k g => ?_,
        hc.ring, hc.wrapped, hc.clearMark, fun q => ?_, fun r => ?_, hc.queues, hall, fun r hr => ?_, hsame⟩
      · unfold State.loadEntry
        rw [hc.load]; rfl
      · rw [hc.listings]; cases q <;> rfl
      · unfold State.vacancy
        rw [hc.vacancy]; rfl
      · rw [(hall r hr).1]
        exact contentOf_of_notServing (by unfold State.serving; rw [hmode]; decide) r

end Sys2Proof.Machine
end

section
/-! SUPPORT. The settling of the statements about usage, routing, the notice queues and the clock's ticks. -/

namespace Sys2Proof.Machine

/-! ### Usage and routes -/

theorem closePeriod_sameBut (s : State) (k : SnapshotKind) (day minute : Nat) : sameBut [.roomUsage, .kitchenUsage, .bank]
    s { s with monitor := s.monitor.closePeriod k day minute } := by
  intro x hx
  cases x <;> first
    | exact absurd (by decide) hx
    | rfl
    | exact ⟨rfl, rfl⟩
    | (intro _; first | rfl | exact ⟨rfl, rfl, rfl, rfl⟩)

theorem setAutoSnapshot_sameBut (s : State) (v : Bool) :
    sameBut [.autoSnapshot] s { s with monitor := { s.monitor with autoSnapshot := v } } := by
  intro x hx
  cases x <;> first
    | exact absurd (by decide) hx
    | rfl
    | exact ⟨rfl, rfl⟩
    | (intro _; first | rfl | exact ⟨rfl, rfl, rfl, rfl⟩)

theorem setRoute_sameBut (s : State) (k : Nat) (v : Route) : sameBut [.routes] s (s.setRoute k v) := by
  intro x hx
  cases x <;> first
    | exact absurd (by decide) hx
    | rfl
    | exact ⟨rfl, rfl⟩
    | (intro _; first | rfl | exact ⟨rfl, rfl, rfl, rfl⟩)

theorem route_setRoute (s : State) (k q : Nat) (v : Route) :
    (s.setRoute k v).route q = if q = k then v else s.route q := Table.read_write _ _ _ _ _

theorem monitor_eq_of_sameBut {l : List Part} {s t : State} (h : sameBut l s t)
    (hl : ∀ x ∈ [Part.roomUsage, .kitchenUsage, .chronic, .bank, .autoSnapshot], x ∉ l) : t.monitor = s.monitor := by
  have h1 : t.monitor.rooms = s.monitor.rooms := h .roomUsage (hl _ (by decide))
  have h2 : t.monitor.kitchens = s.monitor.kitchens := h .kitchenUsage (hl _ (by decide))
  have h3 : t.monitor.chronic = s.monitor.chronic := h .chronic (hl _ (by decide))
  have h4 : t.monitor.bank = s.monitor.bank := h .bank (hl _ (by decide))
  have h5 : t.monitor.autoSnapshot = s.monitor.autoSnapshot := h .autoSnapshot (hl _ (by decide))
  cases ht : t.monitor
  cases hs : s.monitor
  simp_all only

/-! ### The ports after a notice -/

theorem offer_ports_congr {s t : State} (h : t.ports = s.ports) (p : Port) (n : Notice) :
    (t.offer p n).ports = (s.offer p n).ports := by
  unfold State.offer
  rw [State.setPort_ports, State.setPort_ports, State.port_congr h, h]

theorem setFlags_ports_congr {s t : State} (h : t.ports = s.ports) (p : Port) (f : PortFlags) :
    (t.setPort p ((t.port p).setFlags f)).ports = (s.setPort p ((s.port p).setFlags f)).ports := by
  rw [State.setPort_ports, State.setPort_ports, State.port_congr h, h]

theorem foldl_ports_congr {f : State → Port → State} (hf : ∀ s t p, t.ports = s.ports → (f t p).ports = (f s p).ports)
    (l : List Port) : ∀ s t : State, t.ports = s.ports → (l.foldl f t).ports = (l.foldl f s).ports := by
  induction l with
  | nil => exact fun s t h => h
  | cons p l ih => exact fun s t h => ih _ _ (hf s t p h)

theorem State.leastFilled_congr {s t : State} (h : t.ports = s.ports) (l : List Port) :
    t.leastFilled l = s.leastFilled l := by
  induction l with
  | nil => rfl
  | cons p l ih =>
    unfold State.leastFilled
    rw [ih]
    simp only [State.port_congr h]

theorem routeLeast_ports_congr {s t : State} (h : t.ports = s.ports) (l : List Port) (n : Notice) :
    (t.routeLeast l n).ports = (s.routeLeast l n).ports := by
  unfold State.routeLeast
  simp only [State.port_congr h, State.leastFilled_congr h]
  split
  · exact offer_ports_congr h _ n
  · split
    · exact offer_ports_congr h _ n
    · exact foldl_ports_congr (fun _ _ p hp => setFlags_ports_congr hp p _) l s t h

/-- The ports after a notice: they follow from the ports, the routes, the clock and the revision alone (R176). -/
theorem raise_ports_congr {s t : State} (hr : t.routes = s.routes) (hc : t.clock = s.clock)
    (hrev : t.book.rev = s.book.rev) (hp : t.ports = s.ports) (e : Raised) : (t.raise e).ports = (s.raise e).ports := by
  have hroute : t.route e.kind.number = s.route e.kind.number := by
    unfold State.route; rw [hr]
  have hform : t.formNotice e = s.formNotice e := by
    unfold State.formNotice
    rw [hroute, hrev, hc]
  have hfixed : ∀ l n, (t.routeFixed l n).ports = (s.routeFixed l n).ports := fun l n =>
    foldl_ports_congr (fun _ _ p hp => offer_ports_congr hp p n) l s t hp
  unfold State.raise
  dsimp only
  rw [hroute, hform]
  split
  · exact hp
  · split
    · exact hfixed _ _
    · exact routeLeast_ports_congr hp _ _
    · split
      · exact offer_ports_congr hp _ _
      · exact hfixed _ _

/-- The ports after a notice of a later state, as the statements write them. -/
theorem ports_raise {s t : State} {rev : Nat} (hr : t.routes = s.routes) (hc : t.clock = s.clock)
    (hrev : t.book.rev = rev) (hp : t.ports = s.ports) (e : Raised) : (t.raise e).ports = s.portsAfter rev e :=
  raise_ports_congr (s := { s with book := { s.book with rev := rev } }) hr hc hrev hp e

/-- What a snapshot does (R171). -/
theorem takeSnapshot_spec (s : State) (k : SnapshotKind) :
    (s.takeSnapshot k).monitor = s.monitor.closePeriod k s.clock.day s.clock.minute ∧
    (s.takeSnapshot k).ports = State.portsAfter s s.book.rev
      { kind := .dayRolled, subject := .snapshot (s.monitor.bank.seq + 1), hi := .snapshot k
        data := [.time s.clock.day s.clock.minute] } ∧
    sameBut ([.roomUsage, .kitchenUsage, .bank] ++ noticeParts) s (s.takeSnapshot k) := by
  have hraise := raise_sameBut { s with monitor := s.monitor.closePeriod k s.clock.day s.clock.minute }
    { kind := .dayRolled, subject := .snapshot (s.monitor.bank.seq + 1), hi := .snapshot k
      data := [.time s.clock.day s.clock.minute] }
  refine ⟨monitor_eq_of_sameBut hraise (by decide), ?_, sameBut_trans
    (sameBut_mono (by decide) (closePeriod_sameBut s k s.clock.day s.clock.minute)) (sameBut_mono (by decide) hraise)⟩
  exact ports_raise (s := s) (t := { s with monitor := s.monitor.closePeriod k s.clock.day s.clock.minute }) rfl rfl rfl rfl _

theorem runSnapshot_of_ready {p : Port} {tag : Byte} {s : State} (h : s.ready p .snapshot) :
    runSnapshot p (s.taking p tag .snapshot) = accept ((s.taking p tag .snapshot).takeSnapshot .manual)
      (.sequence (s.monitor.bank.seq + 1)) := by
  have hm : ((s.taking p tag .snapshot).mayIssue p .facil || (s.taking p tag .snapshot).mayIssue p .cater) = true := by
    rw [mayIssue_taking, mayIssue_taking]; exact h.2.1
  unfold runSnapshot
  exact if_neg (by rw [hm]; decide)

theorem runConfigRoute_of_role {p : Port} {a : ConfigRouteArgs} {s : State} (hm : s.mayIssue p .facil = true) :
    runConfigRoute p a s = if a.kind < 1 ∨ 20 < a.kind ∨ 7 < a.priority then refuse s .range
      else match a.mode with
        | none => refuse s .range
        | some m => accept (s.setRoute a.kind ⟨a.enabled, m, a.ports, a.priority⟩)
          (.route ⟨a.enabled, m, a.ports, a.priority⟩) := by
  unfold runConfigRoute
  exact if_neg (by rw [hm]; decide)

/-- Settles O50. -/
theorem usageAndRouting : Obligations.UsageAndRouting := by
  unfold Obligations.UsageAndRouting
  refine ⟨fun p tag s h => ?_, fun p tag v s h => ?_, fun p tag a s h => ⟨fun ho => ?_, fun m h1 h20 h7 hm => ?_⟩⟩
  · obtain ⟨hmon, hports, hsame⟩ := takeSnapshot_spec (s.taking p tag .snapshot) .manual
    refine ⟨_, exec_of_run rfl h.1 (runSnapshot_of_ready h), congrArg Monitor.bank hmon, fun r => ?_, fun k => ?_,
      hports, hsame⟩
    · unfold State.roomUsage; rw [hmon]; rfl
    · unfold State.kitchenUsage; rw [hmon]; rfl
  · have hm := mayIssue_of_ready (r := .facil) tag h (fun _ => rfl)
    refine ⟨_, exec_of_run rfl h.1 (u := { s.taking p tag (.setAutoSnapshot v) with
      monitor := { s.monitor with autoSnapshot := v } }) ?_, rfl,
      setAutoSnapshot_sameBut (s.taking p tag (.setAutoSnapshot v)) v⟩
    change runSetAutoSnapshot p v _ = _
    unfold runSetAutoSnapshot
    rw [hm, if_neg (by decide)]
    rfl
  · have hrun := runConfigRoute_of_role (a := a) (mayIssue_of_ready (r := .facil) tag h (fun _ => rfl))
    refine exec_of_refuse rfl h.1 (hrun.trans ?_)
    by_cases hr : a.kind < 1 ∨ 20 < a.kind ∨ 7 < a.priority
    · exact if_pos hr
    · have hnone : a.mode = none := by
        rcases ho with h | h | h | h
        · exact absurd (.inl h) hr
        · exact absurd (.inr (.inl h)) hr
        · exact absurd (.inr (.inr h)) hr
        · exact h
      rw [if_neg hr, hnone]
  · have hrun := runConfigRoute_of_role (a := a) (mayIssue_of_ready (r := .facil) tag h (fun _ => rfl))
    rw [if_neg (by omega), hm] at hrun
    refine ⟨_, exec_of_run rfl h.1 hrun, ?_, fun k hk => ?_, setRoute_sameBut _ _ _⟩
    · rw [route_setRoute, if_pos rfl]
    · rw [route_setRoute, if_neg hk]; rfl

/-! ### Routing a notice -/

/-- The letter of a port, by which ties are decided (R181). -/
def letterOf : Port → Nat
  | .a => 0
  | .b => 1
  | .c => 2

theorem portOfLetter_eq_some {i : Nat} {p : Port} : portOfLetter i = some p ↔ i = letterOf p := by
  constructor
  · intro h
    unfold portOfLetter at h
    split at h <;> cases h <;> rfl
  · rintro rfl
    cases p <;> rfl

theorem letterOf_injective : Function.Injective letterOf := by
  intro p q h
  cases p <;> cases q <;> first | rfl | cases h

theorem mem_portSetList {e : PortSet} {p : Port} : p ∈ portSetList e ↔ portSetHolds e p = true := by
  unfold portSetList
  rw [List.mem_filter]
  exact ⟨fun h => h.2, fun h => ⟨by cases p <;> decide, h⟩⟩

theorem portSetList_rising (e : PortSet) : (portSetList e).Pairwise (fun p q => letterOf p < letterOf q) :=
  List.Pairwise.filter _ (by decide)

theorem portSetList_nodup (e : PortSet) : (portSetList e).Nodup := List.Nodup.filter _ (by decide)

/-- A port's record after each port of a list has been given a function of its own. -/
theorem port_foldl_setPort (f : AgentPort → AgentPort) (l : List Port) :
    ∀ (s : State), l.Nodup → ∀ p, (l.foldl (fun t q => t.setPort q (f (t.port q))) s).port p =
      if p ∈ l then f (s.port p) else s.port p := by
  induction l with
  | nil => intro s _ p; simp
  | cons q l ih =>
    intro s hnd p
    obtain ⟨hq, hnd⟩ := List.nodup_cons.mp hnd
    rw [List.foldl_cons, ih _ hnd p, State.port_setPort]
    by_cases hpq : p = q
    · subst hpq
      rw [if_neg hq, if_pos rfl, if_pos List.mem_cons_self]
    · rw [if_neg hpq]
      simp only [List.mem_cons, hpq, false_or]

theorem port_routeFixed (s : State) (e : PortSet) (n : Notice) (p : Port) :
    (s.routeFixed (portSetList e) n).port p = if portSetHolds e p then (s.port p).offer n else s.port p := by
  have h := port_foldl_setPort (fun a => a.offer n) (portSetList e) s (portSetList_nodup e) p
  simp only [mem_portSetList] at h
  exact h

theorem port_offer (s : State) (p q : Port) (n : Notice) :
    (s.offer p n).port q = if q = p then (s.port p).offer n else s.port q := State.port_setPort s p q _

/-- What the offer to one port leaves. -/
theorem port_offer_spec (s : State) (p : Port) (n : Notice) :
    (s.offer p n).port p = (s.port p).offer n ∧ ∀ r, r ≠ p → (s.offer p n).port r = s.port r :=
  ⟨by rw [port_offer, if_pos rfl], fun r hr => by rw [port_offer, if_neg hr]⟩

/-- The first of a list in letter order that satisfies a test is that of the lowest letter. -/
theorem find?_of_lowest {f : Port → Bool} {l : List Port} (hl : l.Pairwise (fun p q => letterOf p < letterOf q))
    {p : Port} (hp : p ∈ l) (hf : f p = true) (hlow : ∀ q, q ∈ l → letterOf q < letterOf p → f q = false) :
    l.find? f = some p := by
  induction l with
  | nil => cases hp
  | cons x l ih =>
    obtain ⟨hx, hl⟩ := List.pairwise_cons.mp hl
    rw [List.find?_cons]
    rcases List.mem_cons.mp hp with rfl | hp
    · rw [hf]
    · rw [hlow x List.mem_cons_self (hx p hp)]
      exact ih hl hp (fun q hq => hlow q (List.mem_cons_of_mem _ hq))

theorem State.mem_of_leastFilled {s : State} {l : List Port} {p : Port} (h : s.leastFilled l = some p) : p ∈ l := by
  induction l with
  | nil => cases h
  | cons x l ih =>
    unfold State.leastFilled at h
    split at h
    · cases h; exact List.mem_cons_self
    · next q hq =>
      split at h
      · cases h; exact List.mem_cons_self
      · cases h; exact List.mem_cons_of_mem _ (ih hq)

/-- The port that LEAST chooses: the fewest notices, and of several the lowest letter (R181). -/
theorem State.leastFilled_eq_some {s : State} {l : List Port} (hl : l.Pairwise (fun p q => letterOf p < letterOf q))
    {p : Port} (hp : p ∈ l) (hleast : ∀ q, q ∈ l → q ≠ p → (s.port p).queue.length < (s.port q).queue.length ∨
      ((s.port p).queue.length = (s.port q).queue.length ∧ letterOf p < letterOf q)) : s.leastFilled l = some p := by
  induction l with
  | nil => cases hp
  | cons x l ih =>
    obtain ⟨hx, hl⟩ := List.pairwise_cons.mp hl
    unfold State.leastFilled
    by_cases hpx : p = x
    · subst hpx
      cases hq : s.leastFilled l with
      | none => rfl
      | some q =>
        have hql := State.mem_of_leastFilled hq
        have hne : q ≠ p := fun h => absurd (hx q hql) (by rw [h]; exact Nat.lt_irrefl _)
        have := hleast q (List.mem_cons_of_mem _ hql) hne
        exact if_pos (by omega)
    · have hpl : p ∈ l := (List.mem_cons.mp hp).resolve_left hpx
      rw [ih hl hpl (fun q hq => hleast q (List.mem_cons_of_mem _ hq))]
      have := hleast x List.mem_cons_self (fun h => hpx h.symm)
      have := hx p hpl
      exact if_neg (by omega)

theorem port_routeLeast_holds {s : State} {l : List Port} {n : Notice} {p : Port}
    (hl : l.Pairwise (fun p q => letterOf p < letterOf q)) (hp : p ∈ l) (hf : (s.port p).holdsTopic n = true)
    (hlow : ∀ q, q ∈ l → letterOf q < letterOf p → (s.port q).holdsTopic n = false) :
    s.routeLeast l n = s.offer p n := by
  unfold State.routeLeast
  rw [find?_of_lowest (f := fun p => (s.port p).holdsTopic n) hl hp hf hlow]

theorem port_routeLeast_fewest {s : State} {l : List Port} {n : Notice} {p : Port}
    (hl : l.Pairwise (fun p q => letterOf p < letterOf q)) (hnone : ∀ q, q ∈ l → (s.port q).holdsTopic n = false)
    (hp : p ∈ l) (hroom : (s.port p).queue.length < 24)
    (hleast : ∀ q, q ∈ l → (s.port q).queue.length < 24 → q ≠ p →
      (s.port p).queue.length < (s.port q).queue.length ∨
      ((s.port p).queue.length = (s.port q).queue.length ∧ letterOf p < letterOf q)) :
    s.routeLeast l n = s.offer p n := by
  have hfind : l.find? (fun p => (s.port p).holdsTopic n) = none :=
    List.find?_eq_none.mpr (fun q hq => by rw [hnone q hq]; decide)
  have hchosen : s.leastFilled (l.filter (fun p => decide ((s.port p).queue.length < Config.queueCap))) = some p :=
    State.leastFilled_eq_some (hl.filter _) (List.mem_filter.mpr ⟨hp, decide_eq_true hroom⟩) (fun q hq =>
      hleast q (List.mem_filter.mp hq).1 (of_decide_eq_true (List.mem_filter.mp hq).2))
  unfold State.routeLeast
  rw [hfind, hchosen]

theorem port_routeLeast_full {s : State} {e : PortSet} {n : Notice}
    (hnone : ∀ q, portSetHolds e q = true → (s.port q).holdsTopic n = false)
    (hfull : ∀ q, portSetHolds e q = true → 24 ≤ (s.port q).queue.length) (p : Port) :
    (s.routeLeast (portSetList e) n).port p =
      if portSetHolds e p then (s.port p).setFlags .ofOverrun else s.port p := by
  have hfind : (portSetList e).find? (fun p => (s.port p).holdsTopic n) = none :=
    List.find?_eq_none.mpr (fun q hq => by rw [hnone q (mem_portSetList.mp hq)]; decide)
  have hempty : (portSetList e).filter (fun p => decide ((s.port p).queue.length < Config.queueCap)) = [] := by
    rw [List.filter_eq_nil_iff]
    intro q hq
    have := hfull q (mem_portSetList.mp hq)
    rw [decide_eq_true_eq]
    exact Nat.not_lt.mpr this
  have h := port_foldl_setPort (fun a => a.setFlags .ofOverrun) (portSetList e) s (portSetList_nodup e) p
  simp only [mem_portSetList] at h
  unfold State.routeLeast
  rw [hfind, hempty]
  exact h

theorem State.raise_of_enabled {s : State} {e : Raised} (h : (s.route e.kind.number).enabled = true) :
    s.raise e = match (s.route e.kind.number).mode with
      | .fixed => s.routeFixed (portSetList (s.route e.kind.number).ports) (s.formNotice e)
      | .least => s.routeLeast (portSetList (s.route e.kind.number).ports) (s.formNotice e)
      | .owner => match e.owner with
        | some p => s.offer p (s.formNotice e)
        | none => s.routeFixed (portSetList (s.route e.kind.number).ports) (s.formNotice e) := by
  unfold State.raise
  exact if_neg (by rw [h]; decide)

theorem PortFlags.join_ofOverrun (f : PortFlags) : f.join .ofOverrun = { f with overrun := true } := by
  simp [PortFlags.join, PortFlags.ofOverrun]

theorem State.formNotice_eq (s : State) (e : Raised) : s.formNotice e =
    { kind := e.kind, subject := e.subject, priority := (s.route e.kind.number).priority
      rev := match e.rev with
        | some r => r
        | none => s.book.rev
      day := s.clock.day, minute := s.clock.minute, cond := e.cond, transitions := 1, hi := e.hi, lo := e.lo
      tag := e.tag, data := e.data } := by
  unfold State.formNotice
  cases e.rev <;> rfl

/-! ### Queueing a copy -/

theorem AgentPort.holdsTopic_of_none {a : AgentPort} {n : Notice}
    (h : ∀ m, m ∈ a.queue → ¬ (m.kind = n.kind ∧ m.subject = n.subject)) : a.holdsTopic n = false := by
  unfold AgentPort.holdsTopic
  rw [List.any_eq_false]
  intro m hm hs
  obtain ⟨h1, h2⟩ := (Notice.sameTopic_iff n m).mp hs
  exact h m hm ⟨h1.symm, h2.symm⟩

theorem AgentPort.offer_of_room {a : AgentPort} {n : Notice} (hn : a.holdsTopic n = false) (hl : a.queue.length < 24) :
    a.offer n = { a with queue := queueInsert n a.queue } := by
  unfold AgentPort.offer
  rw [hn, if_neg (by decide)]
  exact if_pos hl

theorem AgentPort.offer_of_full {a : AgentPort} {n : Notice} (hn : a.holdsTopic n = false) (hl : 24 ≤ a.queue.length) :
    a.offer n = a.setFlags .ofOverrun := by
  unfold AgentPort.offer
  rw [hn, if_neg (by decide)]
  exact if_neg (by simpa [Config.queueCap] using hl)

theorem AgentPort.offer_of_held {a : AgentPort} {n : Notice} (hn : a.holdsTopic n = true) :
    (a.offer n).queue = a.queue.map (fun m => if Notice.sameTopic n m then Notice.coalesce n m else m) ∧
    (a.offer n).flags = a.flags := by
  unfold AgentPort.offer
  rw [hn, if_pos rfl]
  exact ⟨rfl, rfl⟩

theorem Notice.coalesce_eq (n m : Notice) : Notice.coalesce n m = { n with
    priority := m.priority
    transitions := match n.cond with
      | none => 1
      | some _ => min (m.transitions + 1) 15 } := by
  unfold Notice.coalesce
  cases n.cond <;> rfl

/-- A queue of distinct topics coalesces a copy at one place (R184). -/
theorem map_coalesce {n m : Notice} {pre post : List Notice} (hd : topicsDistinct (pre ++ m :: post) = true)
    (hm : Notice.sameTopic n m = true) :
    (pre ++ m :: post).map (fun k => if Notice.sameTopic n k then Notice.coalesce n k else k) =
      pre ++ Notice.coalesce n m :: post := by
  have htopic := (Notice.sameTopic_iff_topic n m).mp hm
  rw [topicsDistinct_iff, List.map_append, List.map_cons, List.nodup_append] at hd
  obtain ⟨-, hpost, hpre⟩ := hd
  obtain ⟨hmpost, -⟩ := List.nodup_cons.mp hpost
  have hother : ∀ k, k.topic ≠ m.topic → (if Notice.sameTopic n k then Notice.coalesce n k else k) = k := fun k hk =>
    if_neg (fun h => hk (((Notice.sameTopic_iff_topic n k).mp h).symm.trans htopic))
  rw [List.map_append, List.map_cons, if_pos hm]
  congr 1
  · exact (List.map_congr_left (fun k hk =>
      hother k (hpre _ (List.mem_map_of_mem hk) _ List.mem_cons_self))).trans (List.map_id' pre)
  · congr 1
    exact (List.map_congr_left (fun k hk =>
      hother k (fun h => hmpost (h ▸ List.mem_map_of_mem hk)))).trans (List.map_id' post)

/-- Settles O51. -/
theorem noticesAreRoutedAndQueued : Obligations.NoticesAreRoutedAndQueued := by
  unfold Obligations.NoticesAreRoutedAndQueued
  refine ⟨fun s e h => ?_, fun s e n hen hn => ?_, fun a n hno => ⟨fun hl hord => ?_, fun hl => ?_⟩,
    fun a n m pre post hd hq hk hs => ?_⟩
  · unfold State.raise
    dsimp only
    rw [h]; rfl
  · have hform : n = s.formNotice e := hn.trans (State.formNotice_eq s e).symm
    subst hform
    have hraise := State.raise_of_enabled hen
    have hrising := portSetList_rising (s.route e.kind.number).ports
    refine ⟨fun hmode p => ?_, fun q hmode how => ?_, fun i p hmode hi hp hf hlow => ?_, fun hmode hnone =>
      ⟨fun i p hi hp hroom hleast => ?_, fun hfull p => ?_⟩⟩
    · have hfixed : s.raise e = s.routeFixed (portSetList (s.route e.kind.number).ports) (s.formNotice e) := by
        rcases hmode with hm | ⟨hm, how⟩
        · rw [hraise, hm]
        · rw [hraise, hm, how]
      rw [hfixed]
      exact port_routeFixed s _ _ p
    · rw [hraise, hmode, how]
      exact port_offer_spec s q _
    · rw [hraise, hmode]
      dsimp only
      rw [port_routeLeast_holds hrising (mem_portSetList.mpr hp) hf (fun q hq hlt =>
        hlow (letterOf q) q (by rw [portOfLetter_eq_some.mp hi]; exact hlt) (portOfLetter_eq_some.mpr rfl)
          (mem_portSetList.mp hq))]
      exact port_offer_spec s p _
    · have hi := portOfLetter_eq_some.mp hi
      rw [hraise, hmode]
      dsimp only
      rw [port_routeLeast_fewest hrising (fun q hq => hnone q (mem_portSetList.mp hq)) (mem_portSetList.mpr hp) hroom
        (fun q hq hqr hqp => hi ▸ hleast (letterOf q) q (portOfLetter_eq_some.mpr rfl) (mem_portSetList.mp hq) hqr
          (fun h => hqp (letterOf_injective (h.trans hi))))]
      exact port_offer_spec s p _
    · rw [hraise, hmode]
      dsimp only
      rw [port_routeLeast_full hnone hfull p]
      split
      · unfold AgentPort.setFlags
        rw [PortFlags.join_ofOverrun]
      · rfl
  · obtain ⟨pre, post, hsplit, hins, hpre, hpost⟩ := queueInsert_split n a.queue
    refine ⟨pre, post, hsplit, hpre, ?_, ?_⟩
    · rw [priorityOrdered_iff, hsplit, List.pairwise_append] at hord
      exact lower_of_head_lower hord.2.1 hpost
    · rw [AgentPort.offer_of_room (AgentPort.holdsTopic_of_none hno) hl, hins]
  · rw [AgentPort.offer_of_full (AgentPort.holdsTopic_of_none hno) hl]
    exact ⟨rfl, PortFlags.join_ofOverrun _⟩
  · have hm : Notice.sameTopic n m = true := (Notice.sameTopic_iff n m).mpr ⟨hk.symm, hs.symm⟩
    have hheld : a.holdsTopic n = true := by
      unfold AgentPort.holdsTopic
      rw [hq]
      exact List.any_eq_true.mpr ⟨m, by simp, hm⟩
    obtain ⟨hqueue, hflags⟩ := AgentPort.offer_of_held hheld
    refine ⟨?_, hflags⟩
    rw [hqueue, hq, map_coalesce (hq ▸ hd) hm]
    exact congrArg (fun k => pre ++ k :: post) (Notice.coalesce_eq n m)

/-! ### Ticks -/

/-- Settles O22. -/
theorem clockTicks : Obligations.ClockTicks := by
  unfold Obligations.ClockTicks
  refine ⟨fun s h => ⟨?_, ?_, ?_⟩, fun s h hl => ?_, fun s h hl => ?_, fun s h => ?_, fun s h he hl => ?_,
    fun s h he hl => ?_⟩
  · change Host.Outcome.next s.countSecond = _
    unfold State.countSecond
    rw [h]; rfl
  · change Host.Outcome.next s.advanceMinute = _
    unfold State.advanceMinute
    rw [h]; rfl
  · change Host.Outcome.next s.minuteSync = _
    unfold State.minuteSync
    rw [h]; rfl
  · change Host.Outcome.next s.countSecond = _
    unfold State.countSecond
    rw [h, if_neg (by decide), if_pos hl]
  · change Host.Outcome.next s.countSecond = .next (State.advanceMinute _)
    unfold State.countSecond
    rw [h, if_neg (by decide), if_neg (by omega)]
  · change Host.Outcome.next s.minuteSync = _
    unfold State.minuteSync
    rw [h, Bool.and_false, if_neg (by decide)]
  · change Host.Outcome.next s.minuteSync = _
    unfold State.minuteSync
    rw [h, he, if_pos (by decide)]
    dsimp only
    rw [if_neg (by omega)]
  · refine ⟨s.advanceMinute, rfl, ?_⟩
    change Host.Outcome.next s.minuteSync = _
    unfold State.minuteSync
    rw [h, he, if_pos (by decide)]
    dsimp only
    rw [if_pos hl]

end Sys2Proof.Machine
end

section
/-! SUPPORT. What a finish leaves: the record, the ring, the counters, the room, the notices, and the order that follows
(R30, R31, R164). -/

namespace Sys2Proof.Machine

/-! ### Ports and revisions -/

/-- A frame that keeps every part of the ports keeps the ports. -/
theorem ports_eq_of_sameBut {l : List Part} {s t : State} (h : sameBut l s t)
    (hl : ∀ x ∈ [Part.roles, .portStates, .flags, .queues, .readings], x ∉ l) : t.ports = s.ports := by
  have hport : ∀ p, t.port p = s.port p := by
    intro p
    have h1 : (t.port p).roles = (s.port p).roles := h .roles (hl _ (by decide)) p
    obtain ⟨h2, h3, h4, h5⟩ : (t.port p).receiving = (s.port p).receiving ∧ (t.port p).base = (s.port p).base ∧
      (t.port p).slot = (s.port p).slot ∧ (t.port p).inHand = (s.port p).inHand := h .portStates (hl _ (by decide)) p
    have h6 : (t.port p).flags = (s.port p).flags := h .flags (hl _ (by decide)) p
    have h7 : (t.port p).queue = (s.port p).queue := h .queues (hl _ (by decide)) p
    have h8 : (t.port p).reading = (s.port p).reading := h .readings (hl _ (by decide)) p
    generalize t.port p = a at h1 h2 h3 h4 h5 h6 h7 h8
    generalize s.port p = b at h1 h2 h3 h4 h5 h6 h7 h8
    cases a
    cases b
    simp_all only
  have ha : t.ports.a = s.ports.a := hport .a
  have hb : t.ports.b = s.ports.b := hport .b
  have hc : t.ports.c = s.ports.c := hport .c
  generalize t.ports = x at ha hb hc
  generalize s.ports = y at ha hb hc
  cases x
  cases y
  simp_all only

theorem satAdd_satAdd (top n a b : Nat) : satAdd top (satAdd top n a) b = satAdd top n (a + b) := by
  unfold satAdd
  omega

theorem roomChanged_ports (s : State) (r : Nat) : (s.roomChanged r).ports = s.ports :=
  ports_eq_of_sameBut (roomChanged_sameBut s r) (by decide)

theorem recompute_ports (s : State) (r : Nat) : (s.recompute r).ports = s.ports :=
  ports_eq_of_sameBut (recompute_sameBut s r) (by decide)

/-! ### A finish -/

/-- Two states agree on what a finish changes in the book and the monitor. -/
def finishedParts : List Part := [.records, .revision, .ring, .roomUsage, .chronic]

theorem rev_of_sameBut {l : List Part} {s t : State} (h : sameBut l s t) (hl : Part.revision ∉ l) :
    t.book.rev = s.book.rev := h .revision hl

theorem pool_of_sameBut {l : List Part} {s t : State} (h : sameBut l s t) (hl : Part.records ∉ l) :
    t.book.pool = s.book.pool := h .records hl

theorem orders_of_sameBut {l : List Part} {s t : State} (h : sameBut l s t) (hl : Part.orders ∉ l) :
    t.plan.orders = s.plan.orders := h .orders hl

theorem roomUsage_of_sameBut {l : List Part} {s t : State} (h : sameBut l s t) (hl : Part.roomUsage ∉ l) (q : Nat) :
    t.roomUsage q = s.roomUsage q := by
  have a : t.monitor.rooms = s.monitor.rooms := h .roomUsage hl
  unfold State.roomUsage; rw [a]

theorem chronicState_of_sameBut {l : List Part} {s t : State} (h : sameBut l s t) (hl : Part.chronic ∉ l) (q : Nat) :
    t.chronicState q = s.chronicState q := by
  have a : t.monitor.chronic = s.monitor.chronic := h .chronic hl
  unfold State.chronicState; rw [a]

theorem finished.sameBut {l : List Part} {s t u : State} {i : Nat} {r : Rec} {fin : FinState} {a : Actor}
    (h : finished s t i r fin a) (k : sameBut l t u) (hl : ∀ x ∈ finishedParts, x ∉ l) : finished s u i r fin a := by
  obtain ⟨h1, h2, h3, h4, h5, h6, h7, h8⟩ := h
  obtain ⟨hring, hwrapped⟩ : u.book.ring = t.book.ring ∧ u.book.wrapped = t.book.wrapped := k .ring (hl _ (by decide))
  have hpool := pool_of_sameBut k (hl _ (by decide))
  have husage := roomUsage_of_sameBut k (hl _ (by decide))
  have hchronic := chronicState_of_sameBut k (hl _ (by decide))
  refine ⟨by rw [hpool]; exact h1, fun j hj => by rw [hpool]; exact h2 j hj,
    (rev_of_sameBut k (hl _ (by decide))).trans h3, hring.trans h4, hwrapped.trans h5, (husage _).trans h6,
    fun q hq => ⟨(husage q).trans (h7 q hq).1, (hchronic q).trans (h7 q hq).2⟩, (hchronic _).trans h8⟩

theorem writeTombstone_ring (s : State) (t : Tombstone) :
    (s.writeTombstone t).book.ring = (if s.book.ring.length < 256 then s.book.ring else s.book.ring.tail) ++ [t] ∧
    (s.writeTombstone t).book.wrapped = (s.book.wrapped || decide (256 ≤ s.book.ring.length)) := by
  unfold State.writeTombstone
  by_cases h : s.book.ring.length < 256
  · have h' : s.book.ring.length < Config.ringCap := h
    rw [if_pos h', if_pos h, decide_eq_false (by omega), Bool.or_false]
    exact ⟨rfl, rfl⟩
  · have h' : ¬ s.book.ring.length < Config.ringCap := h
    rw [if_neg h', if_neg h, decide_eq_true (by omega), Bool.or_true]
    exact ⟨rfl, rfl⟩

theorem satAdd_oneIf (c : Prop) [Decidable c] (n : Nat) :
    satAdd 255 n (oneIf (decide c)) = if c then min (n + 1) 255 else min n 255 := by
  by_cases h : c
  · rw [decide_eq_true h, if_pos h]; rfl
  · rw [decide_eq_false h, if_neg h]; rfl

theorem usageAfter_eq (u : RoomUsage) (r : Rec) (fin : FinState) (a : Actor) (h : Handle) (rev : Nat) :
    u.add (factsOf h r fin a rev) = usageAfter u r fin a := by
  have hocc : satAdd 65535 u.occupied (occupiedSlots (factsOf h r fin a rev)) = match r.arrival with
      | none => min u.occupied 65535
      | some a => min (u.occupied + if a ≤ r.stop then r.stop - a else Config.occupiedOpen r.stop a) 65535 := by
    unfold occupiedSlots
    dsimp only [factsOf]
    cases r.arrival <;> rfl
  have hnoShow := satAdd_oneIf (fin = .released) u.noShows
  have hearly := satAdd_oneIf (fin = .ended ∧ a = .panel) u.earlyEnds
  have hwalk := satAdd_oneIf (r.flags.walkup = true) u.walkups
  have hunverified := satAdd_oneIf (fin = .ended ∧ r.flags.unverified = true) u.unverified
  rw [Bool.decide_and] at hearly hunverified
  rw [Bool.decide_eq_true] at hwalk hunverified
  unfold usageAfter
  rw [← hnoShow, ← hearly, ← hwalk, ← hunverified]
  exact congrArg (fun n => ({ (u.add (factsOf h r fin a rev)) with occupied := n } : RoomUsage)) hocc

/-- What the monitor holds after it counts a finish (R169, R174). -/
theorem countFinish_spec (s : State) (h : Handle) (r : Rec) (fin : FinState) (a : Actor) (rev : Nat) :
    (s.countFinish (factsOf h r fin a rev)).roomUsage r.room =
      (if r.kind = .block then s.roomUsage r.room else usageAfter (s.roomUsage r.room) r fin a) ∧
    (∀ q, q ≠ r.room → (s.countFinish (factsOf h r fin a rev)).roomUsage q = s.roomUsage q ∧
      (s.countFinish (factsOf h r fin a rev)).chronicState q = s.chronicState q) ∧
    (s.countFinish (factsOf h r fin a rev)).chronicState r.room =
      (if r.kind = .block then s.chronicState r.room else { s.chronicState r.room with
        dayNoShows := min ((s.chronicState r.room).dayNoShows + if fin = .released then 1 else 0) 255 }) := by
  unfold State.countFinish
  by_cases hk : r.kind = .block
  · have hk' : (factsOf h r fin a rev).kind = .block := hk
    rw [if_pos hk', if_pos hk, if_pos hk]
    exact ⟨rfl, fun _ _ => ⟨rfl, rfl⟩, rfl⟩
  · have hk' : ¬ (factsOf h r fin a rev).kind = .block := hk
    rw [if_neg hk', if_neg hk, if_neg hk]
    refine ⟨?_, fun q hq => ⟨?_, ?_⟩, ?_⟩
    · rw [← usageAfter_eq]
      exact Table.read_write_same _ _ _ _
    · exact Table.read_write_other _ _ _ _ _ hq
    · exact Table.read_write_other _ _ _ _ _ hq
    · refine (Table.read_write_same _ _ _ _).trans ?_
      by_cases hf : fin = .released
      · simp [hf, factsOf, oneIf, satAdd]
      · simp [hf, factsOf, oneIf, satAdd]

theorem finished_finishRec (s : State) (i : Nat) (r : Rec) (fin : FinState) (a : Actor) :
    finished s (s.finishRec i r fin a) i r fin a := by
  have hpool := finishRec_pool s i r fin a
  have hcount := countFinish_spec ((s.advanceRev.writeTombstone
    ⟨s.recHandle i, tombKind r.kind, fin, s.advanceRev.book.rev⟩).setPool (Pool.free s.book.pool i)) (s.recHandle i) r fin
    a s.advanceRev.book.rev
  obtain ⟨hring, hwrapped⟩ := writeTombstone_ring s.advanceRev
    ⟨s.recHandle i, tombKind r.kind, fin, s.advanceRev.book.rev⟩
  have hframe : sameBut [.ring, .records] s.advanceRev ((s.advanceRev.writeTombstone
      ⟨s.recHandle i, tombKind r.kind, fin, s.advanceRev.book.rev⟩).setPool (Pool.free s.book.pool i)) :=
    sameBut_trans (sameBut_mono (by decide) (writeTombstone_sameBut _ _)) (sameBut_mono (by decide) (setPool_sameBut _ _))
  have hcounted := countFinish_sameBut ((s.advanceRev.writeTombstone
    ⟨s.recHandle i, tombKind r.kind, fin, s.advanceRev.book.rev⟩).setPool (Pool.free s.book.pool i))
    (s.finishFacts i r fin a)
  obtain ⟨hr1, hr2⟩ : (s.finishRec i r fin a).book.ring = _ ∧ (s.finishRec i r fin a).book.wrapped = _ :=
    hcounted .ring (by decide)
  have husage := roomUsage_of_sameBut hframe (by decide)
  have hchronic := chronicState_of_sameBut hframe (by decide)
  simp only [husage, hchronic] at hcount
  obtain ⟨hc1, hc2, hc3⟩ := hcount
  refine ⟨?_, fun j hj => ?_, ?_, hr1.trans hring, hr2.trans hwrapped, hc1, hc2, hc3⟩
  · rw [hpool, Pool.entry_free, if_pos rfl]
  · rw [hpool, Pool.entry_free, if_neg hj]
  · exact ((rev_of_sameBut hcounted (by decide)).trans (rev_of_sameBut hframe (by decide)))

/-! ### A finish with its notices and its order -/

theorem finishFully_of_noOrder {s : State} {i : Nat} {r : Rec} {fin : FinState} {a : Actor}
    (notify : Facts → State → State) (b : Bool) (ho : r.order = none) :
    s.finishFully i r fin a notify b = notify (s.finishFacts i r fin a) (s.finishRec i r fin a) := by
  have hf : (s.finishFacts i r fin a).order = none := ho
  unfold State.finishFully State.followFinish
  dsimp only
  rw [hf]

theorem finishFully_rev_of_noOrder {s : State} {i : Nat} {r : Rec} {fin : FinState} {a : Actor} :
    (s.finishRec i r fin a).book.rev = satAdd 4294967295 s.book.rev 1 := (finished_finishRec s i r fin a).2.2.1

/-- The finish of a record without an order, with what follows in its room (R30, R31). -/
theorem finish_spec {s : State} {i : Nat} {r : Rec} {fin : FinState} {a : Actor} {notify : Facts → State → State}
    (hn : ∀ f t, sameBut noticeParts t (notify f t)) (b : Bool) (ho : r.order = none) :
    finished s ((s.finishFully i r fin a notify b).roomChanged r.room) i r fin a ∧
    roomFollows s ((s.finishFully i r fin a notify b).roomChanged r.room) r.room ∧
    ((s.finishFully i r fin a notify b).roomChanged r.room).ports =
      (notify (s.finishFacts i r fin a) (s.finishRec i r fin a)).ports ∧
    sameBut finishParts s ((s.finishFully i r fin a notify b).roomChanged r.room) := by
  have hsame : sameBut (finishRecParts ++ noticeParts) s
      (notify (s.finishFacts i r fin a) (s.finishRec i r fin a)) :=
    sameBut_trans (sameBut_mono (by decide) (finishRec_sameBut s i r fin a)) (sameBut_mono (by decide) (hn _ _))
  rw [finishFully_of_noOrder notify b ho]
  have hroom := roomChanged_sameBut (notify (s.finishFacts i r fin a) (s.finishRec i r fin a)) r.room
  refine ⟨?_, roomFollows_roomChanged r.room hsame (by decide), roomChanged_ports _ _,
    sameBut_trans (sameBut_mono (by decide) hsame) (sameBut_mono (by decide) hroom)⟩
  exact ((finished_finishRec s i r fin a).sameBut (hn _ _) (by decide)).sameBut hroom (by decide)

/-- The ports after a notice that a finish raises (R31). -/
theorem finishRec_raise_ports (s : State) (i : Nat) (r : Rec) (fin : FinState) (a : Actor) (e : Raised) :
    ((s.finishRec i r fin a).raise e).ports = s.portsAfter (satAdd 4294967295 s.book.rev 1) e := by
  have h := finishRec_sameBut s i r fin a
  exact ports_raise (h .routes (by decide)) (h .clock (by decide)) (finished_finishRec s i r fin a).2.2.1
    (finishRec_ports s i r fin a) e

/-- The ports after a change of a record, as the statements write them (R55). -/
theorem raiseChanged_ports {s t : State} {rev : Nat} (hr : t.routes = s.routes) (hc : t.clock = s.clock)
    (hrev : t.book.rev = rev) (hp : t.ports = s.ports) (h : Handle) (o : Owner) (a : Actor) (c : Cause)
    (d : List Datum) : (t.raiseChanged h o a c d).ports = s.portsAfterChange rev h o a c d := by
  unfold State.raiseChanged State.portsAfterChange
  split
  · exact ports_raise hr hc hrev hp _
  · exact hp

/-! ### The order of a finished booking -/

theorem rev_freeOrder (s : State) (j : Nat) (fin : FinState) :
    (s.freeOrder j fin).book.rev = satAdd 4294967295 s.book.rev 1 := by
  unfold State.freeOrder
  exact writeTombstone_sameBut _ _ .revision (by decide)

theorem orders_freeOrder (s : State) (j : Nat) (fin : FinState) :
    (s.freeOrder j fin).plan.orders = Pool.free s.plan.orders j := rfl

theorem ring_freeOrder (s : State) (j : Nat) (fin : FinState) : (s.freeOrder j fin).book.ring.getLast? =
    some ⟨Pool.handle s.plan.orders j, .order, fin, satAdd 4294967295 s.book.rev 1⟩ := by
  have h := (writeTombstone_ring s.advanceRev
    ⟨Pool.handle s.plan.orders j, .order, fin, s.advanceRev.book.rev⟩).1
  unfold State.freeOrder
  dsimp only
  rw [State.setOrders_book, h, List.getLast?_concat]
  rfl

theorem loadEntry_congr {s t : State} (h : t.plan.load = s.plan.load) (k g : Nat) : t.loadEntry k g = s.loadEntry k g := by
  unfold State.loadEntry; rw [h]

/-- The withdrawal of an order (R156). -/
theorem withdrawOrder_spec (s : State) (j : Nat) (o : Order) (b : Bool) :
    Pool.entry (s.withdrawOrder j o b).plan.orders j = ⟨(Pool.entry s.plan.orders j).gen + 1, none⟩ ∧
    sameOtherOrders j s (s.withdrawOrder j o b) ∧
    (s.withdrawOrder j o b).book.rev = satAdd 4294967295 s.book.rev 1 ∧
    (s.withdrawOrder j o b).book.ring.getLast? =
      some ⟨Pool.handle s.plan.orders j, .order, .withdrawn, satAdd 4294967295 s.book.rev 1⟩ ∧
    ∀ k g, g < Config.windowCount →
      ((s.withdrawOrder j o b).loadEntry k g).load = (s.loadEntry k g).load - o.shareIn k g := by
  have hfree := removeLoad_sameBut (s.freeOrder j .withdrawn) o.kitchen o.shares
  have hload : ∀ k g, (s.freeOrder j .withdrawn).loadEntry k g = s.loadEntry k g :=
    loadEntry_congr (freeOrder_sameBut s j .withdrawn .load (by decide))
  have key : ∀ u, sameBut noticeParts ((s.freeOrder j .withdrawn).removeLoad o.kitchen o.shares) u →
      Pool.entry u.plan.orders j = ⟨(Pool.entry s.plan.orders j).gen + 1, none⟩ ∧ sameOtherOrders j s u ∧
      u.book.rev = satAdd 4294967295 s.book.rev 1 ∧
      u.book.ring.getLast? =
        some ⟨Pool.handle s.plan.orders j, .order, .withdrawn, satAdd 4294967295 s.book.rev 1⟩ ∧
      ∀ k g, g < Config.windowCount → (u.loadEntry k g).load = (s.loadEntry k g).load - o.shareIn k g := by
    intro u hu
    have horders : u.plan.orders = Pool.free s.plan.orders j :=
      (orders_of_sameBut hu (by decide)).trans (orders_of_sameBut hfree (by decide))
    have hring : u.book.ring = (s.freeOrder j .withdrawn).book.ring :=
      (hu .ring (by decide)).1.trans (hfree .ring (by decide)).1
    refine ⟨?_, fun i hi => ?_, ?_, ?_, fun k g hg => ?_⟩
    · rw [horders, Pool.entry_free, if_pos rfl]
    · rw [horders, Pool.entry_free, if_neg hi]
    · exact ((rev_of_sameBut hu (by decide)).trans (rev_of_sameBut hfree (by decide))).trans (rev_freeOrder s j _)
    · rw [hring, ring_freeOrder]
    · rw [loadEntry_congr (hu .load (by decide)), load_removeLoad _ _ hg, hload]
  unfold State.withdrawOrder
  dsimp only
  split
  · exact key _ (sameBut_refl _ _)
  · exact key _ (announceAllOver_sameBut _ _)

/-- The forfeit of an order (R156). -/
theorem forfeitOrder_spec (s : State) (j : Nat) (o : Order) (b : Bool) (c : Cause) (a : Actor) :
    (s.forfeitOrder j o b c a).order? j = some { o with
      state := .forfeit, deadline := none, booking := if b then none else o.booking
      rev := satAdd 4294967295 s.book.rev 1 } ∧
    sameOtherOrders j s (s.forfeitOrder j o b c a) ∧
    (s.forfeitOrder j o b c a).book.rev = satAdd 4294967295 s.book.rev 1 ∧
    (s.forfeitOrder j o b c a).ports = s.portsAfter (satAdd 4294967295 s.book.rev 1)
      { kind := .caterForfeit, subject := .order (Pool.handle s.plan.orders j), owner := some o.placing, hi := .cause c
        lo := .actor a, data := [.booking o.booking] } := by
  have h := raise_sameBut (s.changeOrder j { o with
    state := .forfeit, deadline := none, booking := if b then none else o.booking })
    { kind := .caterForfeit, subject := .order (Pool.handle s.plan.orders j), owner := some o.placing, hi := .cause c
      lo := .actor a, data := [.booking o.booking] }
  refine ⟨?_, fun i hi => ?_, rev_of_sameBut h (by decide),
    ports_raise (s := s) (t := s.changeOrder j { o with
      state := .forfeit, deadline := none, booking := if b then none else o.booking }) rfl rfl rfl rfl _⟩
  · exact (order?_of_sameBut h (by decide) j).trans ((order?_changeOrder s j j _).trans (if_pos rfl))
  · exact (congrArg (fun p => Pool.entry p i) (orders_of_sameBut h (by decide))).trans
      (changeOrder_sameOtherOrders s j _ i hi)

theorem unlinkOrder_spec (s : State) (j : Nat) (o : Order) :
    (s.unlinkOrder j o).order? j = some { o with booking := none, rev := satAdd 4294967295 s.book.rev 1 } ∧
    sameOtherOrders j s (s.unlinkOrder j o) :=
  ⟨(order?_changeOrder s j j _).trans (if_pos rfl), changeOrder_sameOtherOrders s j _⟩

theorem Pool.handle_of_named? {α : Type} {p : Pool α} {h : Handle} {x : α} (hn : Pool.named? p h = some x) :
    Pool.handle p h.index = h ∧ (Pool.entry p h.index).gen = h.gen ∧ Pool.item? p h.index = some x := by
  unfold Pool.named? at hn
  split at hn
  next hg => exact ⟨by unfold Pool.handle; rw [hg], hg, hn⟩
  next => cases hn

theorem orderFollowed_of_accepted {s u : State} {h : Handle} {o : Order} (hs : o.state = .accepted)
    (hrev : u.book.rev = satAdd 4294967295 s.book.rev 2) (hother : sameOtherOrders h.index s u)
    (hfreed : Pool.entry u.plan.orders h.index = ⟨(Pool.entry s.plan.orders h.index).gen + 1, none⟩)
    (hring : u.book.ring.getLast? = some ⟨h, .order, .withdrawn, satAdd 4294967295 s.book.rev 2⟩)
    (hload : ∀ k g, g < Config.windowCount → (u.loadEntry k g).load = (s.loadEntry k g).load - o.shareIn k g) :
    orderFollowed s u h o :=
  ⟨hrev, hother, fun _ => ⟨hfreed, hring, hload⟩, fun hc => by simp [hs] at hc, fun hc => by simp [hs] at hc⟩

theorem orderFollowed_of_forfeit {s u : State} {h : Handle} {o : Order} (hs : o.state = .preparing ∨ o.state = .dispatched)
    (hrev : u.book.rev = satAdd 4294967295 s.book.rev 2) (hother : sameOtherOrders h.index s u)
    (horder : u.order? h.index = some { o with state := .forfeit, deadline := none, booking := none
                                               rev := satAdd 4294967295 s.book.rev 2 })
    (hload : Part.agree s u .load) : orderFollowed s u h o :=
  ⟨hrev, hother, fun hc => by simp [hc] at hs, fun _ => ⟨horder, hload⟩,
    fun hc => by rcases hs with hs | hs <;> simp [hs] at hc⟩

theorem orderFollowed_of_unlinked {s u : State} {h : Handle} {o : Order} (hs : o.state = .delivered ∨ o.state = .forfeit)
    (hrev : u.book.rev = satAdd 4294967295 s.book.rev 2) (hother : sameOtherOrders h.index s u)
    (horder : u.order? h.index = some { o with booking := none, rev := satAdd 4294967295 s.book.rev 2 })
    (hload : Part.agree s u .load) : orderFollowed s u h o :=
  ⟨hrev, hother, fun hc => by simp [hc] at hs, fun hc => by rcases hs with hs | hs <;> simp [hs] at hc,
    fun _ => ⟨horder, hload⟩⟩

/-- What holds between the finish of a booking and what its order does: one revision advance, the orders and the load as
they were. -/
structure FinishStep (s t : State) : Prop where
  orders : t.plan.orders = s.plan.orders
  load : t.plan.load = s.plan.load
  next : satAdd 4294967295 t.book.rev 1 = satAdd 4294967295 s.book.rev 2

theorem FinishStep.others {s t u : State} {j : Nat} (h : FinishStep s t) (k : sameOtherOrders j t u) :
    sameOtherOrders j s u := fun i hi => by rw [k i hi, h.orders]

theorem orderFollowed_withdrawOrder {s t : State} {h : Handle} {o : Order} (hstep : FinishStep s t)
    (hn : Pool.named? s.plan.orders h = some o) (hs : o.state = .accepted) :
    orderFollowed s (t.withdrawOrder h.index o false) h o := by
  obtain ⟨h1, h2, h3, h4, h5⟩ := withdrawOrder_spec t h.index o false
  obtain ⟨hhandle, -, -⟩ := Pool.handle_of_named? hn
  refine orderFollowed_of_accepted hs (h3.trans hstep.next) (hstep.others h2) ?_ ?_ (fun k g hg => ?_)
  · rw [h1, hstep.orders]
  · rw [h4, hstep.orders, hhandle, hstep.next]
  · rw [h5 k g hg, loadEntry_congr hstep.load]

theorem orderFollowed_forfeitOrder {s t : State} {h : Handle} {o : Order} (hstep : FinishStep s t)
    (hs : o.state = .preparing ∨ o.state = .dispatched) (c : Cause) (a : Actor) :
    orderFollowed s (t.forfeitOrder h.index o true c a) h o := by
  obtain ⟨h1, h2, h3, -⟩ := forfeitOrder_spec t h.index o true c a
  have hload : (t.forfeitOrder h.index o true c a).plan.load = t.plan.load := raise_sameBut _ _ .load (by decide)
  refine orderFollowed_of_forfeit hs (h3.trans hstep.next) (hstep.others h2) ?_ (hload.trans hstep.load)
  rw [h1, hstep.next]
  rfl

theorem orderFollowed_unlinkOrder {s t : State} {h : Handle} {o : Order} (hstep : FinishStep s t)
    (hs : o.state = .delivered ∨ o.state = .forfeit) : orderFollowed s (t.unlinkOrder h.index o) h o := by
  obtain ⟨h1, h2⟩ := unlinkOrder_spec t h.index o
  refine orderFollowed_of_unlinked hs hstep.next (hstep.others h2) ?_ hstep.load
  rw [h1, hstep.next]

/-- How an order follows the finish of its booking (R164), `t` being the state after the finish itself. -/
theorem orderFollowed_followFinish {s t : State} {f : Facts} {h : Handle} {o : Order} (hf : f.order = some h)
    (hn : Pool.named? s.plan.orders h = some o) (hstep : FinishStep s t) :
    orderFollowed s (t.followFinish f false) h o := by
  unfold State.followFinish
  rw [hf]
  dsimp only
  rw [hstep.orders, hn]
  dsimp only
  cases hs : o.state with
  | accepted => exact orderFollowed_withdrawOrder hstep hn hs
  | preparing => exact orderFollowed_forfeitOrder hstep (.inl hs) _ _
  | dispatched => exact orderFollowed_forfeitOrder hstep (.inr hs) _ _
  | delivered => exact orderFollowed_unlinkOrder hstep (.inl hs)
  | forfeit => exact orderFollowed_unlinkOrder hstep (.inr hs)

theorem orderFollowed.sameBut {l : List Part} {s t u : State} {h : Handle} {o : Order} (hf : orderFollowed s t h o)
    (k : sameBut l t u) (hl : ∀ x ∈ [Part.orders, .load, .ring, .revision], x ∉ l) : orderFollowed s u h o := by
  obtain ⟨h1, h2, h3, h4, h5⟩ := hf
  have horders := orders_of_sameBut k (hl _ (by decide))
  have hload : u.plan.load = t.plan.load := k .load (hl _ (by decide))
  have hring : u.book.ring = t.book.ring := (k .ring (hl _ (by decide))).1
  have horder := order?_of_sameBut k (hl _ (by decide)) h.index
  refine ⟨(rev_of_sameBut k (hl _ (by decide))).trans h1, fun j hj => by rw [horders]; exact h2 j hj, fun hs => ?_,
    fun hs => ⟨horder.trans (h4 hs).1, hload.trans (h4 hs).2⟩, fun hs => ⟨horder.trans (h5 hs).1, hload.trans (h5 hs).2⟩⟩
  obtain ⟨a, b, c⟩ := h3 hs
  exact ⟨by rw [horders]; exact a, by rw [hring]; exact b, fun k g hg => by rw [loadEntry_congr hload]; exact c k g hg⟩

/-- The finish of a booking with an order, with what follows in its room (R30, R31, R164). -/
theorem finish_order_spec {s : State} {i : Nat} {r : Rec} {fin : FinState} {a : Actor} {notify : Facts → State → State}
    {h : Handle} {o : Order} (hn : ∀ f t, sameBut noticeParts t (notify f t)) (hr : r.order = some h)
    (ho : Pool.named? s.plan.orders h = some o) :
    Pool.entry ((s.finishFully i r fin a notify false).roomChanged r.room).book.pool i =
      ⟨(Pool.entry s.book.pool i).gen + 1, none⟩ ∧
    sameOtherRecords i s ((s.finishFully i r fin a notify false).roomChanged r.room) ∧
    orderFollowed s ((s.finishFully i r fin a notify false).roomChanged r.room) h o ∧
    roomFollows s ((s.finishFully i r fin a notify false).roomChanged r.room) r.room ∧
    sameBut (finishParts ++ orderParts) s ((s.finishFully i r fin a notify false).roomChanged r.room) := by
  have hsame : sameBut (finishRecParts ++ noticeParts) s
      (notify (s.finishFacts i r fin a) (s.finishRec i r fin a)) :=
    sameBut_trans (sameBut_mono (by decide) (finishRec_sameBut s i r fin a)) (sameBut_mono (by decide) (hn _ _))
  have hrev : (notify (s.finishFacts i r fin a) (s.finishRec i r fin a)).book.rev = satAdd 4294967295 s.book.rev 1 :=
    (rev_of_sameBut (hn _ _) (by decide)).trans (finished_finishRec s i r fin a).2.2.1
  have hfollow := followFinish_sameBut (notify (s.finishFacts i r fin a) (s.finishRec i r fin a))
    (s.finishFacts i r fin a) false
  have hroom := roomChanged_sameBut (s.finishFully i r fin a notify false) r.room
  have hpool : ((s.finishFully i r fin a notify false).roomChanged r.room).book.pool = Pool.free s.book.pool i :=
    (pool_of_sameBut hroom (by decide)).trans ((pool_of_sameBut hfollow (by decide)).trans
      ((pool_of_sameBut (hn _ _) (by decide)).trans (finishRec_pool s i r fin a)))
  have hall : sameBut (finishRecParts ++ noticeParts ++ orderParts) s (s.finishFully i r fin a notify false) :=
    sameBut_trans (sameBut_mono (by decide) hsame) (sameBut_mono (by decide) hfollow)
  refine ⟨?_, fun j hj => ?_, ?_, roomFollows_roomChanged r.room hall (by decide),
    sameBut_trans (sameBut_mono (by decide) hall) (sameBut_mono (by decide) hroom)⟩
  · rw [hpool, Pool.entry_free, if_pos rfl]
  · rw [hpool, Pool.entry_free, if_neg hj]
  · have hstep : FinishStep s (notify (s.finishFacts i r fin a) (s.finishRec i r fin a)) :=
      ⟨orders_of_sameBut hsame (by decide), hsame .load (by decide), by rw [hrev, satAdd_satAdd]⟩
    exact (orderFollowed_followFinish (f := s.finishFacts i r fin a) hr ho hstep).sameBut hroom (by decide)

end Sys2Proof.Machine
end

section
/-! SUPPORT. The settling of the statements about the finishes of records: by a deadline, by a command, by the vacancy
timer, with an order and without one. -/

namespace Sys2Proof.Machine

/-! ### Deadlines that have fallen due -/

theorem State.dueRec_of_due {s : State} {i : Nat} {r : Rec} (hr : s.rec? i = some r) (hd : r.deadline.due = true) :
    s.dueRec i r.deadline.kind = some r := by
  unfold State.dueRec
  rw [hr]
  simp [Option.filter, hd]

theorem State.dueRec_of_kind {s : State} {i : Nat} {r : Rec} {k : DeadlineKind} (hr : s.rec? i = some r)
    (hd : r.deadline.due = true) (hk : r.deadline.kind = k) : s.dueRec i k = some r := hk ▸ State.dueRec_of_due hr hd

theorem State.graceReleases_iff (s : State) (room : Nat) : s.graceReleases room = true ↔ (s.room room).unitId = none ∨
    ∃ l, s.location room = some l ∧ (s.position l.chain l.pos).presence = .linked := by
  have hlinked : (s.linkedPosition? room).isSome = true ↔
      ∃ l, s.location room = some l ∧ (s.position l.chain l.pos).presence = .linked := by
    unfold State.linkedPosition?
    cases s.location room with
    | none => simp
    | some l => by_cases h : (s.position l.chain l.pos).presence = .linked <;> simp [h]
  unfold State.graceReleases
  rw [Bool.or_eq_true, hlinked, Option.isNone_iff_eq_none]

/-- The notices a finish by the clock raises (R31). -/
def clockNotice (fin : FinState) : Facts → State → State :=
  if fin = .expired then notifyHoldExpired else if fin = .released then notifyNoShow else noNotice

theorem clockNotice_sameBut (fin : FinState) (f : Facts) (t : State) : sameBut noticeParts t (clockNotice fin f t) := by
  unfold clockNotice
  split
  · exact raise_sameBut t _
  · split
    · exact raise_sameBut t _
    · exact sameBut_refl _ t

/-- A deadline row whose deadline has fallen due is a finish by the clock (R27 to R29, R82). -/
theorem exec_of_clockFinish {s : State} {i : Nat} {r : Rec} {c : Instr} {fin : FinState} (hr : s.rec? i = some r)
    (hd : r.deadline.due = true) (hc : clockFinish s i r c fin) :
    exec c s = .next (s.finishByClock i r fin (clockNotice fin)) := by
  rcases hc with ⟨rfl, hk, rfl⟩ | ⟨rfl, hk, hrel, rfl⟩ | ⟨rfl, hk, rfl⟩ | ⟨rfl, hk, rfl⟩
  · change Host.Outcome.next (s.takeHoldEnd i) = _
    unfold State.takeHoldEnd
    rw [State.dueRec_of_kind hr hd hk]
    rfl
  · change Host.Outcome.next (s.takeGraceEnd i) = _
    unfold State.takeGraceEnd
    rw [State.dueRec_of_kind hr hd hk]
    dsimp only
    rw [if_pos hrel]
    rfl
  · change Host.Outcome.next (s.takeUnverifiedEnd i) = _
    unfold State.takeUnverifiedEnd
    rw [State.dueRec_of_kind hr hd hk]
    rfl
  · change Host.Outcome.next (s.takeEnd i) = _
    unfold State.takeEnd
    rw [State.dueRec_of_kind hr hd hk]
    dsimp only
    have hn : clockNotice (if r.kind = .block then .removed else .ended) = noNotice := by
      split <;> rfl
    rw [hn]

/-- Settles O26. -/
theorem deadlinesThatFinish : Obligations.DeadlinesThatFinish := by
  unfold Obligations.DeadlinesThatFinish
  refine ⟨State.graceReleases_iff, fun s i r c fin hr hd ho hc => ?_⟩
  obtain ⟨h1, h2, h3, h4⟩ := finish_spec (s := s) (i := i) (fin := fin) (a := .clock) (clockNotice_sameBut fin) false ho
  refine ⟨_, exec_of_clockFinish hr hd hc, h1, h2, h3.trans ?_, h4⟩
  unfold clockNotice
  split
  · exact finishRec_raise_ports s i r fin .clock _
  · split
    · exact finishRec_raise_ports s i r fin .clock _
    · exact finishRec_ports s i r fin .clock

/-! ### Expiry and auto-end -/

theorem State.takeExpiry_of_due {s : State} {w : Nat} {e : WaitEntry} (he : s.waitEntry? w = some e) (hd : e.due = true) :
    s.takeExpiry w = (s.freeEntry w .expired).raise
      { kind := .waitExpired, subject := .wait (Pool.handle s.wait.pool w), owner := some e.requester,
        hi := .cause .expired, tag := some e.tag } := by
  unfold State.takeExpiry
  rw [he]
  simp [Option.filter, hd]

/-- What freeing a waitlist entry leaves (R62, R63). -/
theorem freeEntry_spec (s : State) (w : Nat) (f : Fate) :
    Pool.entry (s.freeEntry w f).wait.pool w = ⟨(Pool.entry s.wait.pool w).gen + 1, none⟩ ∧
    sameOtherEntries w s (s.freeEntry w f) ∧
    (s.freeEntry w f).wait.order = s.wait.order.filter (fun v => !(v == w)) ∧
    Table.read none (s.freeEntry w f).wait.fates w = some ⟨(Pool.entry s.wait.pool w).gen, f⟩ ∧
    ∀ v, v ≠ w → Table.read none (s.freeEntry w f).wait.fates v = Table.read none s.wait.fates v := by
  have hfates : (s.freeEntry w f).wait.fates =
    Table.write none s.wait.fates w (some ⟨(Pool.entry s.wait.pool w).gen, f⟩) := rfl
  refine ⟨(Pool.entry_free _ _ _).trans (if_pos rfl), fun v hv => (Pool.entry_free _ _ _).trans (if_neg hv), ?_,
    by rw [hfates, Table.read_write_same], fun v hv => by rw [hfates, Table.read_write_other _ _ _ _ _ hv]⟩
  exact List.filter_congr (fun v _ => by by_cases h : v = w <;> simp [h])

theorem notifyEarlyEnd_sameBut (reason changed : Cause) (f : Facts) (t : State) :
    sameBut noticeParts t (notifyEarlyEnd reason changed f t) :=
  sameBut_trans (raise_sameBut t _) (raiseChanged_sameBut _ _ _ _ _ _)

theorem notifyChanged_sameBut (a : Actor) (k : Cause) (f : Facts) (t : State) :
    sameBut noticeParts t (notifyChanged a k f t) := raiseChanged_sameBut t _ _ _ _ _

/-- The ports after the notices of an early end (R86). -/
theorem earlyEnd_ports (s : State) (i : Nat) (r : Rec) (reason changed : Cause) :
    (notifyEarlyEnd reason changed (s.finishFacts i r .ended .panel) (s.finishRec i r .ended .panel)).ports =
      State.portsAfterChange { s with ports := (s.portsAfter (satAdd 4294967295 s.book.rev 1)
          { kind := .earlyEnd, subject := .booking (s.recHandle i), owner := ownerPort r.owner, hi := .cause reason
            data := [factsDatum r .ended] }) }
        (satAdd 4294967295 s.book.rev 1) (s.recHandle i) r.owner .panel changed [factsDatum r .ended] := by
  have hfin := finishRec_sameBut s i r .ended .panel
  have hraise := raise_sameBut (s.finishRec i r .ended .panel)
    { kind := .earlyEnd, subject := .booking (s.recHandle i), owner := ownerPort r.owner, hi := .cause reason
      data := [factsDatum r .ended] }
  have hroutes : ∀ {u : State}, sameBut noticeParts (s.finishRec i r .ended .panel) u → u.routes = s.routes :=
    fun hu => Eq.trans (hu .routes (by decide)) (hfin .routes (by decide))
  have hclock : ∀ {u : State}, sameBut noticeParts (s.finishRec i r .ended .panel) u → u.clock = s.clock :=
    fun hu => Eq.trans (hu .clock (by decide)) (hfin .clock (by decide))
  exact raiseChanged_ports (s := { s with ports := (s.portsAfter (satAdd 4294967295 s.book.rev 1)
    { kind := .earlyEnd, subject := .booking (s.recHandle i), owner := ownerPort r.owner, hi := .cause reason
      data := [factsDatum r .ended] }) }) (hroutes hraise) (hclock hraise)
    ((rev_of_sameBut hraise (by decide)).trans (finished_finishRec s i r .ended .panel).2.2.1)
    (finishRec_raise_ports s i r .ended .panel _) _ _ _ _ _

theorem State.takeAutoEnd_of_full {s : State} {room : Nat} {h : Handle} {r : Rec} (hv : 20 ≤ (s.vacancy room).minutes)
    (hs : (s.vacancy room).subject = some h) (hr : Pool.named? s.book.pool h = some r) :
    s.takeAutoEnd room = s.earlyEnd h.index r .autoEnd .autoEnd := by
  unfold State.takeAutoEnd
  rw [if_neg (by omega), hs]
  dsimp only
  rw [hr]

/-- Settles O29. -/
theorem expiryAndAutoEnd : Obligations.ExpiryAndAutoEnd := by
  unfold Obligations.ExpiryAndAutoEnd
  refine ⟨fun s w e he hd => ?_, fun s room h r n hv hs hr ho hn => ?_⟩
  · obtain ⟨h1, h2, h3, h4, h5⟩ := freeEntry_spec s w .expired
    have hraise := raise_sameBut (s.freeEntry w .expired)
      { kind := .waitExpired, subject := .wait (Pool.handle s.wait.pool w), owner := some e.requester,
        hi := .cause .expired, tag := some e.tag }
    have hwait : ((s.freeEntry w .expired).raise
      { kind := .waitExpired, subject := .wait (Pool.handle s.wait.pool w), owner := some e.requester,
        hi := .cause .expired, tag := some e.tag }).wait = (s.freeEntry w .expired).wait := hraise .waitlist (by decide)
    refine ⟨_, congrArg Host.Outcome.next (State.takeExpiry_of_due he hd), ?_, fun v hv => ?_, ?_, ?_, fun v hv => ?_,
      ports_raise (s := s) (t := s.freeEntry w .expired) rfl rfl rfl rfl _,
      sameBut_trans (sameBut_mono (by decide) (freeEntry_sameBut s w .expired)) (sameBut_mono (by decide) hraise)⟩
    · rw [hwait]; exact h1
    · rw [hwait]; exact h2 v hv
    · rw [hwait]; exact h3
    · rw [hwait]; exact h4
    · rw [hwait]; exact h5 v hv
  · obtain ⟨hhandle, -, -⟩ := Pool.handle_of_named? hr
    have hshort : s.shortened r = n := hn.symm
    have hno : n.order = none := by rw [hn]; exact ho
    have hroom : n.room = r.room := by rw [hn]
    have howner : n.owner = r.owner := by rw [hn]
    obtain ⟨h1, h2, h3, h4⟩ := finish_spec (s := s) (i := h.index) (fin := .ended) (a := .panel)
      (notifyEarlyEnd_sameBut .autoEnd .autoEnd) false hno
    rw [hroom] at h1 h2 h3 h4
    refine ⟨_, congrArg Host.Outcome.next ((State.takeAutoEnd_of_full hv hs hr).trans ?_), h1, h2, h3.trans ?_, h4⟩
    · unfold State.earlyEnd
      rw [hshort]
    · rw [earlyEnd_ports, show s.recHandle h.index = h from hhandle, howner]

/-! ### CANCEL and UNBLOCK -/

theorem withRecord_of_named {s : State} {h : Handle} {k : RecKind} {r : Rec} (go : Rec → State × Reply)
    (hn : Pool.named? s.book.pool h = some r) (hk : r.kind = k) : s.withRecord h k r.rev go = go r := by
  unfold State.withRecord
  rw [hn]
  dsimp only
  rw [if_neg (not_not.mpr hk), if_neg (not_not.mpr rfl)]

theorem runCancel_of_named {s : State} {p : Port} {h : Handle} {r : Rec} (hc : s.changeCheck p .sched = none)
    (hi : h.index ≤ 2047) (hn : Pool.named? s.book.pool h = some r) (hk : r.kind = .booking) :
    runCancel p h r.rev s = accept (s.finishByPort p h.index r .cancelled .cancel) (.revision s.advanceRev.book.rev) := by
  have hout : bookIndexOut h = false := decide_eq_false (by omega)
  unfold runCancel
  rw [hc, hout]
  exact withRecord_of_named _ hn hk

theorem runUnblock_of_named {s : State} {p : Port} {h : Handle} {r : Rec} (hc : s.changeCheck p .facil = none)
    (hi : h.index ≤ 2047) (hn : Pool.named? s.book.pool h = some r) (hk : r.kind = .block) :
    runUnblock p h r.rev s = accept (s.finishByPort p h.index r .removed .unblock) (.revision s.advanceRev.book.rev) := by
  have hout : bookIndexOut h = false := decide_eq_false (by omega)
  unfold runUnblock
  rw [hc, hout]
  exact withRecord_of_named _ hn hk

theorem finishByPort_ports (s : State) (p : Port) (i : Nat) (r : Rec) (fin : FinState) (k : Cause) :
    (notifyChanged (.port p) k (s.finishFacts i r fin (.port p)) (s.finishRec i r fin (.port p))).ports =
      s.portsAfterChange (satAdd 4294967295 s.book.rev 1) (s.recHandle i) r.owner (.port p) k [factsDatum r fin] := by
  have h := finishRec_sameBut s i r fin (.port p)
  exact raiseChanged_ports (h .routes (by decide)) (h .clock (by decide)) (finished_finishRec s i r fin (.port p)).2.2.1
    (finishRec_ports s i r fin _) _ _ _ _ _

/-- The finish of a named record without an order on a port's command (R52, R54, R55). -/
theorem finishByPort_spec {s : State} {h : Handle} {r : Rec} (p : Port) (fin : FinState) (k : Cause)
    (hn : Pool.named? s.book.pool h = some r) (ho : r.order = none) :
    ∃ u, s.finishByPort p h.index r fin k = u.promotionScan ∧ finished s u h.index r fin (.port p) ∧
      roomFollows s u r.room ∧
      u.ports = s.portsAfterChange (satAdd 4294967295 s.book.rev 1) h r.owner (.port p) k [factsDatum r fin] ∧
      sameBut finishParts s u := by
  obtain ⟨hhandle, -, -⟩ := Pool.handle_of_named? hn
  obtain ⟨h1, h2, h3, h4⟩ := finish_spec (s := s) (i := h.index) (fin := fin) (a := .port p)
    (notifyChanged_sameBut (.port p) k) false ho
  refine ⟨_, rfl, h1, h2, h3.trans ?_, h4⟩
  rw [finishByPort_ports, show s.recHandle h.index = h from hhandle]

/-- Settles O35. -/
theorem cancelAndUnblock : Obligations.CancelAndUnblock := by
  unfold Obligations.CancelAndUnblock
  refine ⟨fun p tag h r s hready hi hn hk ho => ?_, fun p tag h r s hready hi hn hk ho => ?_⟩
  · obtain ⟨u, hu, h1, h2, h3, h4⟩ := finishByPort_spec (s := s.taking p tag (.cancel h r.rev)) p .cancelled .cancel hn ho
    refine ⟨u, ?_, h1, h2, h3, h4⟩
    rw [← hu]
    exact exec_of_run rfl hready.1 (runCancel_of_named (changeCheck_of_ready hready rfl rfl) hi hn hk)
  · obtain ⟨u, hu, h1, h2, h3, h4⟩ := finishByPort_spec (s := s.taking p tag (.unblock h r.rev)) p .removed .unblock hn ho
    refine ⟨u, ?_, h1, h2, h3, h4⟩
    rw [← hu]
    exact exec_of_run rfl hready.1 (runUnblock_of_named (changeCheck_of_ready hready rfl rfl) hi hn hk)

end Sys2Proof.Machine
end

section
/-! SUPPORT. The settling of the statements about the order of a finished booking and the forced close of a room. -/

namespace Sys2Proof.Machine

/-! ### A room before and after its openness is set -/

theorem roomFollows_from {l : List Part} {s s' u : State} {room : Nat} (h : roomFollows s u room) (k : sameBut l s' s)
    (hl : ∀ x ∈ displayParts, x ∉ l) : roomFollows s' u room := by
  obtain ⟨hd, ⟨ht1, ht2⟩, ho⟩ := h
  have hv := vacancy_of_sameBut k (hl _ (by decide)) room
  refine ⟨hd.from (State.shownAlike_of_sameBut k room (fun x hx => hl x (by revert x; decide))), ⟨ht1, ?_⟩,
    sameOtherRooms_trans (sameOtherRooms_of_sameBut room k (hl _ (by decide)) (hl _ (by decide)) (hl _ (by decide))) ho⟩
  rw [← hv]; exact ht2

/-! ### The entries of a room -/

theorem Table.pairwise_of_rising {α : Type} {t : Table α} {lo : Option Nat} (h : Table.rising lo t = true) :
    t.Pairwise (fun e f => e.1 < f.1) := by
  induction t generalizing lo with
  | nil => exact List.Pairwise.nil
  | cons e t ih =>
    obtain ⟨j, v⟩ := e
    simp only [Table.rising, Bool.and_eq_true] at h
    exact List.pairwise_cons.mpr ⟨fun f hf => Table.rising_lower h.2 f hf, ih h.2⟩

theorem Pool.live_nodup {α : Type} [DecidableEq α] {p : Pool α} (h : Table.wf PoolEntry.fresh p = true) :
    ((Pool.live p).map Prod.fst).Nodup := by
  have hlt : (Pool.live p).Pairwise (fun e f => e.1 < f.1) := by
    unfold Pool.live
    rw [List.pairwise_filterMap]
    refine (Table.pairwise_of_rising ((Table.wf_iff _ _).mp h).1).imp ?_
    intro e f hef x hx y hy
    obtain ⟨a, -, rfl⟩ := Option.map_eq_some_iff.mp hx
    obtain ⟨b, -, rfl⟩ := Option.map_eq_some_iff.mp hy
    exact hef
  exact List.pairwise_map.mpr (hlt.imp (fun h => Nat.ne_of_lt h))

theorem State.dayList_nodup {s : State} (h : Table.wf PoolEntry.fresh s.book.pool = true) (room plane : Nat) :
    (s.dayList room plane).Nodup :=
  (sortByPad_perm _).nodup_iff.mpr ((List.Nodup.of_map _ (Pool.live_nodup h)).filter _)

theorem State.roomRecs_nodup {s : State} (h : Table.wf PoolEntry.fresh s.book.pool = true) (room : Nat) :
    ((s.roomRecs room).map Prod.fst).Nodup := by
  have hnd : (s.roomRecs room).Nodup := by
    unfold State.roomRecs
    rw [List.nodup_flatMap]
    refine ⟨fun k _ => State.dayList_nodup h room k, List.nodup_range.imp (fun {j k} hjk => ?_)⟩
    intro e he hf
    exact hjk ((State.mem_dayList.mp he).2.2.symm.trans (State.mem_dayList.mp hf).2.2)
  refine List.Nodup.map_on (fun e he f hf hef => ?_) hnd
  have hle := Pool.item?_of_mem_live h (State.mem_roomRecs.mp he).1
  have hlf := Pool.item?_of_mem_live h (State.mem_roomRecs.mp hf).1
  rw [hef] at hle
  exact Prod.ext hef (Option.some.inj (hle.symm.trans hlf))

/-! ### The records of a room finished one by one -/

/-- The finishing state a forced close gives a record (R7). -/
def forcedFin (r : Rec) : FinState := if r.kind = .block then .removed else .cancelled

theorem forceFinish_of_live {s : State} {p : Port} {i : Nat} {r : Rec} (h : s.rec? i = some r) :
    State.forceFinish p s i =
      s.finishFully i r (forcedFin r) (.port p) (notifyChanged (.port p) .closeRoomForce) false := by
  unfold State.forceFinish
  rw [h]
  rfl

/-- The tombstones of a room's records finished in order from a state (R7, R35). -/
def forcedTombs (s : State) (l : List (Nat × Rec)) : List Tombstone :=
  l.zipIdx.map (fun e => ⟨s.recHandle e.1.1, tombKind e.1.2.kind, forcedFin e.1.2,
    satAdd 4294967295 s.book.rev (e.2 + 1)⟩)

/-- What the forced close of a room's records does, one after another (R7, R31). -/
structure ForcedFrom (s u : State) (l : List (Nat × Rec)) : Prop where
  freed : ∀ e, e ∈ l → Pool.entry u.book.pool e.1 = ⟨(Pool.entry s.book.pool e.1).gen + 1, none⟩
  kept : ∀ i, i ∉ l.map Prod.fst → Pool.entry u.book.pool i = Pool.entry s.book.pool i
  rev : u.book.rev = if l.length = 0 then s.book.rev else satAdd 4294967295 s.book.rev l.length
  ring : u.book.ring = (s.book.ring ++ forcedTombs s l).drop (s.book.ring.length + l.length - 256)
  same : sameBut (finishRecParts ++ noticeParts) s u

theorem drop_drop_append {α : Type} (l m : List α) {a : Nat} (b : Nat) (h : a ≤ l.length) :
    ((l.drop a) ++ m).drop b = (l ++ m).drop (a + b) := by
  rw [← List.drop_append_of_le_length h, List.drop_drop]

theorem forcedTombs_cons {s t : State} {i : Nat} {r : Rec} {l : List (Nat × Rec)}
    (hrev : t.book.rev = satAdd 4294967295 s.book.rev 1) (hl : ∀ e, e ∈ l → t.recHandle e.1 = s.recHandle e.1) :
    forcedTombs s ((i, r) :: l) =
      ⟨s.recHandle i, tombKind r.kind, forcedFin r, satAdd 4294967295 s.book.rev 1⟩ :: forcedTombs t l := by
  unfold forcedTombs
  rw [List.zipIdx_cons, List.map_cons, List.zipIdx_succ, List.map_map]
  congr 1
  refine List.map_congr_left (fun e he => ?_)
  obtain ⟨x, n⟩ := e
  have hx : x ∈ l := List.fst_mem_of_mem_zipIdx he
  change Tombstone.mk (s.recHandle x.1) _ _ (satAdd 4294967295 s.book.rev (n + 1 + 1)) = _
  rw [hl x hx, hrev, satAdd_satAdd, Nat.add_comm 1 (n + 1)]

/-- The ring after one more tombstone (R35). -/
theorem ring_append_drop {α : Type} {l : List α} (x : α) (h : l.length ≤ 256) :
    (if l.length < 256 then l else l.tail) ++ [x] = (l ++ [x]).drop (l.length + 1 - 256) := by
  split
  next hlt => rw [show l.length + 1 - 256 = 0 by omega, List.drop_zero]
  next hge =>
    have hne : l ≠ [] := fun h0 => by rw [h0] at hge; exact hge (by simp)
    rw [show l.length + 1 - 256 = 1 by omega, List.drop_one, List.tail_append_of_ne_nil hne]

theorem forcedFrom_foldl (p : Port) (l : List (Nat × Rec)) :
    ∀ s : State, (l.map Prod.fst).Nodup → (∀ e, e ∈ l → s.rec? e.1 = some e.2 ∧ e.2.order = none) →
      s.book.ring.length ≤ 256 → ForcedFrom s ((l.map Prod.fst).foldl (State.forceFinish p) s) l := by
  induction l with
  | nil =>
    intro s _ _ hring
    have hdrop : s.book.ring = (s.book.ring ++ forcedTombs s []).drop (s.book.ring.length + 0 - 256) := by
      rw [show s.book.ring.length + 0 - 256 = 0 by omega]
      exact (List.append_nil _).symm
    exact ⟨(fun e he => by cases he), fun _ _ => rfl, rfl, hdrop, sameBut_refl _ s⟩
  | cons e l ih =>
    intro s hnd hrecs hring
    obtain ⟨i, r⟩ := e
    obtain ⟨hi, hnd⟩ := List.nodup_cons.mp hnd
    obtain ⟨hr, hno⟩ := hrecs (i, r) List.mem_cons_self
    have hstep : State.forceFinish p s i = notifyChanged (.port p) .closeRoomForce
        (s.finishFacts i r (forcedFin r) (.port p)) (s.finishRec i r (forcedFin r) (.port p)) := by
      rw [forceFinish_of_live hr, finishFully_of_noOrder _ _ hno]
    have hnotice := notifyChanged_sameBut (.port p) .closeRoomForce (s.finishFacts i r (forcedFin r) (.port p))
      (s.finishRec i r (forcedFin r) (.port p))
    have hsame : sameBut (finishRecParts ++ noticeParts) s (State.forceFinish p s i) := by
      rw [hstep]
      exact sameBut_trans (sameBut_mono (by decide) (finishRec_sameBut s i r _ _)) (sameBut_mono (by decide) hnotice)
    have hfin : finished s (State.forceFinish p s i) i r (forcedFin r) (.port p) := by
      rw [hstep]
      exact (finished_finishRec s i r _ _).sameBut hnotice (by decide)
    have hrec : ∀ j, (State.forceFinish p s i).rec? j = if j = i then none else s.rec? j := by
      intro j
      rw [hstep, rec?_of_sameBut hnotice (by decide), rec?_finishRec]
    rw [List.map_cons, List.foldl_cons]
    generalize State.forceFinish p s i = t at hsame hfin hrec ⊢
    obtain ⟨hfreed, hothers, hrev, htring, -⟩ := hfin
    rw [ring_append_drop _ hring] at htring
    have hne : ∀ x, x ∈ l → x.1 ≠ i := fun x hx h => hi (List.mem_map.mpr ⟨x, hx, h⟩)
    have hlen : t.book.ring.length ≤ 256 := by
      rw [htring, List.length_drop, List.length_append]
      simp only [List.length_singleton]
      omega
    have hu := ih t hnd (fun x hx => ⟨by rw [hrec, if_neg (hne x hx)]; exact (hrecs x (List.mem_cons_of_mem _ hx)).1,
      (hrecs x (List.mem_cons_of_mem _ hx)).2⟩) hlen
    generalize (l.map Prod.fst).foldl (State.forceFinish p) t = u at hu
    refine ⟨fun x hx => ?freed, fun j hj => ?kept, ?rev, ?ring, sameBut_trans hsame hu.same⟩
    case freed =>
      rcases List.mem_cons.mp hx with rfl | hx
      · rw [hu.kept i hi]; exact hfreed
      · rw [hu.freed x hx, hothers x.1 (hne x hx)]
    case kept =>
      obtain ⟨hji, hjl⟩ := List.ne_and_not_mem_of_not_mem_cons hj
      rw [hu.kept j hjl, hothers j hji]
    case rev =>
      rw [if_neg (by rw [List.length_cons]; omega), List.length_cons, hu.rev, hrev]
      split
      next h0 => rw [h0]
      next => rw [satAdd_satAdd, Nat.add_comm]
    case ring =>
      have hhandles : ∀ x, x ∈ l → t.recHandle x.1 = s.recHandle x.1 := fun x hx => by
        unfold State.recHandle Pool.handle
        rw [hothers x.1 (hne x hx)]
      rw [hu.ring, htring, drop_drop_append _ _ _ (by rw [List.length_append, List.length_singleton]; omega),
        List.length_drop, List.length_append, List.length_singleton, forcedTombs_cons hrev hhandles, List.append_assoc,
        List.singleton_append]
      have hdrop : s.book.ring.length + 1 - 256 + (s.book.ring.length + 1 - (s.book.ring.length + 1 - 256) + l.length - 256) =
        s.book.ring.length + ((i, r) :: l).length - 256 := by
        rw [List.length_cons]; omega
      rw [hdrop]

/-- Settles O19. -/
theorem forcedCloseFinishesRecords : Obligations.ForcedCloseFinishesRecords := by
  unfold Obligations.ForcedCloseFinishesRecords
  intro p tag room s hready hroom hw hrecs hring
  have hm := mayIssue_of_ready (r := .facil) tag hready (fun _ => rfl)
  have hrun := (runCloseRoomForce_of_role (room := room) hm).trans (if_neg (by rw [roomOut_eq_false hroom]; decide))
  refine ⟨fun hnil => ?_, fun hne hexh => ?_⟩
  · have hnil' : (s.taking p tag (.closeRoomForce room)).roomRecs room = [] := hnil
    rw [hnil', if_pos (by rfl)] at hrun
    obtain ⟨h1, h2, h3, h4, h5⟩ := setRoomOpen_spec (s.taking p tag (.closeRoomForce room)) room false
    exact ⟨_, exec_of_run rfl hready.1 hrun, h1, h3, h2, h4, h5⟩
  · have hroomRecs : (s.taking p tag (.closeRoomForce room)).roomRecs room = s.roomRecs room := rfl
    have hexh' : (s.taking p tag (.closeRoomForce room)).exhausted = false := hexh
    have hempty : ((s.roomRecs room).map Prod.fst).isEmpty = false := by simpa using hne
    rw [hroomRecs, hempty, if_neg (by decide), hexh', if_neg (by decide), List.length_map] at hrun
    have hlive : ∀ e, e ∈ s.roomRecs room → s.rec? e.1 = some e.2 := fun e he =>
      Pool.item?_of_mem_live hw (State.mem_roomRecs.mp he).1
    have hclosed := setRoom_isOpen_sameBut (s.taking p tag (.closeRoomForce room)) room false
    have hsettings := settings_setRoom_isOpen (s.taking p tag (.closeRoomForce room)) room (b := false)
    have hforced := forcedFrom_foldl p (s.roomRecs room)
      ((s.taking p tag (.closeRoomForce room)).setRoom room
        { (s.taking p tag (.closeRoomForce room)).room room with isOpen := false })
      (State.roomRecs_nodup hw room)
      (fun e he => ⟨hlive e he, (hrecs e.1 e.2 (hlive e he) (State.mem_roomRecs.mp he).2.1).1⟩) hring
    unfold State.forceClose at hrun
    generalize hfold : ((s.roomRecs room).map Prod.fst).foldl (State.forceFinish p)
      ((s.taking p tag (.closeRoomForce room)).setRoom room
        { (s.taking p tag (.closeRoomForce room)).room room with isOpen := false }) = v at hforced hrun
    have hchanged := roomChanged_sameBut v room
    have hpool : (v.roomChanged room).book.pool = v.book.pool := pool_of_sameBut hchanged (by decide)
    refine ⟨v.roomChanged room, exec_of_run rfl hready.1 hrun, ?settings, fun q hq => ?others, fun i r hr hir => ?freed,
      fun i hi => ?kept, ?rev, ?ring, ?follows, ?frame⟩
    case settings =>
      rw [settings_of_sameBut hchanged (by decide), settings_of_sameBut hforced.same (by decide), hsettings, if_pos rfl]
      rfl
    case others =>
      rw [settings_of_sameBut hchanged (by decide), settings_of_sameBut hforced.same (by decide), hsettings, if_neg hq]
      rfl
    case freed =>
      have hmem : (i, r) ∈ s.roomRecs room :=
        State.mem_roomRecs.mpr ⟨State.mem_liveRecs_of_rec? hr, hir, Nat.lt_succ_of_le (hrecs i r hr hir).2⟩
      rw [hpool]
      exact hforced.freed _ hmem
    case kept =>
      rw [hpool]
      refine hforced.kept i (fun hmem => ?_)
      obtain ⟨e, he, rfl⟩ := List.mem_map.mp hmem
      exact hi e.2 (hlive e he) (State.mem_roomRecs.mp he).2.1
    case rev =>
      have hlen : (s.roomRecs room).length ≠ 0 := fun h => hne (List.length_eq_zero_iff.mp h)
      rw [rev_of_sameBut hchanged (by decide), hforced.rev, if_neg hlen]
      rfl
    case ring => exact (hchanged .ring (by decide)).1.trans hforced.ring
    case follows =>
      exact roomFollows_from (s' := s.taking p tag (.closeRoomForce room))
        (roomFollows_roomChanged room hforced.same (by decide)) hclosed (by decide)
    case frame =>
      exact sameBut_trans (sameBut_trans (sameBut_mono (by decide) hclosed) (sameBut_mono (by decide) hforced.same))
        (sameBut_mono (by decide) hchanged)

/-! ### The order of a finished booking -/

/-- What `finish_order_spec` gives, in one place (R30, R31, R164). -/
structure FinishedWithOrder (s u : State) (i room : Nat) (k : Handle) (o : Order) : Prop where
  freed : Pool.entry u.book.pool i = ⟨(Pool.entry s.book.pool i).gen + 1, none⟩
  others : sameOtherRecords i s u
  order : orderFollowed s u k o
  room : roomFollows s u room
  same : sameBut (finishParts ++ orderParts) s u

theorem finishedWithOrder_of_finish {s : State} {i : Nat} {r : Rec} {fin : FinState} {a : Actor}
    {notify : Facts → State → State} {h : Handle} {o : Order} (hn : ∀ f t, sameBut noticeParts t (notify f t))
    (hr : r.order = some h) (ho : Pool.named? s.plan.orders h = some o) :
    FinishedWithOrder s ((s.finishFully i r fin a notify false).roomChanged r.room) i r.room h o := by
  obtain ⟨h1, h2, h3, h4, h5⟩ := finish_order_spec (i := i) (fin := fin) (a := a) hn hr ho
  exact ⟨h1, h2, h3, h4, h5⟩

/-- A forced close of a room with one record that has an order (R7, R164). -/
theorem forceClose_one {s : State} {p : Port} {room i : Nat} {r : Rec} {k : Handle} {o : Order}
    (hr : s.rec? i = some r) (hroom : r.room = room) (hk : r.order = some k)
    (ho : Pool.named? s.plan.orders k = some o) :
    ∃ u, s.forceClose p room [i] = u.promotionScan ∧
      (u.room room).settings = { (s.room room).settings with isOpen := false } ∧
      Pool.entry u.book.pool i = ⟨(Pool.entry s.book.pool i).gen + 1, none⟩ ∧ sameOtherRecords i s u ∧
      orderFollowed s u k o ∧ roomFollows s u room ∧ sameBut (finishParts ++ orderParts ++ [.rooms]) s u := by
  have hclosed := setRoom_isOpen_sameBut s room false
  have hlive : (s.setRoom room { s.room room with isOpen := false }).rec? i = some r := hr
  have hspec := finishedWithOrder_of_finish (s := s.setRoom room { s.room room with isOpen := false }) (i := i)
    (fin := forcedFin r) (a := .port p) (notifyChanged_sameBut (.port p) .closeRoomForce) hk ho
  unfold State.forceClose
  rw [List.foldl_cons, List.foldl_nil, forceFinish_of_live hlive]
  subst hroom
  refine ⟨_, rfl, ?_, hspec.freed, hspec.others, hspec.order, roomFollows_from hspec.room hclosed (by decide),
    sameBut_trans (sameBut_mono (by decide) hclosed) (sameBut_mono (by decide) hspec.same)⟩
  rw [settings_of_sameBut hspec.same (by decide), settings_setRoom_isOpen, if_pos rfl]

/-- Settles O27. -/
theorem orderFollowsFinish : Obligations.OrderFollowsFinish := by
  unfold Obligations.OrderFollowsFinish
  refine ⟨fun s i r c fin h o hr hd hc hk ho => ?deadline, fun p tag h k r o s hready hi hn hkind hk ho => ?cancel,
    fun p tag room i k r o s hready hroom hexh hw hone hk ho => ?force, fun s room i r k o hcov hk ho => ?endNow,
    fun s room h k r o hv hs hn hk ho => ?autoEnd⟩
  case deadline =>
    obtain ⟨h1, h2, h3, h4, h5⟩ := finishedWithOrder_of_finish (s := s) (i := i) (fin := fin) (a := .clock)
      (clockNotice_sameBut fin) hk ho
    exact ⟨_, exec_of_clockFinish hr hd hc, h1, h2, h3, h4, h5⟩
  case cancel =>
    obtain ⟨hhandle, hgen, -⟩ := Pool.handle_of_named? hn
    obtain ⟨h1, h2, h3, h4, h5⟩ := finishedWithOrder_of_finish (s := s.taking p tag (.cancel h r.rev)) (i := h.index)
      (fin := .cancelled) (a := .port p) (notifyChanged_sameBut (.port p) .cancel) hk ho
    refine ⟨_, exec_of_run rfl hready.1 (runCancel_of_named (changeCheck_of_ready hready rfl rfl) hi hn hkind), ?_, h2,
      h3, h4, h5⟩
    rw [← hgen]; exact h1
  case force =>
    have hm := mayIssue_of_ready (r := .facil) tag hready (fun _ => rfl)
    have hrun := (runCloseRoomForce_of_role (room := room) hm).trans (if_neg (by rw [roomOut_eq_false hroom]; decide))
    have hone' : (s.taking p tag (.closeRoomForce room)).roomRecs room = [(i, r)] := hone
    have hexh' : (s.taking p tag (.closeRoomForce room)).exhausted = false := hexh
    rw [hone', List.map_singleton, if_neg (by rw [List.isEmpty_cons]; decide), hexh', if_neg (by decide)] at hrun
    have hmem : (i, r) ∈ s.roomRecs room := by rw [hone]; exact List.mem_singleton_self _
    obtain ⟨hlive, hrroom, -⟩ := State.mem_roomRecs.mp hmem
    obtain ⟨u, hu, h⟩ := forceClose_one (s := s.taking p tag (.closeRoomForce room)) (p := p)
      (Pool.item?_of_mem_live hw hlive) hrroom hk ho
    rw [hu] at hrun
    exact ⟨u, exec_of_run rfl hready.1 hrun, h⟩
  case endNow =>
    have hroom : r.room = room := by
      have := List.find?_some hcov
      simp only [Bool.and_eq_true, decide_eq_true_eq] at this
      exact this.1.1.1.1
    obtain ⟨h1, h2, h3, h4, h5⟩ := finishedWithOrder_of_finish (s := s) (i := i) (r := s.shortened r) (fin := .ended)
      (a := .panel) (notifyEarlyEnd_sameBut .key .endNow) hk ho
    subst hroom
    refine ⟨_, ?_, h1, h2, h3, h4, h5⟩
    change s.endNowKey r.room = _
    unfold State.endNowKey
    rw [hcov]
    rfl
  case autoEnd =>
    obtain ⟨hhandle, hgen, -⟩ := Pool.handle_of_named? hn
    obtain ⟨h1, h2, h3, h4, h5⟩ := finishedWithOrder_of_finish (s := s) (i := h.index) (r := s.shortened r) (fin := .ended)
      (a := .panel) (notifyEarlyEnd_sameBut .autoEnd .autoEnd) hk ho
    refine ⟨_, congrArg Host.Outcome.next (State.takeAutoEnd_of_full hv hs hn), ?_, h2, h3, h4, h5⟩
    rw [← hgen]; exact h1

end Sys2Proof.Machine
end

section
/-! SUPPORT. What a change of a record or an order leaves, with its notices and its room, and the settling of the statement
about the deadlines of orders. -/

namespace Sys2Proof.Machine

/-! ### A change of a record and what follows -/

/-- What holds once a record is changed, its notices are raised and its room has followed (R32, R55, R92, R123). -/
structure RecordChanged (s u : State) (i : Nat) (n : Rec) (room : Nat) : Prop where
  record : u.rec? i = some { n with rev := satAdd 4294967295 s.book.rev 1 }
  handle : u.recHandle i = s.recHandle i
  others : sameOtherRecords i s u
  rev : u.book.rev = satAdd 4294967295 s.book.rev 1
  room : roomFollows s u room

theorem recHandle_changeRec (s : State) (i j : Nat) (r : Rec) : (s.changeRec i r).recHandle j = s.recHandle j := by
  unfold State.recHandle Pool.handle
  rw [entry_changeRec]
  split
  next h => rw [h]
  next => rfl

theorem not_mem_of_subset {l m : List Part} (hlm : l ⊆ m) {x : Part} (hx : x ∉ m) : x ∉ l := fun h => hx (hlm h)

theorem recordChanged_roomChanged {l : List Part} {s v : State} {i : Nat} {n : Rec} (room : Nat)
    (hv : sameBut l (s.changeRec i n) v) (hl : l ⊆ noticeParts) :
    RecordChanged s (v.roomChanged room) i n room ∧ (v.roomChanged room).ports = v.ports ∧
    sameBut ([.records, .revision] ++ displayParts ++ l) s (v.roomChanged room) := by
  have hroom := roomChanged_sameBut v room
  have hsame : sameBut ([.records, .revision] ++ l) s v :=
    sameBut_trans (sameBut_mono (by simp) (changeRec_sameBut s i n)) (sameBut_mono (by simp) hv)
  have hparts : ∀ x ∈ displayParts, x ∉ [Part.records, .revision] ++ l := by
    intro x hx
    exact not_mem_of_subset (m := [.records, .revision] ++ noticeParts)
      (List.append_subset.mpr ⟨by simp, fun y hy => List.mem_append_right _ (hl hy)⟩) (by revert x; decide)
  have hpool : (v.roomChanged room).book.pool = (s.changeRec i n).book.pool :=
    (pool_of_sameBut hroom (by decide)).trans (pool_of_sameBut hv (not_mem_of_subset hl (by decide)))
  refine ⟨⟨?_, ?_, fun j hj => ?_, ?_, roomFollows_roomChanged room hsame hparts⟩, roomChanged_ports v room, ?_⟩
  · unfold State.rec?
    rw [hpool]
    exact (rec?_changeRec s i i n).trans (if_pos rfl)
  · unfold State.recHandle
    rw [hpool]
    exact recHandle_changeRec s i i n
  · rw [hpool]
    exact changeRec_sameOtherRecords s i n j hj
  · exact (rev_of_sameBut hroom (by decide)).trans (rev_of_sameBut hv (not_mem_of_subset hl (by decide)))
  · refine sameBut_trans (sameBut_mono ?_ hsame) (sameBut_mono ?_ hroom)
    · intro x hx
      rcases List.mem_append.mp hx with hx | hx
      · exact List.mem_append_left _ (List.mem_append_left _ hx)
      · exact List.mem_append_right _ hx
    · exact fun x hx => List.mem_append_left _ (List.mem_append_right _ hx)

/-! ### A change of an order and what follows -/

/-- What holds once an order is changed (R32). -/
structure OrderChanged (s u : State) (j : Nat) (n : Order) : Prop where
  order : u.order? j = some { n with rev := satAdd 4294967295 s.book.rev 1 }
  others : sameOtherOrders j s u
  rev : u.book.rev = satAdd 4294967295 s.book.rev 1

theorem orderChanged_changeOrder (s : State) (j : Nat) (n : Order) : OrderChanged s (s.changeOrder j n) j n :=
  ⟨(order?_changeOrder s j j n).trans (if_pos rfl), changeOrder_sameOtherOrders s j n, rfl⟩

theorem OrderChanged.after {l : List Part} {s t u : State} {j : Nat} {n : Order} (h : OrderChanged s t j n)
    (k : sameBut l t u) (hl : ∀ x ∈ [Part.orders, .revision], x ∉ l) : OrderChanged s u j n :=
  ⟨(order?_of_sameBut k (hl _ (by decide)) j).trans h.order,
    fun i hi => (congrArg (fun p => Pool.entry p i) (orders_of_sameBut k (hl _ (by decide)))).trans (h.others i hi),
    (rev_of_sameBut k (hl _ (by decide))).trans h.rev⟩

/-- A change of an order with its notice and the display of a room (R123, R156). -/
theorem orderChanged_raise_recompute (s : State) (j : Nat) (n : Order) (e : Raised) (room : Nat) :
    OrderChanged s (((s.changeOrder j n).raise e).recompute room) j n ∧
    displayFollows s (((s.changeOrder j n).raise e).recompute room) room ∧
    sameOtherRooms room s (((s.changeOrder j n).raise e).recompute room) ∧
    (((s.changeOrder j n).raise e).recompute room).ports = s.portsAfter (satAdd 4294967295 s.book.rev 1) e ∧
    sameBut ([.orders, .revision, .displayRevs, .displays] ++ noticeParts) s
      (((s.changeOrder j n).raise e).recompute room) := by
  have h1 := changeOrder_sameBut s j n
  have h2 := raise_sameBut (s.changeOrder j n) e
  have h3 := recompute_sameBut ((s.changeOrder j n).raise e) room
  have h12 : sameBut ([.orders, .revision] ++ noticeParts) s ((s.changeOrder j n).raise e) :=
    sameBut_trans (sameBut_mono (by decide) h1) (sameBut_mono (by decide) h2)
  refine ⟨((orderChanged_changeOrder s j n).after h2 (by decide)).after h3 (by decide),
    displayFollows_recompute (State.shownAlike_of_sameBut h12 room (by decide)),
    sameOtherRooms_trans (sameOtherRooms_of_sameBut room h12 (by decide) (by decide) (by decide))
      (recompute_sameOtherRooms _ room),
    (recompute_ports _ _).trans (ports_raise (s := s) (t := s.changeOrder j n) rfl rfl rfl rfl e),
    sameBut_trans (sameBut_mono (by decide) h12) (sameBut_mono (by decide) h3)⟩

/-! ### Kitchens with no OVER window -/

/-- No entry of the load table is marked OVER. -/
def State.NoneOver (s : State) : Prop := ∀ e, e ∈ s.plan.load → e.2.isOver = false

theorem State.overWindows_eq_nil {s : State} (h : s.NoneOver) (k : Nat) : s.overWindows k = [] := by
  unfold State.overWindows
  rw [List.map_eq_nil_iff, List.filter_eq_nil_iff]
  intro e he
  rw [h e he, Bool.false_and, Bool.false_and]
  decide

theorem State.noneOver_of_overWindows {s : State} (h : ∀ k, s.overWindows k = []) : s.NoneOver := by
  intro e he
  have hk := h (e.1 / Config.windowCount)
  unfold State.overWindows at hk
  rw [List.map_eq_nil_iff, List.filter_eq_nil_iff] at hk
  have hlo : e.1 / Config.windowCount * Config.windowCount ≤ e.1 := Nat.div_mul_le_self _ _
  have hhi : e.1 < (e.1 / Config.windowCount + 1) * Config.windowCount := by
    rw [Nat.mul_comm]; exact Nat.lt_mul_div_succ e.1 (by decide)
  have := hk e he
  rw [decide_eq_true hlo, decide_eq_true hhi, Bool.and_true, Bool.and_true] at this
  exact Bool.eq_false_iff.mpr this

theorem State.isOver_of_noneOver {s : State} (h : s.NoneOver) (k g : Nat) : (s.loadEntry k g).isOver = false :=
  Table.read_of_all (P := fun v : LoadEntry => v.isOver = false) rfl h _

theorem noneOver_setLoadEntry {s : State} (h : s.NoneOver) {k g : Nat} {v : LoadEntry} (hv : v.isOver = false) :
    (s.setLoadEntry k g v).NoneOver := by
  intro e he
  change e ∈ Table.write LoadEntry.cold s.plan.load (k * Config.windowCount + g) v at he
  unfold Table.write at he
  split at he
  · exact h e (Table.mem_unlist he)
  · rcases Table.mem_put he with rfl | he
    · exact hv
    · exact h e he

theorem noneOver_subFold (l : List (Int × Nat)) (k : Nat) :
    ∀ s : State, s.NoneOver → (l.foldl (State.subShare k) s).NoneOver := by
  induction l with
  | nil => exact fun s h => h
  | cons w l ih =>
    refine fun s h => ih _ ?_
    unfold State.subShare
    split
    · exact noneOver_setLoadEntry h (State.isOver_of_noneOver h _ _)
    · exact h

/-- Bringing into line windows that stand within their limit marks none OVER (R149). -/
theorem noneOver_alignFold (l : List Nat) (k : Nat) : ∀ s : State, s.NoneOver →
    (∀ g, g ∈ l → (s.loadEntry k g).load ≤ s.limit k g) → (l.foldl (State.alignOver k) s).NoneOver := by
  induction l with
  | nil => exact fun s h _ => h
  | cons g l ih =>
    intro s h hle
    have hone := noneOver_setLoadEntry (s := s) (k := k) (g := g)
      (v := { s.loadEntry k g with isOver := decide (s.limit k g < (s.loadEntry k g).load) }) h
      (decide_eq_false (Nat.not_lt.mpr (hle g List.mem_cons_self)))
    refine ih _ hone (fun x hx => ?_)
    rw [limit_of_loadOnly (alignOver_sameBut k s g), show ((State.alignOver k s g).loadEntry k x).load =
      (s.loadEntry k x).load from load_alignFold [g] s k k x]
    exact hle x (List.mem_cons_of_mem _ hx)

/-- With no window OVER, a window whose load fell stands within its limit (R149). -/
theorem noneOver_alignFallen {s t : State} (hover : s.overOk) (hs : s.NoneOver) (ht : t.NoneOver)
    (hlim : t.limit = s.limit) (k : Nat) (ws : List (Int × Nat)) : (t.alignFallen s k ws).NoneOver := by
  refine noneOver_alignFold _ k t ht (fun g hg => ?_)
  obtain ⟨w, hw, rfl⟩ := List.mem_map.mp hg
  obtain ⟨-, hw⟩ := List.mem_filter.mp hw
  rw [Bool.and_eq_true, decide_eq_true_eq] at hw
  have hbefore : (s.loadEntry k w.1.toNat).load ≤ s.limit k w.1.toNat := by
    by_contra hgt
    have := hover k w.1.toNat (toNat_of_inTable hw.1).1 (by omega)
    rw [State.isOver_of_noneOver hs] at this
    cases this
  rw [hlim]
  omega

theorem noneOver_removeLoad {s : State} (hover : s.overOk) (hs : s.NoneOver) (k : Nat) (ws : List (Int × Nat)) :
    (s.removeLoad k ws).NoneOver :=
  noneOver_alignFallen hover hs (noneOver_subFold ws k s hs)
    (limit_of_loadOnly (sameBut_foldl (subShare_sameBut k) ws s)) k ws

theorem announceAllOver_of_noneOver {s b : State} (hs : s.NoneOver) (hb : b.NoneOver) :
    s.announceAllOver b.overBefore = s := by
  have hone : ∀ k, State.announceOver b.overBefore s k = s := by
    intro k
    unfold State.announceOver State.overBefore
    rw [State.overWindows_eq_nil hs, State.overWindows_eq_nil hb]
    exact if_pos rfl
  unfold State.announceAllOver
  generalize List.range Config.kitchenCount = l
  induction l with
  | nil => rfl
  | cons k l ih => rw [List.foldl_cons, hone k]; exact ih

theorem noneOver_congr {s t : State} (h : t.plan.load = s.plan.load) (hs : s.NoneOver) : t.NoneOver := fun e he =>
  hs e (h ▸ he)

/-- With no window OVER a withdrawal raises no notice (R150, R156). -/
theorem withdrawOrder_ports {s : State} (hover : s.overOk) (hs : s.NoneOver) (j : Nat) (o : Order) :
    (s.withdrawOrder j o false).ports = s.ports := by
  have hfree := freeOrder_sameBut s j .withdrawn
  have hload : (s.freeOrder j .withdrawn).plan.load = s.plan.load := hfree .load (by decide)
  have hnone := noneOver_removeLoad (overOk_of_sameBut hfree (by decide) hover) (noneOver_congr hload hs) o.kitchen
    o.shares
  have hsame : s.withdrawOrder j o false = ((s.freeOrder j .withdrawn).removeLoad o.kitchen o.shares).announceAllOver
    s.overBefore := rfl
  rw [hsame, announceAllOver_of_noneOver hnone hs, removeLoad_ports, freeOrder_ports]

/-! ### The deadlines of an order -/

theorem State.dueOrder_of_due {s : State} {j : Nat} {o : Order} {k : OrderDeadlineKind} {m : Int}
    (ho : s.order? j = some o) (hd : o.deadline = some ⟨k, m, true⟩) : s.dueOrder j k = some o := by
  unfold State.dueOrder
  rw [ho]
  simp [Option.filter, hd]

theorem State.takeCutoff_of_due {s : State} {j : Nat} {o : Order} {m : Int} {h : Handle} {b : Rec}
    (ho : s.order? j = some o) (hd : o.deadline = some ⟨.cutoff, m, true⟩) (hb : o.booking = some h)
    (hn : Pool.named? s.book.pool h = some b) : s.takeCutoff j =
      if b.state = .held then
        (((s.withdrawOrder j o false).changeRec h.index (caterLostRec b)).raise
          { kind := .caterLost, subject := .booking h, owner := ownerPort b.owner, hi := .cause .cutoff,
            data := [.order (Pool.handle s.plan.orders j)] }).recompute b.room
      else
        ((s.changeOrder j { o with state := .preparing, deadline := some ⟨.dispatch, o.dispatch, false⟩ }).raise
          { kind := .cutoff, subject := .order (Pool.handle s.plan.orders j), owner := some o.placing,
            data := [.kitchen o.kitchen, .count o.covers, .minute o.dispatch] }).recompute b.room := by
  have hbind : o.booking.bind (fun h => (Pool.named? s.book.pool h).map (fun b => (h, b))) = some (h, b) := by
    rw [hb, Option.bind_some, hn]
    rfl
  unfold State.takeCutoff
  rw [State.dueOrder_of_due ho hd]
  dsimp only
  rw [hbind]

/-- A withdrawal, a change of the booking in a change of its own, and its notice (R156, R162, R165). -/
theorem withdrawn_changed_spec {s : State} {j i : Nat} {o : Order} (n : Rec) (e : Raised) (room : Nat) :
    Pool.entry ((((s.withdrawOrder j o false).changeRec i n).raise e).recompute room).plan.orders j =
      ⟨(Pool.entry s.plan.orders j).gen + 1, none⟩ ∧
    sameOtherOrders j s ((((s.withdrawOrder j o false).changeRec i n).raise e).recompute room) ∧
    ((((s.withdrawOrder j o false).changeRec i n).raise e).recompute room).book.ring.getLast? =
      some ⟨Pool.handle s.plan.orders j, .order, .withdrawn, satAdd 4294967295 s.book.rev 1⟩ ∧
    (∀ k g, g < Config.windowCount →
      (((((s.withdrawOrder j o false).changeRec i n).raise e).recompute room).loadEntry k g).load =
        (s.loadEntry k g).load - o.shareIn k g) ∧
    ((((s.withdrawOrder j o false).changeRec i n).raise e).recompute room).rec? i =
      some { n with rev := satAdd 4294967295 s.book.rev 2 } ∧
    sameOtherRecords i s ((((s.withdrawOrder j o false).changeRec i n).raise e).recompute room) ∧
    ((((s.withdrawOrder j o false).changeRec i n).raise e).recompute room).book.rev =
      satAdd 4294967295 s.book.rev 2 ∧
    displayFollows s ((((s.withdrawOrder j o false).changeRec i n).raise e).recompute room) room ∧
    sameOtherRooms room s ((((s.withdrawOrder j o false).changeRec i n).raise e).recompute room) ∧
    (s.overOk → (∀ k, s.overWindows k = []) →
      ((((s.withdrawOrder j o false).changeRec i n).raise e).recompute room).ports =
        s.portsAfter (satAdd 4294967295 s.book.rev 2) e) ∧
    sameBut (orderParts ++ [.records, .displayRevs, .displays]) s
      ((((s.withdrawOrder j o false).changeRec i n).raise e).recompute room) := by
  obtain ⟨w1, w2, w3, w4, w5⟩ := withdrawOrder_spec s j o false
  have hw := withdrawOrder_sameBut s j o false
  have hquiet := fun hover hs => withdrawOrder_ports (s := s) hover hs j o
  generalize s.withdrawOrder j o false = t at w1 w2 w3 w4 w5 hw hquiet
  have hc := changeRec_sameBut t i n
  have hr := raise_sameBut (t.changeRec i n) e
  have hd := recompute_sameBut ((t.changeRec i n).raise e) room
  have hcr : sameBut ([.records, .revision] ++ noticeParts) t ((t.changeRec i n).raise e) :=
    sameBut_trans (sameBut_mono (by decide) hc) (sameBut_mono (by decide) hr)
  have hall : sameBut ([.records, .revision, .displayRevs, .displays] ++ noticeParts) t
      (((t.changeRec i n).raise e).recompute room) :=
    sameBut_trans (sameBut_mono (by decide) hcr) (sameBut_mono (by decide) hd)
  have hbefore : sameBut (orderParts ++ [.records]) s ((t.changeRec i n).raise e) :=
    sameBut_trans (sameBut_mono (by decide) hw) (sameBut_mono (by decide) hcr)
  have horders := orders_of_sameBut hall (by decide)
  have hrev : satAdd 4294967295 t.book.rev 1 = satAdd 4294967295 s.book.rev 2 := by rw [w3, satAdd_satAdd]
  have hafter : sameBut ([.displayRevs, .displays] ++ noticeParts) (t.changeRec i n)
      (((t.changeRec i n).raise e).recompute room) :=
    sameBut_trans (sameBut_mono (by decide) hr) (sameBut_mono (by decide) hd)
  have hpool : (((t.changeRec i n).raise e).recompute room).book.pool = (t.changeRec i n).book.pool :=
    pool_of_sameBut hafter (by decide)
  have hpool0 : t.book.pool = s.book.pool := pool_of_sameBut hw (by decide)
  refine ⟨by rw [horders]; exact w1, fun x hx => by rw [horders]; exact w2 x hx, ?_, fun k g hg => ?_, ?_,
    fun x hx => ?_, ?_, displayFollows_recompute (State.shownAlike_of_sameBut hbefore room (by decide)),
    sameOtherRooms_trans (sameOtherRooms_of_sameBut room hbefore (by decide) (by decide) (by decide))
      (recompute_sameOtherRooms _ room), fun hover hnone => ?_,
    sameBut_trans (sameBut_mono (by decide) hbefore) (sameBut_mono (by decide) hd)⟩
  · exact (congrArg List.getLast? (hall .ring (by decide)).1).trans w4
  · rw [loadEntry_congr (hall .load (by decide))]; exact w5 k g hg
  · unfold State.rec?
    rw [hpool]
    exact ((rec?_changeRec t i i n).trans (if_pos rfl)).trans (by rw [← hrev]; rfl)
  · rw [hpool, changeRec_sameOtherRecords t i n x hx, hpool0]
  · exact (rev_of_sameBut hafter (by decide)).trans hrev
  · refine (recompute_ports _ _).trans (ports_raise (s := s) (t := t.changeRec i n) (hw .routes (by decide))
      (hw .clock (by decide)) hrev (hquiet hover (State.noneOver_of_overWindows hnone)) e)

theorem orderRoomChanged_of_named {t : State} {k : Option Handle} {h : Handle} {b : Rec} (hk : k = some h)
    (hn : Pool.named? t.book.pool h = some b) : t.orderRoomChanged k = t.recompute b.room := by
  subst hk
  unfold State.orderRoomChanged
  rw [Option.bind_some, hn]

/-- Settles O30. -/
theorem orderDeadlines : Obligations.OrderDeadlines := by
  unfold Obligations.OrderDeadlines
  refine ⟨fun s j o m h b ho hd hb hn hheld => ?held, fun s j o m h b ho hd hb hn hheld => ?preparing,
    fun s j o m h b ho hd hb hn => ?dispatched, fun s j o m ho hd => ?late⟩
  case held =>
    refine ⟨_, congrArg Host.Outcome.next ((State.takeCutoff_of_due ho hd hb hn).trans (if_pos hheld)), ?_⟩
    exact withdrawn_changed_spec (caterLostRec b) _ b.room
  case preparing =>
    obtain ⟨h1, h2, h3, h4, h5⟩ := orderChanged_raise_recompute s j
      { o with state := .preparing, deadline := some ⟨.dispatch, o.dispatch, false⟩ }
      { kind := .cutoff, subject := .order (Pool.handle s.plan.orders j), owner := some o.placing,
        data := [.kitchen o.kitchen, .count o.covers, .minute o.dispatch] } b.room
    exact ⟨_, congrArg Host.Outcome.next ((State.takeCutoff_of_due ho hd hb hn).trans (if_neg hheld)), h1.order,
      h1.others, h1.rev, h2, h3, h4, h5⟩
  case dispatched =>
    obtain ⟨h1, h2, h3, h4, h5⟩ := orderChanged_raise_recompute s j
      { o with state := .dispatched, deadline := some ⟨.late, o.delivery + 15, false⟩ }
      { kind := .dispatchDue, subject := .order (Pool.handle s.plan.orders j), owner := some o.placing,
        data := [.kitchen o.kitchen, .building (s.room b.room).building, .minute o.delivery] } b.room
    have hbuilding : s.orderBuilding o = (s.room b.room).building := by
      unfold State.orderBuilding
      rw [hb, Option.bind_some, hn]
    have htake : s.takeDispatch j = ((s.changeOrder j
        { o with state := .dispatched, deadline := some ⟨.late, o.delivery + 15, false⟩ }).raise
        { kind := .dispatchDue, subject := .order (Pool.handle s.plan.orders j), owner := some o.placing,
          data := [.kitchen o.kitchen, .building (s.room b.room).building, .minute o.delivery] }).recompute b.room := by
      have hpool : ∀ e, ((s.changeOrder j
          { o with state := .dispatched, deadline := some ⟨.late, o.delivery + 15, false⟩ }).raise e).book.pool =
          s.book.pool := fun e => by
        have hpool := pool_of_sameBut (raise_sameBut (s.changeOrder j
          { o with state := .dispatched, deadline := some ⟨.late, o.delivery + 15, false⟩ }) e) (by decide)
        exact hpool
      unfold State.takeDispatch
      rw [State.dueOrder_of_due ho hd]
      dsimp only
      rw [hbuilding]
      exact orderRoomChanged_of_named hb (by rw [hpool]; exact hn)
    exact ⟨_, congrArg Host.Outcome.next htake, h1.order, h1.others, h1.rev, h2, h3, h4, h5⟩
  case late =>
    have hraise := raise_sameBut (s.changeOrder j { o with lateSent := true, deadline := none })
      { kind := .deliveryLate, subject := .order (Pool.handle s.plan.orders j), owner := some o.placing,
        data := [.minute o.delivery, .booking o.booking] }
    have hchanged := (orderChanged_changeOrder s j { o with lateSent := true, deadline := none }).after hraise (by decide)
    have htake : s.takeLate j = (s.changeOrder j { o with lateSent := true, deadline := none }).raise
        { kind := .deliveryLate, subject := .order (Pool.handle s.plan.orders j), owner := some o.placing,
          data := [.minute o.delivery, .booking o.booking] } := by
      unfold State.takeLate
      rw [State.dueOrder_of_due ho hd]
    refine ⟨_, congrArg Host.Outcome.next htake, hchanged.order, hchanged.others, hchanged.rev,
      ports_raise (s := s) (t := s.changeOrder j { o with lateSent := true, deadline := none }) rfl rfl rfl rfl _,
      sameBut_trans (sameBut_mono (by decide) (changeOrder_sameBut s j _)) (sameBut_mono (by decide) hraise)⟩

end Sys2Proof.Machine
end

section
/-! SUPPORT. What a room's display is, and the settling of the statement about the deadlines that go on. -/

namespace Sys2Proof.Machine

/-! ### The display state -/

theorem State.mem_recsOf {s : State} {room : Nat} {e : Nat × Rec} :
    e ∈ s.recsOf room ↔ e ∈ s.liveRecs ∧ e.2.room = room := by
  unfold State.recsOf
  rw [List.mem_filter, decide_eq_true_eq]

theorem Rec.covers_iff (r : Rec) (slot : Nat) : r.covers slot = true ↔ r.start ≤ slot ∧ slot < r.stop := by
  unfold Rec.covers
  rw [Bool.and_eq_true, decide_eq_true_eq, decide_eq_true_eq]

theorem State.any_recsOf (s : State) (room : Nat) (f : Nat × Rec → Bool) :
    (s.recsOf room).any f = true ↔ ∃ i r, (i, r) ∈ s.liveRecs ∧ r.room = room ∧ f (i, r) = true := by
  simp only [List.any_eq_true, State.mem_recsOf, Prod.exists]
  constructor
  · rintro ⟨i, r, ⟨hl, hr⟩, hf⟩; exact ⟨i, r, hl, hr, hf⟩
  · rintro ⟨i, r, hl, hr, hf⟩; exact ⟨i, r, ⟨hl, hr⟩, hf⟩

/-- A block of the room covers the current slot (R121). -/
def State.blockedNow (s : State) (room : Nat) : Bool :=
  (s.recsOf room).any (fun e => e.2.kind = .block && e.2.plane = 0 && e.2.covers s.currentSlot)

/-- A booking of the room whose window is open (R121). -/
def State.checkinNow (s : State) (room : Nat) : Bool := (s.recsOf room).any (fun e => s.windowOpen e.2)

/-- A booking of the room starts within 15 minutes and has not ended (R121). -/
def State.soonNow (s : State) (room : Nat) : Bool :=
  (s.recsOf room).any (fun e => e.2.kind = .booking && decide (e.2.startMinute ≤ s.now + 15) &&
    decide (s.now < e.2.endMinute))

theorem State.displayState_eq (s : State) (room : Nat) : s.displayState room =
    if !s.serving || !(s.room room).isOpen then .closed
    else if s.blockedNow room then .blocked
    else if (s.coveringArrived room).isSome then .busy
    else if s.checkinNow room then .checkinDue
    else if s.soonNow room then .soon
    else .free := rfl

theorem State.blockedNow_iff (s : State) (room : Nat) : s.blockedNow room = true ↔ ∃ i r, (i, r) ∈ s.liveRecs ∧
    r.room = room ∧ r.kind = .block ∧ r.plane = 0 ∧ r.start ≤ s.currentSlot ∧ s.currentSlot < r.stop := by
  unfold State.blockedNow
  rw [State.any_recsOf]
  simp only [Bool.and_eq_true, decide_eq_true_eq, Rec.covers_iff, and_assoc]

theorem State.coveringArrived_isSome_iff (s : State) (room : Nat) : (s.coveringArrived room).isSome = true ↔
    ∃ i r, (i, r) ∈ s.liveRecs ∧ r.room = room ∧ r.kind = .booking ∧ r.state = .arrived ∧ r.plane = 0 ∧
      r.start ≤ s.currentSlot ∧ s.currentSlot < r.stop := by
  unfold State.coveringArrived
  simp only [List.find?_isSome, Bool.and_eq_true, decide_eq_true_eq, Rec.covers_iff, Prod.exists]
  refine exists_congr fun i => exists_congr fun r => ?_
  constructor
  · rintro ⟨hm, ⟨⟨⟨hr, hp⟩, hk⟩, hs⟩, hc⟩; exact ⟨hm, hr, hk, hs, hp, hc⟩
  · rintro ⟨hm, hr, hk, hs, hp, hc⟩; exact ⟨hm, ⟨⟨⟨hr, hp⟩, hk⟩, hs⟩, hc⟩

theorem State.checkinNow_iff (s : State) (room : Nat) : s.checkinNow room = true ↔ ∃ i r, (i, r) ∈ s.liveRecs ∧
    r.room = room ∧ r.kind = .booking ∧ r.state = .confirmed ∧ r.startMinute - 10 ≤ s.now := by
  unfold State.checkinNow State.windowOpen Rec.openingMinute
  rw [State.any_recsOf]
  simp only [Bool.and_eq_true, decide_eq_true_eq, and_assoc]

theorem State.soonNow_iff (s : State) (room : Nat) : s.soonNow room = true ↔ ∃ i r, (i, r) ∈ s.liveRecs ∧
    r.room = room ∧ r.kind = .booking ∧ r.startMinute ≤ s.now + 15 ∧ s.now < r.endMinute := by
  unfold State.soonNow
  rw [State.any_recsOf]
  simp only [Bool.and_eq_true, decide_eq_true_eq, and_assoc]

/-- The display state of an open room of a SERVING device: the first condition that holds (R121). -/
theorem State.displayState_of_open {s : State} {room : Nat} (hs : s.serving = true) (ho : (s.room room).isOpen = true) :
    s.displayState room = if s.blockedNow room then .blocked
      else if (s.coveringArrived room).isSome then .busy
      else if s.checkinNow room then .checkinDue
      else if s.soonNow room then .soon
      else .free := by
  rw [State.displayState_eq, hs, ho]
  rfl

theorem State.displayState_of_closed {s : State} {room : Nat} (ho : (s.room room).isOpen = false) :
    s.displayState room = .closed := by
  rw [State.displayState_eq, ho, Bool.not_false, Bool.or_true]
  rfl

theorem State.displayState_ne_closed {s : State} {room : Nat} (hs : s.serving = true) (ho : (s.room room).isOpen = true) :
    s.displayState room ≠ .closed := by
  rw [State.displayState_of_open hs ho]
  repeat' split
  all_goals exact fun h => by cases h

/-! ### The display content -/

theorem State.contentOf_of_closed {s : State} {room : Nat} (ho : (s.room room).isOpen = false) :
    s.contentOf room = ⟨.closed, none, none, .none⟩ := by
  unfold State.contentOf
  rw [if_pos (State.displayState_of_closed ho)]
  rfl

theorem State.contentOf_of_open {s : State} {room : Nat} (hs : s.serving = true) (ho : (s.room room).isOpen = true) :
    s.contentOf room =
      { state := s.displayState room
        current := (s.currentRec room).map (fun r => ⟨r.label, r.organizer, 5 * r.stop⟩)
        next := (s.nextRec room).map (fun r => ⟨r.plane, 5 * r.start, r.label⟩)
        badge := s.badge (s.currentRec room) (s.nextRec room) } := by
  unfold State.contentOf
  exact if_neg (State.displayState_ne_closed hs ho)

/-- A record of the room on plane 0 that covers the current slot (R122). -/
def State.isCurrent (s : State) (room : Nat) (e : Nat × Rec) : Prop :=
  e ∈ s.liveRecs ∧ e.2.room = room ∧ e.2.plane = 0 ∧ e.2.start ≤ s.currentSlot ∧ s.currentSlot < e.2.stop

/-- A record of the room on planes 0 and 1 that starts after now (R122). -/
def State.isUpcoming (s : State) (room : Nat) (e : Nat × Rec) : Prop :=
  e ∈ s.liveRecs ∧ e.2.room = room ∧ e.2.plane ≤ 1 ∧ s.now < e.2.startMinute

theorem State.currentRec_some {s : State} {room : Nat} {r : Rec} (h : s.currentRec room = some r) :
    ∃ i, s.isCurrent room (i, r) := by
  obtain ⟨e, he, rfl⟩ := Option.map_eq_some_iff.mp h
  have hm := State.mem_recsOf.mp (List.mem_of_find?_eq_some he)
  have hf := List.find?_some he
  rw [Bool.and_eq_true, decide_eq_true_eq, Rec.covers_iff] at hf
  exact ⟨e.1, hm.1, hm.2, hf.1, hf.2⟩

theorem State.currentRec_none {s : State} {room : Nat} (h : s.currentRec room = none) (e : Nat × Rec) :
    ¬ s.isCurrent room e := by
  rintro ⟨hm, hr, hp, hc⟩
  have hf := List.find?_eq_none.mp (Option.map_eq_none_iff.mp h) e (State.mem_recsOf.mpr ⟨hm, hr⟩)
  rw [Bool.and_eq_true, decide_eq_true_eq, Rec.covers_iff] at hf
  exact hf ⟨hp, hc⟩

theorem earliest_eq_none {l : List (Nat × Rec)} : earliest l = none ↔ l = [] := by
  cases l with
  | nil => exact ⟨fun _ => rfl, fun _ => rfl⟩
  | cons e l =>
    unfold earliest
    split <;> exact ⟨(fun h => nomatch h), (fun h => nomatch h)⟩

/-- The earliest of a list starts no later than any of it (R78, R122). -/
theorem earliest_le {l : List (Nat × Rec)} {e : Nat × Rec} (h : earliest l = some e) :
    ∀ f, f ∈ l → e.2.startMinute ≤ f.2.startMinute := by
  induction l generalizing e with
  | nil => cases h
  | cons x l ih =>
    intro f hf
    unfold earliest at h
    split at h
    next hnone =>
      cases h
      rw [earliest_eq_none] at hnone
      subst hnone
      rw [List.mem_singleton.mp hf]
    next g hg =>
      injection h with h
      unfold earlier at h
      split at h
      next hle =>
        subst h
        rcases List.mem_cons.mp hf with rfl | hf
        · exact Int.le_refl _
        · exact Int.le_trans hle (ih hg f hf)
      next hlt =>
        subst h
        rcases List.mem_cons.mp hf with rfl | hf
        · omega
        · exact ih hg f hf

theorem State.mem_upcoming {s : State} {room : Nat} {e : Nat × Rec} :
    e ∈ (s.recsOf room).filter (fun e => decide (e.2.plane ≤ 1) && decide (s.now < e.2.startMinute)) ↔
      s.isUpcoming room e := by
  rw [List.mem_filter, State.mem_recsOf, Bool.and_eq_true, decide_eq_true_eq, decide_eq_true_eq]
  exact ⟨fun ⟨⟨a, b⟩, c, d⟩ => ⟨a, b, c, d⟩, fun ⟨a, b, c, d⟩ => ⟨⟨a, b⟩, c, d⟩⟩

theorem State.nextRec_none {s : State} {room : Nat} (h : ∀ e, ¬ s.isUpcoming room e) : s.nextRec room = none := by
  unfold State.nextRec
  rw [Option.map_eq_none_iff, earliest_eq_none, List.eq_nil_iff_forall_not_mem]
  exact fun e he => h e (State.mem_upcoming.mp he)

/-- The one upcoming record that starts before every other is the next (R122). -/
theorem State.nextRec_some {s : State} {room : Nat} {e : Nat × Rec} (he : s.isUpcoming room e)
    (hfirst : ∀ f, s.isUpcoming room f → f = e ∨ e.2.startMinute < f.2.startMinute) : s.nextRec room = some e.2 := by
  unfold State.nextRec
  cases hx : earliest ((s.recsOf room).filter
      (fun e => decide (e.2.plane ≤ 1) && decide (s.now < e.2.startMinute))) with
  | none =>
    rw [earliest_eq_none, List.eq_nil_iff_forall_not_mem] at hx
    exact absurd (State.mem_upcoming.mpr he) (hx e)
  | some x =>
    have hle := earliest_le hx e (State.mem_upcoming.mpr he)
    rcases hfirst x (State.mem_upcoming.mp (earliest_mem hx)) with rfl | hlt
    · rfl
    · omega

theorem State.currentRec_unique {s : State} {room : Nat} {e : Nat × Rec} (he : s.isCurrent room e)
    (hone : ∀ f, s.isCurrent room f → f = e) : s.currentRec room = some e.2 := by
  cases hc : s.currentRec room with
  | none => exact absurd he (State.currentRec_none hc e)
  | some r =>
    obtain ⟨i, hi⟩ := State.currentRec_some hc
    rw [← hone _ hi]

theorem State.badgeOf_eq (s : State) (r : Rec) : s.badgeOf r = match r.order with
    | none => .none
    | some h => match Pool.named? s.plan.orders h with
      | none => .none
      | some o => match o.state with
        | .accepted | .preparing | .dispatched => .due
        | .delivered => .delivered
        | .forfeit => .none := by
  unfold State.badgeOf
  cases r.order <;> rfl

theorem State.badge_of_current {s : State} {r : Rec} {n : Option Rec} (hk : r.kind = .booking) :
    s.badge (some r) n = s.badgeOf r := by
  unfold State.badge
  rw [Option.filter_some, if_pos (decide_eq_true hk)]

theorem State.badge_of_noCurrent {s : State} {c n : Option Rec} (hc : ∀ r, c = some r → r.kind = .block) :
    s.badge c n = match n.filter (fun r => r.kind = .booking) with
      | some r => s.badgeOf r
      | none => .none := by
  have hnone : c.filter (fun r => r.kind = .booking) = none := by
    cases c with
    | none => rfl
    | some r => simp [Option.filter, hc r rfl]
  unfold State.badge
  rw [hnone] <;> rfl

/-! ### The display deadline -/

theorem leastMinute_eq_none {l : List Int} : leastMinute l = none ↔ l = [] := by
  cases l with
  | nil => exact ⟨fun _ => rfl, fun _ => rfl⟩
  | cons m l =>
    unfold leastMinute
    split <;> exact ⟨(fun h => nomatch h), (fun h => nomatch h)⟩

theorem leastMinute_spec {l : List Int} {m : Int} (h : leastMinute l = some m) : m ∈ l ∧ ∀ n, n ∈ l → m ≤ n := by
  induction l generalizing m with
  | nil => cases h
  | cons x l ih =>
    unfold leastMinute at h
    split at h
    next hnone =>
      cases h
      rw [leastMinute_eq_none] at hnone
      subst hnone
      exact ⟨List.mem_cons_self, fun n hn => by rw [List.mem_singleton.mp hn]⟩
    next k hk =>
      injection h with h
      subst h
      obtain ⟨hmem, hle⟩ := ih hk
      refine ⟨?_, fun n hn => ?_⟩
      · rcases min_choice x k with hmin | hmin
        · rw [hmin]; exact List.mem_cons_self
        · rw [hmin]; exact List.mem_cons_of_mem _ hmem
      · rcases List.mem_cons.mp hn with rfl | hn
        · exact min_le_left _ _
        · exact (min_le_right _ _).trans (hle n hn)

/-- The minutes after now at which a room's display may change (R124). -/
def State.displayMinutes (s : State) (room : Nat) : List Int :=
  (((s.recsOf room).filter (fun e => decide (e.2.plane ≤ 1))).flatMap
    (fun e => displayCandidates e.2)).filter (fun m => decide (s.now < m))

theorem State.mem_displayMinutes {s : State} {room : Nat} {m : Int} : m ∈ s.displayMinutes room ↔ s.now < m ∧
    ∃ i r, (i, r) ∈ s.liveRecs ∧ r.room = room ∧ r.plane ≤ 1 ∧
      (m = r.startMinute - 15 ∨ m = r.startMinute - 10 ∨ m = r.startMinute ∨ m = r.endMinute) := by
  unfold State.displayMinutes displayCandidates
  simp only [List.mem_filter, List.mem_flatMap, State.mem_recsOf, decide_eq_true_eq, Prod.exists, List.mem_cons,
    List.not_mem_nil, or_false]
  constructor
  · rintro ⟨⟨i, r, ⟨⟨hl, hr⟩, hp⟩, hm⟩, hn⟩; exact ⟨hn, i, r, hl, hr, hp, hm⟩
  · rintro ⟨hn, i, r, hl, hr, hp, hm⟩; exact ⟨⟨i, r, ⟨⟨hl, hr⟩, hp⟩, hm⟩, hn⟩

theorem State.displayDeadlineOf_eq {s : State} (hs : s.serving = true) (room : Nat) :
    s.displayDeadlineOf room = (leastMinute (s.displayMinutes room)).map (fun m => ⟨m, false⟩) := by
  unfold State.displayDeadlineOf
  rw [hs]
  rfl

theorem State.displayDeadlineOf_of_notServing {s : State} (hs : s.serving = false) (room : Nat) :
    s.displayDeadlineOf room = none := by
  unfold State.displayDeadlineOf
  rw [hs]
  rfl

/-! ### Deadlines that go on, and those not yet due -/

theorem State.dueRec_of_notDue {s : State} {i : Nat} (h : ∀ r, s.rec? i = some r → r.deadline.due = false)
    (k : DeadlineKind) : s.dueRec i k = none := by
  unfold State.dueRec
  cases hr : s.rec? i with
  | none => rfl
  | some r => simp [Option.filter, h r hr]

theorem State.dueOrder_of_notDue {s : State} {j : Nat}
    (h : ∀ o d, s.order? j = some o → o.deadline = some d → d.due = false) (k : OrderDeadlineKind) :
    s.dueOrder j k = none := by
  unfold State.dueOrder
  cases ho : s.order? j with
  | none => rfl
  | some o =>
    cases hd : o.deadline with
    | none => simp [Option.filter, hd]
    | some d => simp [Option.filter, hd, h o d ho hd]

/-- A deadline that has not fallen due has no effect (R13). -/
theorem exec_of_notDue {s : State} {i : Nat} (h : ∀ r, s.rec? i = some r → r.deadline.due = false) :
    exec (.holdEnd i) s = .next s ∧ exec (.arrival i) s = .next s ∧ exec (.graceEnd i) s = .next s ∧
    exec (.unverifiedEnd i) s = .next s ∧ exec (.endDeadline i) s = .next s := by
  have hd := State.dueRec_of_notDue h
  refine ⟨?_, ?_, ?_, ?_, ?_⟩
  · change Host.Outcome.next (s.takeHoldEnd i) = _
    unfold State.takeHoldEnd; rw [hd]
  · change Host.Outcome.next (s.takeArrival i) = _
    unfold State.takeArrival; rw [hd]
  · change Host.Outcome.next (s.takeGraceEnd i) = _
    unfold State.takeGraceEnd; rw [hd]
  · change Host.Outcome.next (s.takeUnverifiedEnd i) = _
    unfold State.takeUnverifiedEnd; rw [hd]
  · change Host.Outcome.next (s.takeEnd i) = _
    unfold State.takeEnd; rw [hd]

theorem exec_of_orderNotDue {s : State} {j : Nat}
    (h : ∀ o d, s.order? j = some o → o.deadline = some d → d.due = false) :
    exec (.cutoffDeadline j) s = .next s ∧ exec (.dispatchDeadline j) s = .next s ∧
    exec (.lateDeadline j) s = .next s := by
  have hd := State.dueOrder_of_notDue h
  refine ⟨?_, ?_, ?_⟩
  · change Host.Outcome.next (s.takeCutoff j) = _
    unfold State.takeCutoff; rw [hd]
  · change Host.Outcome.next (s.takeDispatch j) = _
    unfold State.takeDispatch; rw [hd]
  · change Host.Outcome.next (s.takeLate j) = _
    unfold State.takeLate; rw [hd]

theorem State.takeExpiry_of_notDue {s : State} {w : Nat} (h : ∀ e, s.waitEntry? w = some e → e.due = false) :
    s.takeExpiry w = s := by
  unfold State.takeExpiry
  cases he : s.waitEntry? w with
  | none => rfl
  | some e => simp [Option.filter, h e he]

theorem State.takeDisplay_of_notDue {s : State} {room : Nat}
    (h : ∀ d, (s.display room).deadline = some d → d.due = false) : s.takeDisplay room = s := by
  unfold State.takeDisplay
  cases hd : (s.display room).deadline with
  | none => rfl
  | some d => simp [Option.filter, h d hd]

theorem State.takeDisplay_of_due {s : State} {room : Nat} {d : DisplayDeadline}
    (h : (s.display room).deadline = some d) (hd : d.due = true) : s.takeDisplay room = s.recompute room := by
  unfold State.takeDisplay
  rw [h]
  simp [Option.filter, hd]

theorem State.graceReleases_eq_false {s : State} {room : Nat} (hu : (s.room room).unitId ≠ none)
    (hl : ∀ l, s.location room = some l → (s.position l.chain l.pos).presence ≠ .linked) :
    s.graceReleases room = false := by
  rw [Bool.eq_false_iff]
  intro h
  rcases (State.graceReleases_iff s room).mp h with h | ⟨l, h, hp⟩
  · exact hu h
  · exact hl l h hp

/-- Settles O28. -/
theorem deadlinesThatGoOn : Obligations.DeadlinesThatGoOn := by
  unfold Obligations.DeadlinesThatGoOn
  refine ⟨fun s i r hr hd hk => ?arrival, fun s i r hr hd hk hu hl => ?unverified, fun s room d hdl hd => ?display,
    fun s i h => exec_of_notDue h, fun s j h => exec_of_orderNotDue h,
    fun s w h => congrArg Host.Outcome.next (State.takeExpiry_of_notDue h),
    fun s room h => congrArg Host.Outcome.next (State.takeDisplay_of_notDue h), fun s room h => ?vacancy,
    fun s room h => ⟨contentOf_of_notServing h room, State.displayDeadlineOf_of_notServing h room⟩,
    fun s room blocked busy checkinDue soon hs hblocked hbusy hdue hsoon => ?state,
    fun s room current upcoming next hs hcur hup hnext => ?content, fun s room candidate hs hcand => ?deadline⟩
  case arrival =>
    obtain ⟨h, -, hsame⟩ := recordChanged_roomChanged (s := s) (i := i) (n := { r with
      state := .arrived, arrival := some r.start, deadline := ⟨.endAt, r.endMinute, false⟩ }) r.room (sameBut_refl [] _)
      (List.nil_subset _)
    refine ⟨_, congrArg Host.Outcome.next (?_ : s.takeArrival i = _), h.record, h.rev, h.others, h.room,
      sameBut_mono (by decide) hsame⟩
    unfold State.takeArrival
    rw [State.dueRec_of_kind hr hd hk]
  case unverified =>
    obtain ⟨h, -, hsame⟩ := recordChanged_roomChanged (s := s) (i := i) (n := unverifiedRec r) r.room (sameBut_refl [] _)
      (List.nil_subset _)
    refine ⟨_, congrArg Host.Outcome.next (?_ : s.takeGraceEnd i = _), h.record, h.rev, h.others, h.room,
      sameBut_mono (by decide) hsame⟩
    unfold State.takeGraceEnd
    rw [State.dueRec_of_kind hr hd hk]
    dsimp only
    rw [State.graceReleases_eq_false hu hl, if_neg (by decide)]
  case display =>
    exact ⟨_, congrArg Host.Outcome.next (State.takeDisplay_of_due hdl hd), displayFollows_recompute ⟨rfl, rfl⟩,
      recompute_sameOtherRooms s room, recompute_sameBut s room⟩
  case vacancy =>
    change Host.Outcome.next (s.takeAutoEnd room) = _
    unfold State.takeAutoEnd
    rw [if_pos h]
  case state =>
    rw [← State.blockedNow_iff] at hblocked
    rw [← State.coveringArrived_isSome_iff] at hbusy
    rw [← State.checkinNow_iff] at hdue
    rw [← State.soonNow_iff] at hsoon
    refine ⟨State.displayState_of_closed, fun ho => ?_⟩
    rw [State.displayState_of_open hs ho, hblocked, hbusy, hdue, hsoon]
    exact ⟨fun h1 => if_pos h1, fun h1 h2 => (if_neg h1).trans (if_pos h2),
      fun h1 h2 h3 => (if_neg h1).trans ((if_neg h2).trans (if_pos h3)),
      fun h1 h2 h3 h4 => (if_neg h1).trans ((if_neg h2).trans ((if_neg h3).trans (if_pos h4))),
      fun h1 h2 h3 h4 => (if_neg h1).trans ((if_neg h2).trans ((if_neg h3).trans (if_neg h4)))⟩
  case content =>
    obtain rfl : current = s.isCurrent room := funext fun e => propext (hcur e)
    obtain rfl : upcoming = s.isUpcoming room := funext fun e => propext (hup e)
    refine ⟨State.contentOf_of_closed, fun ho => ?_⟩
    rw [State.contentOf_of_open hs ho]
    dsimp only
    have hnone : (∀ e, ¬ s.isCurrent room e) → s.currentRec room = none := fun h => by
      cases hc : s.currentRec room with
      | none => rfl
      | some r => exact absurd (State.currentRec_some hc).choose_spec (h _)
    have hnextRec : ∀ e, next e → s.nextRec room = some e.2 := fun e he =>
      State.nextRec_some ((hnext e).mp he).1 ((hnext e).mp he).2
    have hblocks : (∀ f, s.isCurrent room f → f.2.kind = .block) → ∀ r, s.currentRec room = some r → r.kind = .block :=
      fun h r hr => by
        obtain ⟨i, hi⟩ := State.currentRec_some hr
        exact h _ hi
    refine ⟨rfl, fun e he hone => ?_, fun h => ?_, fun e he => ?_, fun h => ?_, fun e hk he => ?_, fun hb hn => ?_⟩
    · rw [State.currentRec_unique he hone]; rfl
    · rw [hnone h]; rfl
    · rw [hnextRec e he]; rfl
    · rw [State.nextRec_none h]; rfl
    · refine Eq.trans ?_ (State.badgeOf_eq s e.2)
      rcases he with ⟨hc, hone⟩ | ⟨hn, hb⟩
      · rw [State.currentRec_unique hc hone, State.badge_of_current hk]
      · rw [State.badge_of_noCurrent (hblocks hb), hnextRec e hn, Option.filter_some, if_pos (decide_eq_true hk)]
    · rw [State.badge_of_noCurrent (hblocks hb)]
      rcases hn with hn | ⟨e, he, hk⟩
      · rw [State.nextRec_none hn]; rfl
      · rw [hnextRec e he, Option.filter_some, if_neg (by rw [hk]; decide)]
  case deadline =>
    have hmem : ∀ m, candidate m ↔ m ∈ s.displayMinutes room := fun m => (hcand m).trans State.mem_displayMinutes.symm
    rw [State.displayDeadlineOf_eq hs]
    refine ⟨fun h => ?_, fun m hm hleast => ?_⟩
    · rw [leastMinute_eq_none.mpr (List.eq_nil_iff_forall_not_mem.mpr (fun m hm => h m ((hmem m).mpr hm)))]
      rfl
    · cases hx : leastMinute (s.displayMinutes room) with
      | none =>
        rw [leastMinute_eq_none] at hx
        have := (hmem m).mp hm
        rw [hx] at this
        cases this
      | some n =>
        obtain ⟨hn, hle⟩ := leastMinute_spec hx
        have h1 := hle m ((hmem m).mp hm)
        have h2 := hleast n ((hmem n).mpr hn)
        rw [Option.map_some, show n = m by omega]

end Sys2Proof.Machine
end

section
/-! SUPPORT. The settling of the statements about HOLD, BLOCK, CONFIRM and MODIFY, and about the refusals of placements. -/

namespace Sys2Proof.Machine

/-! ### Ranges -/

theorem spanOut_eq_true {plane start stop : Nat} (h : 7 < plane ∨ 1439 < start ∨ 1440 < stop) :
    spanOut plane start stop = true := by
  unfold spanOut
  simp only [Bool.or_eq_true, decide_eq_true_eq]
  omega

theorem spanOut_of_le {plane start stop : Nat} (hp : plane ≤ 7) (hs : start ≤ 1439) (he : stop ≤ 1440) :
    spanOut plane start stop = false := by
  unfold spanOut
  simp only [Bool.or_eq_false_iff, decide_eq_false_iff_not]
  omega

theorem lengthOut_eq_true {start stop most : Nat} (h : stop ≤ start ∨ most < stop - start) :
    lengthOut start stop most = true := by
  unfold lengthOut
  simp only [Bool.or_eq_true, decide_eq_true_eq]
  exact h

theorem lengthOut_of_le {start stop most : Nat} (h : start < stop) (hm : stop - start ≤ most) :
    lengthOut start stop most = false := by
  unfold lengthOut
  simp only [Bool.or_eq_false_iff, decide_eq_false_iff_not]
  omega

theorem attendeesOut_eq_true {n : Nat} (h : n < 1 ∨ 400 < n) : attendeesOut n = true := by
  unfold attendeesOut
  simp only [Bool.or_eq_true, decide_eq_true_eq]
  exact h

theorem attendeesOut_of_le {n : Nat} (h : 1 ≤ n) (hm : n ≤ 400) : attendeesOut n = false := by
  unfold attendeesOut
  simp only [Bool.or_eq_false_iff, decide_eq_false_iff_not]
  omega

theorem bookIndexOut_of_le {h : Handle} (hi : h.index ≤ 2047) : bookIndexOut h = false := decide_eq_false (by omega)

theorem startPassed_iff (s : State) (plane start : Nat) :
    s.startPassed plane start = true ↔ plane = 0 ∧ start < s.currentSlot := by
  unfold State.startPassed
  rw [Bool.and_eq_true, beq_iff_eq, decide_eq_true_eq]

/-! ### HOLD -/

theorem holdOut_of_out {s : State} {a : HoldArgs}
    (h : 159 < a.room ∨ 7 < a.plane ∨ 1439 < a.start ∨ 1440 < a.stop ∨ (a.stop + 4) / 5 ≤ a.start / 5 ∨
      144 < (a.stop + 4) / 5 - a.start / 5 ∨ a.attendees < 1 ∨ 400 < a.attendees) : s.holdOut a = true := by
  unfold State.holdOut
  simp only [Bool.or_eq_true]
  rcases h with h | h | h | h | h | h | h | h
  · exact .inl (.inl (.inl (.inl (.inl (roomOut_eq_true h)))))
  · exact .inl (.inl (.inl (.inl (.inr (spanOut_eq_true (.inl h))))))
  · exact .inl (.inl (.inl (.inl (.inr (spanOut_eq_true (.inr (.inl h)))))))
  · exact .inl (.inl (.inl (.inl (.inr (spanOut_eq_true (.inr (.inr h)))))))
  · exact .inl (.inl (.inl (.inr (lengthOut_eq_true (.inl h)))))
  · exact .inl (.inl (.inl (.inr (lengthOut_eq_true (.inr h)))))
  · exact .inl (.inl (.inr (attendeesOut_eq_true (.inl h))))
  · exact .inl (.inl (.inr (attendeesOut_eq_true (.inr h))))

theorem holdOut_of_ranges {s : State} {a : HoldArgs} (hr : a.room ≤ 159) (hp : a.plane ≤ 7) (hs : a.start ≤ 1439)
    (he : a.stop ≤ 1440) (hlt : a.start / 5 < (a.stop + 4) / 5) (hl : (a.stop + 4) / 5 - a.start / 5 ≤ 144)
    (h1 : 1 ≤ a.attendees) (h400 : a.attendees ≤ 400) (hm : a.holdMinutes ≤ 255)
    (hcater : ∀ q, a.cater = some q → s.requestOut q = false ∧
      (a.plane : Int) * 1440 + 5 * ((a.start / 5 : Nat) : Int) + q.offset ≤ 11519) : s.holdOut a = false := by
  have hq : a.cater.any (fun q => s.requestOut q || deliveryOut (slotMinute a.plane (startSlot a.start)) q.offset) =
      false := by
    cases hc : a.cater with
    | none => rfl
    | some q =>
      obtain ⟨h1, h2⟩ := hcater q hc
      exact Bool.or_eq_false_iff.mpr ⟨h1, decide_eq_false (Int.not_lt.mpr h2)⟩
  unfold State.holdOut
  rw [roomOut_eq_false hr, spanOut_of_le hp hs he, lengthOut_of_le (start := startSlot a.start)
    (stop := stopSlot a.stop) hlt hl, attendeesOut_of_le h1 h400, decide_eq_false (by omega : ¬ 255 < a.holdMinutes), hq]
  rfl

theorem runHold_of_out {s : State} {p : Port} {tag : Byte} {a : HoldArgs} (hc : s.changeCheck p .sched = none)
    (ho : s.holdOut a = true) : runHold p tag a s = refuse s .range := by
  unfold runHold
  rw [hc]
  exact if_pos ho

/-- A HOLD whose fields are in range (R43). -/
theorem runHold_of_ranges {s : State} {p : Port} {tag : Byte} {a : HoldArgs} (hc : s.changeCheck p .sched = none)
    (ho : s.holdOut a = false) : runHold p tag a s =
      if !(s.room a.room).isOpen then refuse s .state
      else if s.startPassed a.plane (startSlot a.start) then refuse s .tooLate
      else if (s.room a.room).seats < a.attendees then refuse s .capacity
      else match s.holdConflict a with
        | some j => busyHold p tag a .conflict (some (s.recHandle j)) (.booking (s.recHandle j)) s
        | none => match Pool.lowestFree s.book.pool Config.bookCap with
          | none => busyHold p tag a .full none (.full .bookingPool) s
          | some i => placeHold p a i s := by
  unfold runHold
  rw [hc]
  exact if_neg (by rw [ho]; decide)

/-- A HOLD in range that passes the tests before its placement (R43). -/
theorem runHold_of_placeable {s : State} {p : Port} {tag : Byte} {a : HoldArgs} (hc : s.changeCheck p .sched = none)
    (ho : s.holdOut a = false) (hopen : (s.room a.room).isOpen = true)
    (hp : ¬ (a.plane = 0 ∧ a.start / 5 < s.currentSlot)) (hseats : a.attendees ≤ (s.room a.room).seats) :
    runHold p tag a s = match s.holdConflict a with
      | some j => busyHold p tag a .conflict (some (s.recHandle j)) (.booking (s.recHandle j)) s
      | none => match Pool.lowestFree s.book.pool Config.bookCap with
        | none => busyHold p tag a .full none (.full .bookingPool) s
        | some i => placeHold p a i s := by
  have hpassed : ¬ s.startPassed a.plane (startSlot a.start) = true := fun h => hp ((startPassed_iff _ _ _).mp h)
  rw [runHold_of_ranges hc ho, hopen, if_neg (by decide), if_neg hpassed, if_neg (by omega)]

theorem placeHold_of_plain {s : State} {p : Port} {a : HoldArgs} (i : Nat) (hcater : a.cater = none) :
    placeHold p a i s = accept ((s.changeRec i (heldRec s p a none)).roomChanged a.room)
      (heldPayload s p i a none none) (decide (60 < a.holdMinutes)) := by
  unfold placeHold
  rw [hcater]

/-- Settles O31. -/
theorem holdCreatesBooking : Obligations.HoldCreatesBooking := by
  unfold Obligations.HoldCreatesBooking
  rintro p tag a s _ _ hready hroom hplane hstart hstop rfl rfl hlt hlen h1 h400 h255 hcater
  have hc : (s.taking p tag (.hold a)).changeCheck p .sched = none := changeCheck_of_ready hready rfl rfl
  have hout : (s.taking p tag (.hold a)).holdOut a = false :=
    holdOut_of_ranges hroom hplane hstart hstop hlt hlen h1 h400 h255 (fun q hq => by rw [hcater] at hq; cases hq)
  have hrun := runHold_of_ranges (tag := tag) hc hout
  refine ⟨fun ho => ?closed, fun ho hp hs => ?late, fun ho hp hs => ?capacity,
    fun i held deadline ho hp hs hi hfree hheld hdl => ?placed⟩
  case closed =>
    have ho' : ((s.taking p tag (.hold a)).room a.room).isOpen = false := ho
    rw [ho', if_pos (by decide)] at hrun
    exact exec_of_run rfl hready.1 hrun
  case late =>
    have ho' : ((s.taking p tag (.hold a)).room a.room).isOpen = true := ho
    have hpassed : (s.taking p tag (.hold a)).startPassed a.plane (startSlot a.start) = true :=
      (startPassed_iff _ _ _).mpr ⟨hp, hs⟩
    rw [ho', if_neg (by decide), hpassed, if_pos rfl] at hrun
    exact exec_of_run rfl hready.1 hrun
  case capacity =>
    have ho' : ((s.taking p tag (.hold a)).room a.room).isOpen = true := ho
    have hpassed : ¬ (s.taking p tag (.hold a)).startPassed a.plane (startSlot a.start) = true := fun h =>
      hp ((startPassed_iff _ _ _).mp h)
    have hs' : ((s.taking p tag (.hold a)).room a.room).seats < a.attendees := hs
    rw [ho', if_neg (by decide), if_neg hpassed, if_pos hs'] at hrun
    exact exec_of_run rfl hready.1 hrun
  case placed =>
    subst hheld hdl
    have hplace := runHold_of_placeable (tag := tag) hc hout ho hp hs
    have hconflict : (s.taking p tag (.hold a)).holdConflict a = none := State.firstConflict_eq_none.mpr hfree
    have hlow : Pool.lowestFree (s.taking p tag (.hold a)).book.pool Config.bookCap = some i :=
      (Pool.lowestFree_iff _ _ _).mpr hi
    rw [hconflict] at hplace
    dsimp only at hplace
    rw [hlow] at hplace
    dsimp only at hplace
    rw [placeHold_of_plain i hcater] at hplace
    obtain ⟨h, -, hsame⟩ := recordChanged_roomChanged (s := s.taking p tag (.hold a)) (i := i)
      (n := heldRec (s.taking p tag (.hold a)) p a none) a.room (sameBut_refl [] _) (List.nil_subset _)
    exact ⟨_, exec_of_run rfl hready.1 hplace, h.record, h.handle, h.others, h.rev, h.room, hsame⟩

/-! ### BLOCK -/

theorem blockOut_of_out {a : BlockArgs}
    (h : 159 < a.room ∨ 7 < a.plane ∨ 1439 < a.start ∨ 1440 < a.stop ∨ (a.stop + 4) / 5 ≤ a.start / 5) :
    blockOut a = true := by
  unfold blockOut
  simp only [Bool.or_eq_true]
  rcases h with h | h | h | h | h
  · exact .inl (.inl (roomOut_eq_true h))
  · exact .inl (.inr (spanOut_eq_true (.inl h)))
  · exact .inl (.inr (spanOut_eq_true (.inr (.inl h))))
  · exact .inl (.inr (spanOut_eq_true (.inr (.inr h))))
  · exact .inr (lengthOut_eq_true (.inl h))

theorem blockOut_of_ranges {a : BlockArgs} (hr : a.room ≤ 159) (hp : a.plane ≤ 7) (hs : a.start ≤ 1439)
    (he : a.stop ≤ 1440) (hlt : a.start / 5 < (a.stop + 4) / 5) : blockOut a = false := by
  unfold blockOut
  rw [roomOut_eq_false hr, spanOut_of_le hp hs he, lengthOut_of_le (start := startSlot a.start)
    (stop := stopSlot a.stop) hlt (by
      have : stopSlot a.stop = (a.stop + 4) / 5 := rfl
      omega)]
  rfl

theorem runBlock_of_out {s : State} {p : Port} {a : BlockArgs} (hc : s.changeCheck p .facil = none)
    (ho : blockOut a = true) : runBlock p a s = refuse s .range := by
  unfold runBlock
  rw [hc]
  exact if_pos ho

/-- A BLOCK whose fields are in range (R53). -/
theorem runBlock_of_ranges {s : State} {p : Port} {a : BlockArgs} (hc : s.changeCheck p .facil = none)
    (ho : blockOut a = false) : runBlock p a s =
      if !(s.room a.room).isOpen then refuse s .state
      else if s.startPassed a.plane (startSlot a.start) then refuse s .tooLate
      else match s.firstConflict a.room a.plane (startSlot a.start) (stopSlot a.stop) none with
        | some j => refuse s .conflict (.booking (s.recHandle j))
        | none => match Pool.lowestFree s.book.pool Config.bookCap with
          | none => refuse s .full (.full .bookingPool)
          | some i =>
            accept ((s.changeRec i (blockRec p a)).roomChanged a.room)
              (.blocked (s.recHandle i) s.advanceRev.book.rev (slotMinute a.plane (startSlot a.start))
                (slotMinute a.plane (stopSlot a.stop))) := by
  unfold runBlock
  rw [hc]
  exact if_neg (by rw [ho]; decide)

/-- Settles O36. -/
theorem blockCreatesBlock : Obligations.BlockCreatesBlock := by
  unfold Obligations.BlockCreatesBlock
  rintro p tag a s _ _ hready hroom hplane hstart hstop rfl rfl hlt
  have hc : (s.taking p tag (.block a)).changeCheck p .facil = none := changeCheck_of_ready hready rfl rfl
  have hrun := runBlock_of_ranges (s := s.taking p tag (.block a)) hc (blockOut_of_ranges hroom hplane hstart hstop hlt)
  refine ⟨fun ho => ?closed, fun ho hp hs => ?late, fun ho hp => ?placed⟩
  case closed =>
    have ho' : ((s.taking p tag (.block a)).room a.room).isOpen = false := ho
    rw [ho', if_pos (by decide)] at hrun
    exact exec_of_run rfl hready.1 hrun
  case late =>
    have ho' : ((s.taking p tag (.block a)).room a.room).isOpen = true := ho
    have hpassed : (s.taking p tag (.block a)).startPassed a.plane (startSlot a.start) = true :=
      (startPassed_iff _ _ _).mpr ⟨hp, hs⟩
    rw [ho', if_neg (by decide), hpassed, if_pos rfl] at hrun
    exact exec_of_run rfl hready.1 hrun
  case placed =>
    have ho' : ((s.taking p tag (.block a)).room a.room).isOpen = true := ho
    have hpassed : ¬ (s.taking p tag (.block a)).startPassed a.plane (startSlot a.start) = true := fun h =>
      hp ((startPassed_iff _ _ _).mp h)
    rw [ho', if_neg (by decide), if_neg hpassed] at hrun
    refine ⟨fun i hi => ?_, fun hfree hfull => ?_, fun i hfree hi => ?_⟩
    · have hi' : (s.taking p tag (.block a)).firstConflict a.room a.plane (startSlot a.start) (stopSlot a.stop) none =
        some i := hi
      rw [hi'] at hrun
      exact exec_of_run rfl hready.1 hrun
    · have hno : (s.taking p tag (.block a)).firstConflict a.room a.plane (startSlot a.start) (stopSlot a.stop) none =
        none := State.firstConflict_eq_none.mpr hfree
      have hlow : Pool.lowestFree (s.taking p tag (.block a)).book.pool Config.bookCap = none :=
        Pool.lowestFree_eq_none.mpr hfull
      rw [hno] at hrun
      dsimp only at hrun
      rw [hlow] at hrun
      exact exec_of_run rfl hready.1 hrun
    · have hno : (s.taking p tag (.block a)).firstConflict a.room a.plane (startSlot a.start) (stopSlot a.stop) none =
        none := State.firstConflict_eq_none.mpr hfree
      have hlow : Pool.lowestFree (s.taking p tag (.block a)).book.pool Config.bookCap = some i :=
        (Pool.lowestFree_iff _ _ _).mpr hi
      rw [hno] at hrun
      dsimp only at hrun
      rw [hlow] at hrun
      obtain ⟨h, -, hsame⟩ := recordChanged_roomChanged (s := s.taking p tag (.block a)) (i := i)
        (n := blockRec p a) a.room (sameBut_refl [] _) (List.nil_subset _)
      exact ⟨_, exec_of_run rfl hready.1 hrun, h.record, h.handle, h.others, h.rev, h.room, hsame⟩

/-! ### Refused placements -/

theorem waitCheck_of_ready {s : State} {p : Port} {tag : Byte} {cmd : Command} (h : s.ready p cmd)
    (hw : isWait cmd = true) (hn : needsServing cmd = true) : (s.taking p tag cmd).waitCheck p = none := by
  obtain ⟨-, hp, hs, -⟩ := h
  rw [permits_of_isWait hw] at hp
  rw [waitCheck_taking, hp, hs hn]
  rfl

theorem roomsOut_of_out {rooms : List Nat}
    (h : rooms = [] ∨ 4 < rooms.length ∨ (∃ r, r ∈ rooms ∧ 159 < r) ∨ ¬ rooms.Nodup) : roomsOut rooms = true := by
  unfold roomsOut
  simp only [Bool.or_eq_true]
  rcases h with h | h | ⟨r, hr, h⟩ | h
  · exact .inl (.inl (.inl (by rw [h]; rfl)))
  · exact .inl (.inl (.inr (decide_eq_true h)))
  · exact .inl (.inr (List.any_eq_true.mpr ⟨r, hr, roomOut_eq_true h⟩))
  · exact .inr (by rw [decide_eq_false h]; rfl)

theorem waitOut_of_out {s : State} {a : WaitAddArgs}
    (h : a.rooms = [] ∨ 4 < a.rooms.length ∨ (∃ r, r ∈ a.rooms ∧ 159 < r) ∨ ¬ a.rooms.Nodup ∨ 7 < a.plane ∨
      1439 < a.start ∨ 1440 < a.stop ∨ (a.stop + 4) / 5 ≤ a.start / 5 ∨ 144 < (a.stop + 4) / 5 - a.start / 5 ∨
      24 < a.flex ∨ a.attendees < 1 ∨ 400 < a.attendees ∨
      (∃ d m, a.expiry = some (d, m) ∧
        (7 < d ∨ 1439 < m ∨ a.plane * 1440 + 5 * (a.start / 5) < d * 1440 + m))) : s.waitOut a = true := by
  have hroomsOut : (a.rooms = [] ∨ 4 < a.rooms.length ∨ (∃ r, r ∈ a.rooms ∧ 159 < r) ∨ ¬ a.rooms.Nodup) →
      s.waitOut a = true := fun hr => by
    unfold State.waitOut
    rw [roomsOut_of_out hr]
    simp only [Bool.true_or]
  rcases h with h | h | h | h | h
  · exact hroomsOut (.inl h)
  · exact hroomsOut (.inr (.inl h))
  · exact hroomsOut (.inr (.inr (.inl h)))
  · exact hroomsOut (.inr (.inr (.inr h)))
  unfold State.waitOut
  simp only [Bool.or_eq_true]
  rcases h with h | h | h | h | h | h | h | h | ⟨d, m, he, h⟩
  · exact .inl (.inl (.inl (.inl (.inl (.inl (.inr (spanOut_eq_true (.inl h))))))))
  · exact .inl (.inl (.inl (.inl (.inl (.inl (.inr (spanOut_eq_true (.inr (.inl h)))))))))
  · exact .inl (.inl (.inl (.inl (.inl (.inl (.inr (spanOut_eq_true (.inr (.inr h)))))))))
  · exact .inl (.inl (.inl (.inl (.inl (.inr (lengthOut_eq_true (.inl h)))))))
  · exact .inl (.inl (.inl (.inl (.inl (.inr (lengthOut_eq_true (.inr h)))))))
  · exact .inl (.inl (.inl (.inl (.inr (decide_eq_true h)))))
  · exact .inl (.inl (.inl (.inr (attendeesOut_eq_true (.inl h)))))
  · exact .inl (.inl (.inl (.inr (attendeesOut_eq_true (.inr h)))))
  · rcases h with h | h | h
    · exact .inl (.inl (.inr (by rw [he]; simp [h])))
    · exact .inl (.inl (.inr (by rw [he]; simp [h])))
    · refine .inl (.inr (decide_eq_true ?_))
      unfold expiryMinute slotMinute startSlot
      rw [he]
      dsimp only
      omega

theorem runWaitAdd_of_out {s : State} {p : Port} {tag : Byte} {a : WaitAddArgs} (hc : s.waitCheck p = none)
    (ho : s.waitOut a = true) : runWaitAdd p tag a s = refuse s .range := by
  unfold runWaitAdd
  rw [hc]
  exact if_pos ho

theorem busyHold_of_plain {s : State} {p : Port} {tag : Byte} {a : HoldArgs} (h : a.waitIfBusy = false) (k : Code)
    (f : Option Handle) (d : Payload) : busyHold p tag a k f d s = refuse s k d := by
  unfold busyHold
  rw [h]
  rfl

theorem busyHold_of_wait {s : State} {p : Port} {tag : Byte} {a : HoldArgs} (h : a.waitIfBusy = true) (k : Code)
    (f : Option Handle) (d : Payload) : busyHold p tag a k f d s =
      match Pool.lowestFree s.wait.pool Config.waitCap with
      | none => refuse s .full (.full .waitlist)
      | some w =>
        accept (s.addEntry w (entryOfHold p tag a))
          (.waitlisted (Pool.handle s.wait.pool w) (slotMinute a.plane (startSlot a.start))
            (slotMinute a.plane (stopSlot a.stop)) k f) := by
  unfold busyHold
  exact if_neg (by rw [h]; decide)

/-- What adding a waitlist entry leaves (R65). -/
theorem addEntry_spec (s : State) (w : Nat) (e : WaitEntry) :
    (s.addEntry w e).waitEntry? w = some e ∧
    Pool.handle (s.addEntry w e).wait.pool w = Pool.handle s.wait.pool w ∧ sameOtherEntries w s (s.addEntry w e) ∧
    (s.addEntry w e).wait.order = s.wait.order ++ [w] ∧ (s.addEntry w e).wait.fates = s.wait.fates :=
  ⟨Pool.item?_store_same _ _ _, Pool.handle_store _ _ _ _,
    fun _ hj => (Pool.entry_store _ _ _ _).trans (if_neg hj), rfl, rfl⟩

/-- Settles O32. -/
theorem refusedPlacementsAndBusyHolds : Obligations.RefusedPlacementsAndBusyHolds := by
  unfold Obligations.RefusedPlacementsAndBusyHolds
  refine ⟨fun p tag a s hready ho => ?_, fun p tag a s hready ho => ?_, fun p tag a s hready ho => ?_, ?_⟩
  · exact exec_of_run rfl hready.1 (runHold_of_out (changeCheck_of_ready hready rfl rfl) (holdOut_of_out ho))
  · exact exec_of_run rfl hready.1 (runBlock_of_out (changeCheck_of_ready hready rfl rfl) (blockOut_of_out ho))
  · exact exec_of_run rfl hready.1 (runWaitAdd_of_out (waitCheck_of_ready hready rfl rfl) (waitOut_of_out ho))
  · rintro p tag a s _ _ code first hready hroom hplane hstart hstop rfl rfl hlt hlen h1 h400 h255 hcater hopen hp hseats
      hbusy
    have hc : (s.taking p tag (.hold a)).changeCheck p .sched = none := changeCheck_of_ready hready rfl rfl
    have hout : (s.taking p tag (.hold a)).holdOut a = false :=
      holdOut_of_ranges hroom hplane hstart hstop hlt hlen h1 h400 h255 hcater
    have hplace := runHold_of_placeable (tag := tag) hc hout hopen hp hseats
    obtain ⟨d, hrun, hd⟩ : ∃ d, runHold p tag a (s.taking p tag (.hold a)) =
        busyHold p tag a code first d (s.taking p tag (.hold a)) ∧
        ((∃ h, first = some h ∧ d = .booking h) ∨ (first = none ∧ d = .full .bookingPool)) := by
      rcases hbusy with ⟨i, hi, rfl, rfl⟩ | ⟨hfree, hfull, rfl, rfl⟩
      · have hi' : (s.taking p tag (.hold a)).holdConflict a = some i := hi
        rw [hi'] at hplace
        exact ⟨_, hplace, .inl ⟨_, rfl, rfl⟩⟩
      · have hno : (s.taking p tag (.hold a)).holdConflict a = none := State.firstConflict_eq_none.mpr hfree
        have hlow : Pool.lowestFree (s.taking p tag (.hold a)).book.pool Config.bookCap = none :=
          Pool.lowestFree_eq_none.mpr hfull
        rw [hno] at hplace
        dsimp only at hplace
        rw [hlow] at hplace
        exact ⟨_, hplace, .inr ⟨rfl, rfl⟩⟩
    refine ⟨fun hw => ?_, fun hw hfull => ?_, fun w hw hlow => ?_⟩
    · have hplain := hrun.trans (busyHold_of_plain hw _ _ _)
      rcases hd with ⟨h, rfl, rfl⟩ | ⟨rfl, rfl⟩ <;> exact exec_of_run rfl hready.1 hplain
    · have hnone : Pool.lowestFree (s.taking p tag (.hold a)).wait.pool Config.waitCap = none :=
        Pool.lowestFree_eq_none.mpr hfull
      rw [busyHold_of_wait hw, hnone] at hrun
      exact exec_of_run rfl hready.1 hrun
    · have hsome : Pool.lowestFree (s.taking p tag (.hold a)).wait.pool Config.waitCap = some w :=
        (Pool.lowestFree_iff _ _ _).mpr hlow
      rw [busyHold_of_wait hw, hsome] at hrun
      obtain ⟨e1, e2, e3, e4, e5⟩ := addEntry_spec (s.taking p tag (.hold a)) w (entryOfHold p tag a)
      exact ⟨_, exec_of_run rfl hready.1 hrun, e1, e2, e3, e4, e5, addEntry_sameBut _ _ _⟩

/-! ### CONFIRM and MODIFY -/

theorem runConfirm_of_named {s : State} {p : Port} {h : Handle} {r : Rec} (hc : s.changeCheck p .sched = none)
    (hi : h.index ≤ 2047) (hn : Pool.named? s.book.pool h = some r) (hk : r.kind = .booking) :
    runConfirm p h r.rev s = if r.state ≠ .held then refuse s .state
      else accept (((s.changeRec h.index (s.confirmedRec r)).raiseChanged h r.owner (.port p) .confirm []).roomChanged
          r.room) (.confirmed s.advanceRev.book.rev (s.confirmedDeadline r.room r.plane r.start).kind
          (s.confirmedDeadline r.room r.plane r.start).minute) := by
  unfold runConfirm
  rw [hc, bookIndexOut_of_le hi]
  exact withRecord_of_named _ hn hk

theorem runModify_of_named {s : State} {p : Port} {h : Handle} {r : Rec} {a : ModifyArgs}
    (hc : s.changeCheck p .sched = none) (hi : h.index ≤ 2047) (ho : modifyOut a = false)
    (hn : Pool.named? s.book.pool h = some r) (hk : r.kind = .booking) :
    runModify p h r.rev a s =
      if a.attendees.any (fun n => decide ((s.room r.room).seats < n)) then refuse s .capacity
      else if modifiedRec r a = r then accept s (.revision r.rev)
      else
        accept (((s.changeRec h.index (modifiedRec r a)).raiseChanged h r.owner (.port p) .modify []).roomChanged
            r.room) (.revision s.advanceRev.book.rev) := by
  unfold runModify
  rw [hc, bookIndexOut_of_le hi, ho]
  exact withRecord_of_named _ hn hk

theorem confirmedDeadline_eq (s : State) (r : Rec) : s.confirmedDeadline r.room r.plane r.start =
    (if (s.room r.room).options.checkinRequired = true then
      ⟨.graceEnd, r.startMinute + ((if (s.chronicState r.room).chronic = true
        then max ((s.room r.room).grace / 2) 5 else (s.room r.room).grace : Nat) : Int), false⟩
    else ⟨.arrival, r.startMinute, false⟩) := rfl

theorem modifiedRec_eq (r : Rec) (a : ModifyArgs) : modifiedRec r a = { r with
    label := a.label.getD r.label, organizer := a.organizer.getD r.organizer
    attendees := match a.attendees with | some k => some k | none => r.attendees } := by
  unfold modifiedRec
  cases a.attendees <;> rfl

theorem modifyOut_of_ranges {a : ModifyArgs} (h : a.label ≠ none ∨ a.organizer ≠ none ∨ a.attendees ≠ none)
    (hk : ∀ k, a.attendees = some k → 1 ≤ k ∧ k ≤ 400) : modifyOut a = false := by
  have hany : a.attendees.any attendeesOut = false := by
    cases ha : a.attendees with
    | none => rfl
    | some k => exact attendeesOut_of_le (hk k ha).1 (hk k ha).2
  unfold modifyOut
  rw [hany, Bool.or_false]
  simp only [Bool.and_eq_false_iff, Option.isNone_eq_false_iff, Option.isSome_iff_ne_none]
  tauto

/-- A change of a named booking by a port, with its notice and its room (R48, R55, R77). -/
theorem changedByPort_spec {s : State} {h : Handle} {r : Rec} (hn : Pool.named? s.book.pool h = some r) (n : Rec)
    (p : Port) (k : Cause) (room : Nat) :
    RecordChanged s (((s.changeRec h.index n).raiseChanged h r.owner (.port p) k []).roomChanged room) h.index n room ∧
    (((s.changeRec h.index n).raiseChanged h r.owner (.port p) k []).roomChanged room).recHandle h.index = h ∧
    (((s.changeRec h.index n).raiseChanged h r.owner (.port p) k []).roomChanged room).ports =
      s.portsAfterChange (satAdd 4294967295 s.book.rev 1) h r.owner (.port p) k [] ∧
    sameBut checkInParts s (((s.changeRec h.index n).raiseChanged h r.owner (.port p) k []).roomChanged room) := by
  obtain ⟨hhandle, -, -⟩ := Pool.handle_of_named? hn
  obtain ⟨h1, h2, h3⟩ := recordChanged_roomChanged (s := s) (i := h.index) (n := n) room
    (raiseChanged_sameBut (s.changeRec h.index n) h r.owner (.port p) k []) (List.Subset.refl _)
  exact ⟨h1, h1.handle.trans hhandle,
    h2.trans (raiseChanged_ports (s := s) (t := s.changeRec h.index n) rfl rfl rfl rfl _ _ _ _ _),
    sameBut_mono (by decide) h3⟩

/-- Settles O33. -/
theorem confirmAndModify : Obligations.ConfirmAndModify := by
  unfold Obligations.ConfirmAndModify
  refine ⟨fun p tag h r d s hready hi hn hk => ?confirm, fun p tag h r n a s hready hi hn hk hsome hrange hnew => ?modify⟩
  case confirm =>
    have hrun := runConfirm_of_named (s := s.taking p tag (.confirm h r.rev)) (changeCheck_of_ready hready rfl rfl) hi hn hk
    refine ⟨fun hs => exec_of_run rfl hready.1 (hrun.trans (if_pos hs)), fun hs hd => ?_⟩
    have hd' : d = (s.taking p tag (.confirm h r.rev)).confirmedDeadline r.room r.plane r.start := hd
    subst hd'
    obtain ⟨h1, h2, h3, h4⟩ := changedByPort_spec (s := s.taking p tag (.confirm h r.rev)) hn
      ((s.taking p tag (.confirm h r.rev)).confirmedRec r) p .confirm r.room
    exact ⟨_, exec_of_run rfl hready.1 (hrun.trans (if_neg (not_not.mpr hs))), h1.record, h2, h1.others, h1.rev,
      h1.room, h3, h4⟩
  case modify =>
    have hn' : n = modifiedRec r a := hnew.trans (modifiedRec_eq r a).symm
    subst hn'
    have hrun := runModify_of_named (s := s.taking p tag (.modify h r.rev a)) (changeCheck_of_ready hready rfl rfl) hi
      (modifyOut_of_ranges hsome hrange) hn hk
    have hfits : (∀ k, a.attendees = some k → k ≤ (s.room r.room).seats) → ¬ (a.attendees.any (fun n =>
        decide (((s.taking p tag (.modify h r.rev a)).room r.room).seats < n)) = true) := fun hk => by
      cases ha : a.attendees with
      | none => exact fun h => by cases h
      | some k => exact fun h => absurd (of_decide_eq_true h) (Nat.not_lt.mpr (hk k ha))
    refine ⟨fun k hk hlt => ?_, fun hle heq => ?_, fun hle hne => ?_⟩
    · refine exec_of_run rfl hready.1 (hrun.trans (if_pos ?_))
      rw [hk]
      exact decide_eq_true hlt
    · exact exec_of_run rfl hready.1 (hrun.trans ((if_neg (hfits hle)).trans (if_pos heq)))
    · obtain ⟨h1, h2, h3, h4⟩ := changedByPort_spec (s := s.taking p tag (.modify h r.rev a)) hn (modifiedRec r a) p
        .modify r.room
      exact ⟨_, exec_of_run rfl hready.1 (hrun.trans ((if_neg (hfits hle)).trans (if_neg hne))), h1.record, h2, h1.others,
        h1.rev, h1.room, h3, h4⟩

end Sys2Proof.Machine
end

section
/-! SUPPORT. CHECK_IN and EXTEND (O40): a check-in and an extension, whichever path carries them, and the fit. -/

namespace Sys2Proof.Machine

/-! ### A check-in and an extension -/

/-- What a check-in leaves, whichever path carries it (R77). -/
theorem checkIn_spec (s : State) (i : Nat) (r : Rec) (a : Actor) (k : Cause) :
    RecordChanged s (s.checkIn i r a k) i (s.checkedIn r) r.room ∧
    (s.checkIn i r a k).ports =
      s.portsAfterChange (satAdd 4294967295 s.book.rev 1) (s.recHandle i) r.owner a k [] ∧
    sameBut checkInParts s (s.checkIn i r a k) := by
  obtain ⟨h1, h2, h3⟩ := recordChanged_roomChanged (s := s) (i := i) (n := s.checkedIn r) r.room
    (raiseChanged_sameBut (s.changeRec i (s.checkedIn r)) (s.recHandle i) r.owner a k []) (List.Subset.refl _)
  exact ⟨h1, h2.trans (raiseChanged_ports (s := s) (t := s.changeRec i (s.checkedIn r)) rfl rfl rfl rfl _ _ _ _ _),
    sameBut_mono (by decide) h3⟩

/-- The notice of an extension (R88). -/
def extendNotice (s : State) (i : Nat) (r : Rec) (k : Nat) : Raised :=
  { kind := .extended, subject := .booking (s.recHandle i), owner := ownerPort r.owner
    data := [.minute (extendedRec r k).endMinute, .count (extendedRec r k).extensions] }

/-- What an extension leaves, whichever path carries it (R88). -/
theorem extendRec_spec (s : State) (i : Nat) (r : Rec) (k : Nat) (a : Actor) :
    RecordChanged s (s.extendRec i r k a) i (extendedRec r k) r.room ∧
    (s.extendRec i r k a).ports = State.portsAfterChange
      { s with ports := s.portsAfter (satAdd 4294967295 s.book.rev 1) (extendNotice s i r k) }
      (satAdd 4294967295 s.book.rev 1) (s.recHandle i) r.owner a .extend [] ∧
    sameBut checkInParts s (s.extendRec i r k a) := by
  have hraise := raise_sameBut (s.changeRec i (extendedRec r k)) (extendNotice s i r k)
  have hchanged := raiseChanged_sameBut ((s.changeRec i (extendedRec r k)).raise (extendNotice s i r k))
    (s.recHandle i) r.owner a .extend []
  obtain ⟨h1, h2, h3⟩ := recordChanged_roomChanged (s := s) (i := i) (n := extendedRec r k) r.room
    (sameBut_trans hraise hchanged) (List.Subset.refl _)
  refine ⟨h1, h2.trans (raiseChanged_ports
    (s := { s with ports := s.portsAfter (satAdd 4294967295 s.book.rev 1) (extendNotice s i r k) })
    (hraise .routes (by decide)) (hraise .clock (by decide)) (hraise .revision (by decide)) ?_ _ _ _ _ _),
    sameBut_mono (by decide) h3⟩
  exact ports_raise (s := s) (t := s.changeRec i (extendedRec r k)) rfl rfl rfl rfl _

/-! ### CHECK_IN -/

theorem runCheckIn_of_named {s : State} {p : Port} {h : Handle} {r : Rec} (hc : s.changeCheck p .sched = none)
    (hi : h.index ≤ 2047) (hn : Pool.named? s.book.pool h = some r) (hk : r.kind = .booking) :
    runCheckIn p h r.rev s =
      if r.state ≠ .confirmed then refuse s .state
      else if s.now < r.openingMinute then refuse s .tooLate (.window r.openingMinute r.deadline.minute)
      else accept (s.checkIn h.index r (.port p) .checkIn)
        (.arrived s.advanceRev.book.rev (slotMinute r.plane (s.arrivalSlot r)) r.endMinute) := by
  unfold runCheckIn
  rw [hc, bookIndexOut_of_le hi]
  exact withRecord_of_named _ hn hk

/-! ### EXTEND -/

theorem runExtend_of_named {s : State} {p : Port} {h : Handle} {r : Rec} (hc : s.changeCheck p .sched = none)
    (hi : h.index ≤ 2047) (hn : Pool.named? s.book.pool h = some r) (hk : r.kind = .booking) :
    runExtend p h r.rev s =
      if r.state ≠ .arrived then refuse s .state
      else if 8 ≤ r.extensions then refuse s .state (.number r.extensions)
      else if s.extensionFit h.index r = 0 then refuse s .state (.optBooking (s.fitLimiter h.index r))
      else accept (s.extendRec h.index r (s.extensionFit h.index r) (.port p))
        (.extended s.advanceRev.book.rev (slotMinute r.plane (r.stop + s.extensionFit h.index r)) (r.extensions + 1))
        (decide (s.extensionFit h.index r < 3)) := by
  unfold runExtend
  rw [hc, bookIndexOut_of_le hi]
  exact withRecord_of_named _ hn hk

theorem lengthAllows_iff (r : Rec) (k : Nat) :
    lengthAllows r k = true ↔ r.stop + k ≤ 288 ∧ r.stop + k - r.start ≤ 144 := by
  unfold lengthAllows
  simp only [Bool.and_eq_true, decide_eq_true_eq]

/-- When an extension by `k` slots fits (R87). -/
theorem fitAllows_iff (r : Rec) (next : Option (Nat × Rec)) (k : Nat) :
    fitAllows r next k = true ↔ r.stop + k ≤ 288 ∧ r.stop + k - r.start ≤ 144 ∧
      ∀ e, next = some e → min (r.stop + k + r.clear) 288 ≤ e.2.padStart := by
  unfold fitAllows
  rw [Bool.and_eq_true, lengthAllows_iff, and_assoc]
  cases next with
  | none => simp
  | some e => simp

/-- The fit is the greatest of three slots, two and one that the conditions allow, or 0 (R87). -/
theorem State.extensionFit_eq (s : State) (i : Nat) (r : Rec) : s.extensionFit i r =
    if fitAllows r (s.following i r) 3 = true then 3 else if fitAllows r (s.following i r) 2 = true then 2
    else if fitAllows r (s.following i r) 1 = true then 1 else 0 := by
  unfold State.extensionFit
  simp only [List.find?_cons, List.find?_nil]
  cases fitAllows r (s.following i r) 3 <;> cases fitAllows r (s.following i r) 2 <;>
    cases fitAllows r (s.following i r) 1 <;> rfl

/-- The extension fit in terms of a predicate that says which extensions fit. -/
theorem State.extensionFit_eq_zero {s : State} {i : Nat} {r : Rec} {fit : Nat → Prop}
    (hfit : ∀ k, fit k ↔ fitAllows r (s.following i r) k = true) (h1 : ¬ fit 1) (h2 : ¬ fit 2) (h3 : ¬ fit 3) :
    s.extensionFit i r = 0 := by
  rw [State.extensionFit_eq, if_neg (mt (hfit 3).mpr h3), if_neg (mt (hfit 2).mpr h2), if_neg (mt (hfit 1).mpr h1)]

theorem State.extensionFit_of_greatest {s : State} {i : Nat} {r : Rec} {fit : Nat → Prop} {k : Nat}
    (hfit : ∀ k, fit k ↔ fitAllows r (s.following i r) k = true) (h1 : 1 ≤ k) (h3 : k ≤ 3) (hk : fit k)
    (hmax : ∀ m, k < m → m ≤ 3 → ¬ fit m) : s.extensionFit i r = k := by
  rw [State.extensionFit_eq]
  obtain rfl | rfl | rfl : k = 1 ∨ k = 2 ∨ k = 3 := by omega
  · rw [if_neg (mt (hfit 3).mpr (hmax 3 (by omega) (by omega))),
      if_neg (mt (hfit 2).mpr (hmax 2 (by omega) (by omega))), if_pos ((hfit 1).mp hk)]
  · rw [if_neg (mt (hfit 3).mpr (hmax 3 (by omega) (by omega))), if_pos ((hfit 2).mp hk)]
  · rw [if_pos ((hfit 3).mp hk)]

theorem State.fitLimiter_eq (s : State) (i : Nat) (r : Rec) : s.fitLimiter i r =
    if r.stop + 1 ≤ 288 ∧ r.stop + 1 - r.start ≤ 144 then (s.following i r).map (fun e => s.recHandle e.1)
    else none := by
  unfold State.fitLimiter
  exact if_congr (lengthAllows_iff r 1) rfl rfl

/-- Settles O40. -/
theorem checkInAndExtend : Obligations.CheckInAndExtend := by
  unfold Obligations.CheckInAndExtend
  refine ⟨fun p tag h r a s hready hi hn hk ha => ?checkIn, fun p tag h r s fit hready hi hn hk hfit => ?extend⟩
  case checkIn =>
    have hrun := runCheckIn_of_named (s := s.taking p tag (.checkIn h r.rev)) (changeCheck_of_ready hready rfl rfl) hi hn hk
    refine ⟨fun hs => exec_of_run rfl hready.1 (hrun.trans (if_pos hs)), fun hs hnow => ?_, fun hs hnow => ?_⟩
    · exact exec_of_run rfl hready.1 (hrun.trans ((if_neg (not_not.mpr hs)).trans (if_pos hnow)))
    · have ha' : a = (s.taking p tag (.checkIn h r.rev)).arrivalSlot r := ha
      subst ha'
      obtain ⟨h1, h2, h3⟩ := checkIn_spec (s.taking p tag (.checkIn h r.rev)) h.index r (.port p) .checkIn
      obtain ⟨hhandle, -, -⟩ := Pool.handle_of_named? hn
      have hh : (s.taking p tag (.checkIn h r.rev)).recHandle h.index = h := hhandle
      rw [hh] at h2
      exact ⟨_, exec_of_run rfl hready.1 (hrun.trans ((if_neg (not_not.mpr hs)).trans (if_neg (not_lt.mpr hnow)))),
        h1.record, h1.handle.trans hhandle, h1.others, h1.rev, h1.room, h2, h3⟩
  case extend =>
    have hrun := runExtend_of_named (s := s.taking p tag (.extend h r.rev)) (changeCheck_of_ready hready rfl rfl) hi hn hk
    have hfit' : ∀ k, fit k ↔ fitAllows r ((s.taking p tag (.extend h r.rev)).following h.index r) k = true :=
      fun k => (hfit k).trans (fitAllows_iff r _ k).symm
    refine ⟨fun hs => exec_of_run rfl hready.1 (hrun.trans (if_pos hs)), fun hs h8 => ?_, fun hs h8 h1 h2 h3 => ?_,
      fun k hs h8 hk1 hk3 hk hmax => ?_⟩
    · exact exec_of_run rfl hready.1 (hrun.trans ((if_neg (not_not.mpr hs)).trans (if_pos h8)))
    · have hzero := State.extensionFit_eq_zero hfit' h1 h2 h3
      rw [if_neg (not_not.mpr hs), if_neg (Nat.not_le.mpr h8), if_pos hzero, State.fitLimiter_eq] at hrun
      exact exec_of_run rfl hready.1 hrun
    · have hgreat := State.extensionFit_of_greatest hfit' hk1 hk3 hk hmax
      rw [if_neg (not_not.mpr hs), if_neg (Nat.not_le.mpr h8), hgreat, if_neg (by omega)] at hrun
      obtain ⟨h1, h2, h3⟩ := extendRec_spec (s.taking p tag (.extend h r.rev)) h.index r k (.port p)
      obtain ⟨hhandle, -, -⟩ := Pool.handle_of_named? hn
      have hh : (s.taking p tag (.extend h r.rev)).recHandle h.index = h := hhandle
      unfold extendNotice at h2
      rw [hh] at h2
      exact ⟨_, exec_of_run rfl hready.1 hrun, h1.record, h1.handle.trans hhandle, h1.others, h1.rev, h1.room, h2, h3⟩

end Sys2Proof.Machine
end

section
/-! SUPPORT. WAIT_ADD and WAIT_REMOVE (O38). -/

namespace Sys2Proof.Machine

/-! ### WAIT_ADD -/

theorem roomsOut_of_ranges {rooms : List Nat} (h0 : rooms ≠ []) (h4 : rooms.length ≤ 4) (hr : ∀ r, r ∈ rooms → r ≤ 159)
    (hn : rooms.Nodup) : roomsOut rooms = false := by
  have hany : rooms.any roomOut = false := List.any_eq_false.mpr fun r h => by
    rw [roomOut_eq_false (hr r h)]
    decide
  unfold roomsOut
  rw [hany, List.isEmpty_eq_false_iff.mpr h0, decide_eq_false (Nat.not_lt.mpr h4), decide_eq_true hn]
  rfl

theorem expiryMinute_eq (a : WaitAddArgs) : expiryMinute a = match a.expiry with
    | none => (a.plane : Int) * 1440 + 5 * ((a.start / 5 : Nat) : Int)
    | some (d, m) => (d : Int) * 1440 + (m : Int) := by
  unfold expiryMinute
  cases a.expiry <;> rfl

/-- The ranges of a WAIT_ADD (R64, R141). -/
theorem waitOut_of_ranges {s : State} {a : WaitAddArgs} (h0 : a.rooms ≠ []) (h4 : a.rooms.length ≤ 4)
    (hr : ∀ r, r ∈ a.rooms → r ≤ 159) (hn : a.rooms.Nodup) (hp : a.plane ≤ 7) (hs : a.start ≤ 1439)
    (he : a.stop ≤ 1440) (hlt : a.start / 5 < (a.stop + 4) / 5) (hl : (a.stop + 4) / 5 - a.start / 5 ≤ 144)
    (hflex : a.flex ≤ 24) (h1 : 1 ≤ a.attendees) (h400 : a.attendees ≤ 400)
    (hday : ∀ d m, a.expiry = some (d, m) → d ≤ 7 ∧ m ≤ 1439)
    (hexp : expiryMinute a ≤ (a.plane : Int) * 1440 + 5 * ((a.start / 5 : Nat) : Int))
    (hcater : ∀ q, a.cater = some q → s.requestOut q = false ∧
      (a.plane : Int) * 1440 + 5 * ((min (a.start / 5 + a.flex) (288 - ((a.stop + 4) / 5 - a.start / 5)) : Nat) : Int) +
        q.offset ≤ 11519) : s.waitOut a = false := by
  have hexpiry : a.expiry.any (fun e => decide (7 < e.1) || decide (1439 < e.2)) = false := by
    cases he : a.expiry with
    | none => rfl
    | some e =>
      obtain ⟨hd, hm⟩ := hday e.1 e.2 he
      exact Bool.or_eq_false_iff.mpr ⟨decide_eq_false (Nat.not_lt.mpr hd), decide_eq_false (Nat.not_lt.mpr hm)⟩
  have hq : a.cater.any (fun q => s.requestOut q || deliveryOut (slotMinute a.plane (latestStart (startSlot a.start)
      (stopSlot a.stop - startSlot a.start) a.flex)) q.offset) = false := by
    cases hc : a.cater with
    | none => rfl
    | some q =>
      obtain ⟨h1, h2⟩ := hcater q hc
      exact Bool.or_eq_false_iff.mpr ⟨h1, decide_eq_false (Int.not_lt.mpr h2)⟩
  unfold State.waitOut
  dsimp only
  rw [roomsOut_of_ranges h0 h4 hr hn, spanOut_of_le hp hs he, lengthOut_of_le (start := startSlot a.start)
    (stop := stopSlot a.stop) hlt hl, decide_eq_false (Nat.not_lt.mpr hflex), attendeesOut_of_le h1 h400, hexpiry, hq,
    decide_eq_false (p := slotMinute a.plane (startSlot a.start) < expiryMinute a) (Int.not_lt.mpr hexp)]
  rfl

theorem runWaitAdd_of_ranges {s : State} {p : Port} {tag : Byte} {a : WaitAddArgs} (hc : s.waitCheck p = none)
    (ho : s.waitOut a = false) : runWaitAdd p tag a s =
      if s.startPassed a.plane (startSlot a.start) then refuse s .tooLate
      else if a.rooms.all (fun r => decide ((s.room r).seats < a.attendees)) then refuse s .capacity
      else match Pool.lowestFree s.wait.pool Config.waitCap with
        | none => refuse s .full (.full .waitlist)
        | some w =>
          accept ((s.addEntry w (entryOf p tag a)).scan [w])
            (waitAddedPayload a (Pool.handle s.wait.pool w) ((s.addEntry w (entryOf p tag a)).scan [w])) := by
  unfold runWaitAdd
  rw [hc]
  exact if_neg (by rw [ho]; decide)

theorem State.promotedTo_eq {s : State} {w : Nat} {g : BitVec 8} {b : Handle} {r : Rec}
    (hf : Table.read none s.wait.fates w = some ⟨g, .promoted b⟩) (hn : Pool.named? s.book.pool b = some r) :
    s.promotedTo w = some (b, r.rev, r.order.isSome) := by
  unfold State.promotedTo
  rw [hf]
  dsimp only
  rw [hn]
  rfl

/-! ### WAIT_REMOVE -/

theorem State.waitGone_eq (s : State) (h : Handle) : s.waitGone h = match Table.read none s.wait.fates h.index with
    | none => none
    | some f => if f.gen = h.gen then some f.fate else none := by
  unfold State.waitGone
  cases Table.read none s.wait.fates h.index with
  | none => rfl
  | some f => by_cases hg : f.gen = h.gen <;> simp [Option.filter, hg]

theorem runWaitRemove_of_index {s : State} {p : Port} {h : Handle} (hc : s.waitCheck p = none) (hi : h.index ≤ 63) :
    runWaitRemove p h s = match Pool.named? s.wait.pool h with
      | none => refuse s .noSuch (.waitGone (s.waitGone h))
      | some e =>
        accept (if e.requester = p then s.freeEntry h.index .removed
          else (s.freeEntry h.index .removed).raise (removedNotice p h e)) := by
  unfold runWaitRemove
  rw [hc]
  exact if_neg (by rw [show waitIndexOut h = false from decide_eq_false (Nat.not_lt.mpr hi)]; decide)

/-- What WAIT_REMOVE leaves (R67). -/
theorem removedEntry_spec (s : State) (p : Port) (h : Handle) (e : WaitEntry) (u : State)
    (hu : u = if e.requester = p then s.freeEntry h.index .removed
      else (s.freeEntry h.index .removed).raise (removedNotice p h e)) :
    u.wait = (s.freeEntry h.index .removed).wait ∧
    u.ports = (if e.requester = p then s.ports else s.portsAfter s.book.rev (removedNotice p h e)) ∧
    sameBut ([.waitlist] ++ noticeParts) s u := by
  have hfree : sameBut ([.waitlist] ++ noticeParts) s (s.freeEntry h.index .removed) :=
    sameBut_mono (by simp) (freeEntry_sameBut s h.index .removed)
  have hraise := raise_sameBut (s.freeEntry h.index .removed) (removedNotice p h e)
  by_cases hp : e.requester = p
  · rw [if_pos hp] at hu ⊢
    subst hu
    exact ⟨rfl, rfl, hfree⟩
  · rw [if_neg hp] at hu ⊢
    subst hu
    exact ⟨hraise .waitlist (by decide), ports_raise (s := s) (t := s.freeEntry h.index .removed) rfl rfl rfl rfl _,
      sameBut_trans hfree (sameBut_mono (by simp) hraise)⟩

/-- Settles O38. -/
theorem waitlistCommands : Obligations.WaitlistCommands := by
  unfold Obligations.WaitlistCommands
  refine ⟨?add, fun p tag h s hready hi => ?remove⟩
  case add =>
    rintro p tag a s _ _ expiry hready h0 h4 hr hn hp hs he rfl rfl hlt hl hflex h1 h400 hday hexpiry hexp hcater
    have hexpiry' : expiry = expiryMinute a := hexpiry.trans (expiryMinute_eq a).symm
    subst hexpiry'
    have hrun := runWaitAdd_of_ranges (s := s.taking p tag (.waitAdd a)) (tag := tag)
      (waitCheck_of_ready hready rfl rfl)
      (waitOut_of_ranges h0 h4 hr hn hp hs he hlt hl hflex h1 h400 hday hexp hcater)
    have hpassed : ¬ (a.plane = 0 ∧ a.start / 5 < s.currentSlot) →
        ¬ (s.taking p tag (.waitAdd a)).startPassed a.plane (startSlot a.start) = true :=
      fun hpast h => hpast ((startPassed_iff _ _ _).mp h)
    refine ⟨fun hpast => ?late, fun hpast hseats => ?capacity, fun r hpast hroom hseats => ?placed⟩
    case late =>
      exact exec_of_run rfl hready.1 (hrun.trans (if_pos ((startPassed_iff _ _ _).mpr hpast)))
    case capacity =>
      have hall : a.rooms.all (fun r => decide (((s.taking p tag (.waitAdd a)).room r).seats < a.attendees)) = true :=
        List.all_eq_true.mpr fun r hr => decide_eq_true (hseats r hr)
      rw [if_neg (hpassed hpast), if_pos hall] at hrun
      exact exec_of_run rfl hready.1 hrun
    case placed =>
      have hsome : ¬ a.rooms.all (fun r => decide (((s.taking p tag (.waitAdd a)).room r).seats < a.attendees)) = true :=
        fun hall => absurd (of_decide_eq_true (List.all_eq_true.mp hall r hroom)) (Nat.not_lt.mpr hseats)
      rw [if_neg (hpassed hpast), if_neg hsome] at hrun
      refine ⟨fun hfull => ?_, fun w hlow => ?_⟩
      · have hnone : Pool.lowestFree (s.taking p tag (.waitAdd a)).wait.pool Config.waitCap = none :=
          Pool.lowestFree_eq_none.mpr hfull
        rw [hnone] at hrun
        exact exec_of_run rfl hready.1 hrun
      · have hsome : Pool.lowestFree (s.taking p tag (.waitAdd a)).wait.pool Config.waitCap = some w :=
          (Pool.lowestFree_iff _ _ _).mpr hlow
        rw [hsome] at hrun
        obtain ⟨e1, e2, e3, e4, e5⟩ := addEntry_spec (s.taking p tag (.waitAdd a)) w (entryOf p tag a)
        refine ⟨(s.taking p tag (.waitAdd a)).addEntry w (entryOf p tag a), _, _, exec_of_run rfl hready.1 hrun, e1, e2,
          e3, e4, e5, fun hw => ?_, fun hw => ?_, addEntry_sameBut _ _ _⟩
        · exact ⟨if_pos (List.contains_iff_mem.mpr hw), if_pos (List.contains_iff_mem.mpr hw)⟩
        · exact ⟨if_neg (mt List.contains_iff_mem.mp hw), fun b r hf hb =>
            (if_neg (mt List.contains_iff_mem.mp hw)).trans (State.promotedTo_eq hf hb)⟩
  case remove =>
    have hrun := runWaitRemove_of_index (s := s.taking p tag (.waitRemove h)) (waitCheck_of_ready hready rfl rfl) hi
    refine ⟨fun hn => ?gone, fun e hn => ?removed⟩
    case gone =>
      have hn' : Pool.named? (s.taking p tag (.waitRemove h)).wait.pool h = none := hn
      rw [hn', State.waitGone_eq] at hrun
      exact exec_of_run rfl hready.1 hrun
    case removed =>
      have hn' : Pool.named? (s.taking p tag (.waitRemove h)).wait.pool h = some e := hn
      rw [hn'] at hrun
      obtain ⟨-, hgen, -⟩ := Pool.handle_of_named? hn
      obtain ⟨f1, f2, f3, f4, f5⟩ := freeEntry_spec (s.taking p tag (.waitRemove h)) h.index .removed
      obtain ⟨hw, hports, hsame⟩ := removedEntry_spec (s.taking p tag (.waitRemove h)) p h e _ rfl
      have hgen' : (Pool.entry (s.taking p tag (.waitRemove h)).wait.pool h.index).gen = h.gen := hgen
      rw [hgen'] at f1 f4
      refine ⟨_, exec_of_run rfl hready.1 hrun, ?_, ?_, ?_, ?_, ?_, hports, hsame⟩
      · rw [hw]; exact f1
      · intro j hj
        rw [hw]
        exact f2 j hj
      · rw [hw]; exact f3
      · rw [hw]; exact f4
      · rw [hw]; exact f5

end Sys2Proof.Machine
end

section
/-! SUPPORT. LIST_CHANGES and LIST_NEXT (O37): the candidates, their sorting by revision, and a batch. -/

namespace Sys2Proof.Machine

/-! ### Candidates -/

theorem State.mem_listItems (s : State) (x : ListItem) : x ∈ s.listItems ↔
    (∃ i r, (i, r) ∈ s.liveRecs ∧ x = .record r.room r.plane (s.summary (i, r))) ∨
    (∃ j o, (j, o) ∈ Pool.live s.plan.orders ∧
      x = .order (Pool.handle s.plan.orders j) o.booking o.state o.rev) ∨
    ∃ t, t ∈ s.book.ring ∧ x = .tomb t := by
  unfold State.listItems
  simp only [List.mem_append, List.mem_map, Prod.exists, or_assoc, eq_comm (a := x)]

theorem State.mem_candidates (s : State) (l : Listing) (x : ListItem) :
    x ∈ s.candidates l ↔ l.cursor < x.rev ∧ x.rev ≤ l.ceiling ∧ x ∈ s.listItems := by
  unfold State.candidates
  rw [List.mem_filter, Bool.and_eq_true, decide_eq_true_eq, decide_eq_true_eq]
  tauto

/-! ### Sorting by revision -/

/-- Items numbered by their place among the candidates stand in non-decreasing revision. -/
def revSorted (l : List (Nat × ListItem)) : Prop := l.Pairwise (fun x y => x.2.rev ≤ y.2.rev)

theorem rev_le_of_itemBefore {c : Nat} {x y : Nat × ListItem} (h : itemBefore c x y = true) : x.2.rev ≤ y.2.rev := by
  unfold itemBefore at h
  simp only [Bool.or_eq_true, Bool.and_eq_true, decide_eq_true_eq, beq_iff_eq] at h
  omega

theorem rev_le_of_not_itemBefore {c : Nat} {x y : Nat × ListItem} (h : ¬ itemBefore c x y = true) :
    y.2.rev ≤ x.2.rev := by
  unfold itemBefore at h
  simp only [Bool.or_eq_true, decide_eq_true_eq, not_or] at h
  omega

theorem perm_insertItem (c : Nat) (x : Nat × ListItem) (l : List (Nat × ListItem)) :
    (insertItem c x l).Perm (x :: l) := by
  induction l with
  | nil => exact List.Perm.refl _
  | cons y l ih =>
    unfold insertItem
    split
    · exact List.Perm.refl _
    · exact (ih.cons y).trans (List.Perm.swap x y l)

theorem revSorted_insertItem (c : Nat) (x : Nat × ListItem) {l : List (Nat × ListItem)} (h : revSorted l) :
    revSorted (insertItem c x l) := by
  induction l with
  | nil => exact List.pairwise_singleton _ _
  | cons y l ih =>
    obtain ⟨hy, hl⟩ := List.pairwise_cons.mp h
    unfold insertItem
    split
    next hb =>
      have hxy := rev_le_of_itemBefore hb
      exact List.pairwise_cons.mpr ⟨List.forall_mem_cons.mpr ⟨hxy, fun z hz => hxy.trans (hy z hz)⟩, h⟩
    next hb =>
      refine List.pairwise_cons.mpr ⟨fun z hz => ?_, ih hl⟩
      rcases List.mem_cons.mp ((perm_insertItem c x l).mem_iff.mp hz) with rfl | hz
      · exact rev_le_of_not_itemBefore hb
      · exact hy z hz

theorem foldr_insertItem (c : Nat) (l : List (Nat × ListItem)) :
    (l.foldr (insertItem c) []).Perm l ∧ revSorted (l.foldr (insertItem c) []) := by
  induction l with
  | nil => exact ⟨List.Perm.refl _, List.Pairwise.nil⟩
  | cons x l ih => exact ⟨(perm_insertItem c x _).trans (ih.1.cons x), revSorted_insertItem c x ih.2⟩

/-- Sorting keeps the items and puts them in non-decreasing revision (R59). -/
theorem sortItems_spec (c : Nat) (items : List ListItem) :
    (sortItems c items).Perm items ∧ (sortItems c items).Pairwise (fun x y => x.rev ≤ y.rev) := by
  obtain ⟨hperm, hsorted⟩ := foldr_insertItem c ((List.range items.length).zip items)
  refine ⟨?_, List.pairwise_map.mpr hsorted⟩
  have hmap := hperm.map Prod.snd
  rwa [List.map_snd_zip (by simp)] at hmap

/-! ### A batch -/

theorem PerPort.at_set_same {α : Type} (v : PerPort α) (p : Port) (x : α) : (v.set p x).at p = x := by
  cases p <;> rfl

theorem PerPort.at_set_other {α : Type} (v : PerPort α) (p q : Port) (x : α) (h : q ≠ p) :
    (v.set p x).at q = v.at q := by
  cases p <;> cases q <;> first | rfl | exact absurd rfl h

/-- What a batch holds (R59, R60). -/
theorem State.isBatch_batchItems (s : State) (l : Listing) : isBatch s l (s.batchItems l) (s.batchCompletes l) := by
  obtain ⟨hperm, hsorted⟩ := sortItems_spec s.choices (s.candidates l)
  have hsplit : s.batchItems l ++ (sortItems s.choices (s.candidates l)).drop 4 = sortItems s.choices (s.candidates l) :=
    List.take_append_drop 4 _
  refine ⟨⟨(sortItems s.choices (s.candidates l)).drop 4, by rw [hsplit]; exact hperm, fun x y hx hy => ?_⟩, ?_,
    hsorted.take, ?_⟩
  · rw [← hsplit] at hsorted
    exact (List.pairwise_append.mp hsorted).2.2 x hx y hy
  · rw [← hperm.length_eq]
    exact List.length_take
  · unfold State.batchCompletes
    simp only [Bool.not_eq_true', List.any_eq_false, decide_eq_true_eq, not_lt]

theorem State.listingAfter_eq (s : State) (l : Listing) :
    s.listingAfter l = listingLeft l (s.batchItems l) (s.batchCompletes l) := rfl

/-- What sending a batch leaves (R59, R60). -/
theorem sendBatch_spec (s : State) (p : Port) (l : Listing) (ceiling : Option Nat) (overrun : Bool) :
    ∃ u, s.sendBatch p l ceiling overrun = (u,
        { code := .ok, overrun := overrun
          payload := .batch ceiling (s.batchItems l) l.gapToReport (s.batchCompletes l) }) ∧
      u.book.listings.at p = listingLeft l (s.batchItems l) (s.batchCompletes l) ∧
      (∀ q, q ≠ p → u.book.listings.at q = s.book.listings.at q) ∧ u.ports = s.ports ∧
      (s.exhausted = false → u.choices = s.choices) ∧ sameBut [.choices, .listings] s u := by
  refine ⟨_, rfl, ?_, fun q hq => ?_, ?_, fun he => ?_, fun x hx => ?_⟩
  · exact PerPort.at_set_same _ _ _
  · have hstate : ∀ b : Bool, (if b then s.countChoice else s).book.listings.at q = s.book.listings.at q := by
      intro b
      cases b <;> rfl
    exact (PerPort.at_set_other _ _ _ _ hq).trans (hstate s.exhausted)
  · change State.ports (if s.exhausted then s.countChoice else s) = s.ports
    split <;> rfl
  · rw [he]
    rfl
  · have hstate : ∀ b : Bool, x.agree s (State.setListing (if b then s.countChoice else s) p (s.listingAfter l)) := by
      intro b
      cases b <;> cases x with
      | choices | listings => exact absurd (by decide) hx
      | _ => first | exact rfl | exact fun _ => rfl | exact ⟨rfl, rfl⟩ | exact fun _ => ⟨rfl, rfl, rfl, rfl⟩
    exact hstate s.exhausted

/-! ### LIST_CHANGES -/

theorem runListChanges_of_range {s : State} {p : Port} {n : Nat} (hm : s.mayIssueAny p = true) (hn : n ≤ s.book.rev) :
    runListChanges p n s = State.sendBatch (s.setPort p (s.port p).clearOverrun) p ⟨s.book.rev, n, s.gapSince n⟩
      (some s.book.rev) (s.port p).flags.overrun := by
  unfold runListChanges
  rw [hm, if_neg (by decide), if_neg (Nat.not_lt.mpr hn)]

theorem State.gapSince_eq (s : State) (n : Nat) : s.gapSince n =
    ((s.book.wrapped && (match s.book.ring with
        | [] => false
        | t :: _ => decide (n < t.rev))) ||
      (match s.book.clearMark with
        | none => false
        | some m => decide (n ≤ m))) := by
  unfold State.gapSince
  cases s.book.ring <;> cases s.book.clearMark <;> rfl

/-- Clearing the OVERRUN of a port that reads nothing changes nothing but that flag. -/
theorem setPort_clearOverrun (s : State) (p : Port) (hr : (s.port p).reading = none) :
    ((s.setPort p (s.port p).clearOverrun).port p).flags = { (s.port p).flags with overrun := false } ∧
    (∀ q, q ≠ p → (s.setPort p (s.port p).clearOverrun).port q = s.port q) ∧
    sameBut [.flags] s (s.setPort p (s.port p).clearOverrun) := by
  have hsame : (s.setPort p (s.port p).clearOverrun).port p = (s.port p).clearOverrun := State.port_setPort_same _ _ _
  have hother : ∀ q, q ≠ p → (s.setPort p (s.port p).clearOverrun).port q = s.port q :=
    fun q hq => State.port_setPort_other _ _ _ _ hq
  have hread : (s.port p).clearOverrun.reading = (s.port p).reading := by
    unfold AgentPort.clearOverrun
    rw [hr]
    rfl
  have hports : ∀ {β : Type} (f : AgentPort → β), f (s.port p).clearOverrun = f (s.port p) →
      ∀ q, f ((s.setPort p (s.port p).clearOverrun).port q) = f (s.port q) := by
    intro β f hf q
    by_cases hq : q = p
    · rw [hq, hsame, hf]
    · rw [hother q hq]
  refine ⟨by rw [hsame]; rfl, hother, fun x hx => ?_⟩
  cases x with
  | flags => exact absurd (by decide) hx
  | roles => exact hports AgentPort.roles rfl
  | queues => exact hports AgentPort.queue rfl
  | readings => exact hports AgentPort.reading hread
  | portStates =>
    exact fun q => ⟨hports AgentPort.receiving rfl q, hports AgentPort.base rfl q, hports AgentPort.slot rfl q,
      hports AgentPort.inHand rfl q⟩
  | _ => first | exact rfl | exact fun _ => rfl | exact ⟨rfl, rfl⟩

theorem runListNext_of_any {p : Port} {s : State} (hm : s.mayIssueAny p = true) :
    runListNext p s = match s.book.listings.at p with
      | none => refuse s .state
      | some l => s.sendBatch p l none false := by
  unfold runListNext
  exact if_neg (by rw [hm]; decide)

/-- Settles O37. -/
theorem listingBatches : Obligations.ListingBatches := by
  unfold Obligations.ListingBatches
  refine ⟨fun s l x => ?candidates, fun p tag s hready hl => ?noListing, fun p tag s l hready hl => ?next,
    fun p tag n s hready hn => ?range, fun p tag n s l hready hn hl => ?changes⟩
  case candidates => rw [State.mem_candidates, State.mem_listItems]; rfl
  case noListing =>
    have hrun := runListNext_of_any (mayIssueAny_of_ready tag hready (fun _ => rfl))
    have hl' : (s.taking p tag .listNext).book.listings.at p = none := hl
    rw [hl'] at hrun
    exact exec_of_run rfl hready.1 hrun
  case next =>
    have hrun := runListNext_of_any (mayIssueAny_of_ready tag hready (fun _ => rfl))
    have hl' : (s.taking p tag .listNext).book.listings.at p = some l := hl
    rw [hl'] at hrun
    obtain ⟨u, hu, h1, h2, -, h4, h5⟩ := sendBatch_spec (s.taking p tag .listNext) p l none false
    exact ⟨_, _, u, State.isBatch_batchItems (s.taking p tag .listNext) l, exec_of_run rfl hready.1 (hrun.trans hu), h1,
      h2, h4, h5⟩
  case range =>
    refine exec_of_run (r := Reply.refusal .range) rfl hready.1 ?_
    change runListChanges p n (s.taking p tag (.listChanges n)) = _
    unfold runListChanges
    rw [mayIssueAny_of_ready tag hready (fun _ => rfl), if_neg (by decide)]
    exact if_pos hn
  case changes =>
    have hrun := runListChanges_of_range (s := s.taking p tag (.listChanges n)) (n := n)
      (mayIssueAny_of_ready tag hready (fun _ => rfl)) hn
    have hport : (s.taking p tag (.listChanges n)).port p = { s.port p with
        receiving := false, base := .executing, inHand := some (s.takenNow p tag (.listChanges n)) } :=
      State.port_setPort_same _ _ _
    have hl' : l = ⟨s.book.rev, n, (s.taking p tag (.listChanges n)).gapSince n⟩ := by
      rw [hl, State.gapSince_eq]
      rfl
    subst hl'
    obtain ⟨-, -, -, hread⟩ := hready.1
    obtain ⟨c1, c2, c3⟩ := setPort_clearOverrun (s.taking p tag (.listChanges n)) p (by rw [hport]; exact hread)
    obtain ⟨u, hu, h1, h2, h3, h4, h5⟩ := sendBatch_spec ((s.taking p tag (.listChanges n)).setPort p
      ((s.taking p tag (.listChanges n)).port p).clearOverrun) p
      ⟨s.book.rev, n, (s.taking p tag (.listChanges n)).gapSince n⟩ (some s.book.rev)
      ((s.taking p tag (.listChanges n)).port p).flags.overrun
    have hrun' := hrun.trans hu
    have hoverrun : ((s.taking p tag (.listChanges n)).port p).flags.overrun = (s.port p).flags.overrun :=
      congrArg (fun a => a.flags.overrun) hport
    rw [hoverrun] at hrun'
    have huport : ∀ q, u.port q = ((s.taking p tag (.listChanges n)).setPort p
        ((s.taking p tag (.listChanges n)).port p).clearOverrun).port q :=
      fun q => congrArg (fun v => v.at q) h3
    refine ⟨_, _, u, ?_, exec_of_run rfl hready.1 hrun', h1, h2, ?_, fun q hq => ?_, h4,
      sameBut_trans (sameBut_mono (by decide) c3) (sameBut_mono (by decide) h5)⟩
    · exact State.isBatch_batchItems ((s.taking p tag (.listChanges n)).setPort p
        ((s.taking p tag (.listChanges n)).port p).clearOverrun) _
    · rw [huport p, c1]
      exact congrArg (fun a => { a.flags with overrun := false }) hport
    · rw [huport q, c2 q hq]
      unfold State.taking
      rw [State.port_setPort_other _ _ _ _ hq]

end Sys2Proof.Machine
end

section
/-! SUPPORT. CONFIG_ROOM (O18): its checks, the record it stores, and the binding that follows it. -/

namespace Sys2Proof.Machine

/-! ### Where a unit id is found -/

/-- The chains' part of the tables' canonical form. -/
theorem State.tablesOk.chain {s : State} (h : s.tablesOk) (c : Nat) :
    Table.wf Position.cold (s.chain c).positions = true ∧ Table.wf none (s.chain c).noted = true := by
  obtain ⟨-, -, -, -, -, -, -, -, -, -, -, -, -, -, -, -, -, -, -, -, hchains⟩ := h
  exact hchains c

/-- The first number below a bound at which a search finds something. -/
theorem findSome?_range_eq_some {β : Type} {n : Nat} {f : Nat → Option β} {b : β}
    (h : (List.range n).findSome? f = some b) : ∃ a, a < n ∧ f a = some b ∧ ∀ c, c < a → f c = none := by
  obtain ⟨l₁, a, l₂, hl, ha, hbefore⟩ := List.findSome?_eq_some_iff.mp h
  have hmem : a ∈ List.range n := hl ▸ List.mem_append_right _ List.mem_cons_self
  have han := List.mem_range.mp hmem
  refine ⟨a, han, ha, fun c hc => ?_⟩
  have hsorted : (l₁ ++ a :: l₂).Pairwise (· < ·) := hl ▸ List.pairwise_lt_range
  obtain ⟨-, hright, -⟩ := List.pairwise_append.mp hsorted
  have hcm : c ∈ l₁ ++ a :: l₂ := hl ▸ List.mem_range.mpr (hc.trans han)
  rcases List.mem_append.mp hcm with hcl | hcr
  · exact hbefore c hcl
  · rcases List.mem_cons.mp hcr with rfl | hcr
    · exact absurd hc (lt_irrefl _)
    · exact absurd ((List.pairwise_cons.mp hright).1 c hcr) (Nat.lt_asymm hc)

theorem Position.answersFor_iff (q : Position) (v : BitVec 32) :
    q.answersFor v = true ↔ q.unitId = some v ∧ q.presence ≠ .absent := by
  unfold Position.answersFor
  simp

theorem position_mem {s : State} {c k : Nat} {v : BitVec 32} (h : (s.position c k).unitId = some v) :
    (k, s.position c k) ∈ (s.chain c).positions :=
  Table.mem_of_read (d := Position.cold) (t := (s.chain c).positions) (i := k)
    (fun hc => by
      have hcold : s.position c k = Position.cold := hc
      rw [hcold] at h
      cases h)

/-- Where no chain lists a position that answers for a unit id, none that holds it is present. -/
theorem absent_of_not_answersFor {s : State} {c k : Nat} {v : BitVec 32} (hu : (s.position c k).unitId = some v)
    (h : ¬ (s.position c k).answersFor v = true) : (s.position c k).presence = .absent := by
  by_contra hp
  exact h ((Position.answersFor_iff _ _).mpr ⟨hu, hp⟩)

/-- The location a unit id is found at: the lowest chain, and in it the lowest position, that holds it (R107). -/
theorem State.findUnit_some {s : State} (ht : s.tablesOk) {v : BitVec 32} {l : Location} (hl : s.findUnit v = some l) :
    l.chain < 4 ∧ (s.position l.chain l.pos).unitId = some v ∧ (s.position l.chain l.pos).presence ≠ .absent ∧
      ∀ c k, c < 4 → c < l.chain ∨ (c = l.chain ∧ k < l.pos) →
        (s.position c k).unitId = some v → (s.position c k).presence = .absent := by
  obtain ⟨c, hc, hfound, hbefore⟩ := findSome?_range_eq_some hl
  obtain ⟨e, he, rfl⟩ := Option.map_eq_some_iff.mp hfound
  obtain ⟨hwf, -⟩ := ht.chain c
  have hrising := ((Table.wf_iff _ _).mp hwf).1
  obtain ⟨hmem, hanswers, hlow⟩ := Table.find?_rising hrising he
  have hpos : s.position c e.1 = e.2 := Table.read_of_mem hrising hmem
  obtain ⟨hunit, hpresent⟩ := (Position.answersFor_iff _ _).mp hanswers
  refine ⟨hc, by rw [hpos]; exact hunit, by rw [hpos]; exact hpresent, fun d k hd hdk hu => ?_⟩
  refine absent_of_not_answersFor hu (fun hans => ?_)
  rcases hdk with hdc | ⟨rfl, hk⟩
  · have hnone := List.find?_eq_none.mp (Option.map_eq_none_iff.mp (hbefore d hdc)) _ (position_mem hu)
    exact hnone hans
  · have hno := hlow _ (position_mem hu) hk
    rw [hans] at hno
    cases hno

theorem State.findUnit_none {s : State} {v : BitVec 32} (hl : s.findUnit v = none) (c k : Nat) (hc : c < 4)
    (hu : (s.position c k).unitId = some v) : (s.position c k).presence = .absent := by
  have hnone := List.findSome?_eq_none_iff.mp hl c (List.mem_range.mpr hc)
  exact absent_of_not_answersFor hu
    (fun h => List.find?_eq_none.mp (Option.map_eq_none_iff.mp hnone) _ (position_mem hu) h)

/-! ### The binding that follows -/

theorem State.position_setPosition (s : State) (c p d q : Nat) (v : Position) :
    (s.setPosition c p v).position d q = if d = c ∧ q = p then v else s.position d q := by
  unfold State.position State.setPosition
  rw [State.chain_setChain]
  by_cases hd : d = c
  · subst hd
    rw [if_pos rfl]
    refine (Table.read_write _ _ _ _ _).trans ?_
    simp only [true_and]
    rfl
  · rw [if_neg hd, if_neg (fun h => hd h.1)]

theorem setPosition_sameBut (s : State) (c p : Nat) (v : Position) : sameBut [.chains] s (s.setPosition c p v) := by
  intro q hq
  cases q with
  | chains => exact absurd (by decide) hq
  | _ => first | exact rfl | exact fun _ => rfl | exact ⟨rfl, rfl⟩ | exact fun _ => ⟨rfl, rfl, rfl, rfl⟩

theorem setLocation_sameBut (s : State) (r : Nat) (l : Option Location) :
    sameBut [.locations] s (s.setLocation r l) := by
  intro q hq
  cases q with
  | locations => exact absurd (by decide) hq
  | _ => first | exact rfl | exact fun _ => rfl | exact ⟨rfl, rfl⟩ | exact fun _ => ⟨rfl, rfl, rfl, rfl⟩

theorem State.location_setLocation (s : State) (r q : Nat) (l : Option Location) :
    (s.setLocation r l).location q = if q = r then l else s.location q := Table.read_write _ _ _ _ _

theorem markDisplayDue_sameBut (s : State) (l : Option Location) : sameBut [.chains] s (s.markDisplayDue l) := by
  unfold State.markDisplayDue
  cases l with
  | none => exact sameBut_refl _ s
  | some l =>
    dsimp only
    split
    · exact setPosition_sameBut s _ _ _
    · exact sameBut_refl _ s

/-- A position after the display of a location has been marked due (R125). -/
theorem position_markDisplayDue (s : State) (l : Option Location) (c k : Nat) :
    (s.markDisplayDue l).position c k = { s.position c k with
      due := (s.position c k).due || ((l == some ⟨c, k⟩) && (s.position c k).unitId.isSome) } := by
  have hkeep : (s.position c k) = { s.position c k with due := (s.position c k).due || false } := by
    rw [Bool.or_false]
  cases l with
  | none => exact hkeep
  | some l =>
    by_cases hl : l = ⟨c, k⟩
    · subst hl
      rw [beq_self_eq_true, Bool.true_and]
      unfold State.markDisplayDue
      dsimp only
      cases hu : (s.position c k).unitId.isSome with
      | true => rw [if_pos rfl, State.position_setPosition, if_pos ⟨rfl, rfl⟩, Bool.or_true]
      | false => exact hkeep
    · rw [beq_eq_false_iff_ne.mpr (fun h => hl (Option.some.inj h)), Bool.false_and]
      unfold State.markDisplayDue
      dsimp only
      split
      · rw [State.position_setPosition, if_neg (fun h => hl (by rw [h.1, h.2]))]
        exact hkeep
      · exact hkeep

theorem State.position_of_sameBut {l : List Part} {s t : State} (h : sameBut l s t) (hl : Part.chains ∉ l) (c k : Nat) :
    t.position c k = s.position c k := by
  have hc : t.link.chains = s.link.chains := h .chains hl
  unfold State.position State.chain
  rw [hc]

theorem State.location_of_sameBut {l : List Part} {s t : State} (h : sameBut l s t) (hl : Part.locations ∉ l) (r : Nat) :
    t.location r = s.location r := by
  have hc : t.link.locations = s.link.locations := h .locations hl
  unfold State.location
  rw [hc]

theorem State.linkedPosition?_of_sameBut {l : List Part} {s t : State} (h : sameBut l s t) (hc : Part.chains ∉ l)
    (hl : Part.locations ∉ l) (r : Nat) : t.linkedPosition? r = s.linkedPosition? r := by
  unfold State.linkedPosition?
  rw [State.location_of_sameBut h hl]
  simp only [State.position_of_sameBut h hc]

/-- What moving a room's location leaves (R106, R107, R125). -/
theorem relocate_spec (s : State) (room : Nat) (l : Option Location) :
    (∀ q, (s.relocate room l).location q = if q = room then l else s.location q) ∧
    (∀ c k, (s.relocate room l).position c k = { s.position c k with
      due := (s.position c k).due || (!(s.location room == l) &&
        (s.location room == some ⟨c, k⟩ || l == some ⟨c, k⟩) && (s.position c k).unitId.isSome) }) ∧
    sameBut [.locations, .chains] s (s.relocate room l) := by
  unfold State.relocate
  by_cases hl : s.location room = l
  · rw [if_pos hl]
    refine ⟨fun q => ?_, fun c k => ?_, sameBut_refl _ s⟩
    · by_cases hq : q = room
      · rw [if_pos hq, hq, hl]
      · rw [if_neg hq]
    · rw [hl, beq_self_eq_true, Bool.not_true, Bool.false_and, Bool.false_and, Bool.or_false]
  · rw [if_neg hl]
    have hset := setLocation_sameBut s room l
    have hmark := markDisplayDue_sameBut (s.setLocation room l) (s.location room)
    have hmark' := markDisplayDue_sameBut ((s.setLocation room l).markDisplayDue (s.location room)) l
    refine ⟨fun q => ?_, fun c k => ?_, sameBut_trans (sameBut_mono (by decide) hset)
      (sameBut_trans (sameBut_mono (by decide) hmark) (sameBut_mono (by decide) hmark'))⟩
    · rw [State.location_of_sameBut hmark' (by decide), State.location_of_sameBut hmark (by decide),
        State.location_setLocation]
    · rw [position_markDisplayDue, position_markDisplayDue, State.position_of_sameBut hset (by decide),
        beq_eq_false_iff_ne.mpr hl, Bool.not_false, Bool.true_and, Bool.or_assoc, Bool.and_or_distrib_right]

/-- The parts a followed binding may change. -/
def bindingParts : List Part :=
  [.displayRevs, .locations, .chains, .displays, .records, .revision, .vacancy] ++ noticeParts

/-- What the link controller makes of a changed binding (R107). -/
theorem followBinding_spec (s : State) (room : Nat) (v : Option (BitVec 32)) :
    (∀ q, (s.followBinding room v).location q = if q = room then v.bind s.findUnit else s.location q) ∧
    (∀ c k, (s.followBinding room v).position c k = { s.position c k with
      due := (s.position c k).due || (!(s.location room == v.bind s.findUnit) &&
        (s.location room == some ⟨c, k⟩ || v.bind s.findUnit == some ⟨c, k⟩) && (s.position c k).unitId.isSome) }) ∧
    (s.followBinding room v).display room =
      ⟨(s.followBinding room v).contentOf room, (s.followBinding room v).displayDeadlineOf room⟩ ∧
    (((s.followBinding room v).linkedPosition? room).isSome = false →
      sameBut [.displayRevs, .locations, .chains, .displays] s (s.followBinding room v)) ∧
    sameBut bindingParts s (s.followBinding room v) := by
  obtain ⟨hloc, hpos, hrel⟩ := relocate_spec s room (v.bind s.findUnit)
  obtain ⟨w, hw⟩ : ∃ w, w = if ((s.relocate room (v.bind s.findUnit)).linkedPosition? room).isSome
    then (s.relocate room (v.bind s.findUnit)).sensorTest room else s.relocate room (v.bind s.findUnit) := ⟨_, rfl⟩
  have hfollow : s.followBinding room v = w.recompute room := by rw [hw]; rfl
  have htest : sameBut checkInParts (s.relocate room (v.bind s.findUnit)) w := by
    rw [hw]
    split
    · exact sensorTest_sameBut _ room
    · exact sameBut_refl _ _
  have hrec := recompute_sameBut w room
  have hboth : sameBut checkInParts (s.relocate room (v.bind s.findUnit)) (w.recompute room) :=
    sameBut_trans htest (sameBut_mono (by decide) hrec)
  rw [hfollow]
  refine ⟨fun q => ?_, fun c k => ?_, (displayFollows_recompute ⟨rfl, rfl⟩).1, fun hlinked => ?_,
    sameBut_trans (sameBut_mono (by decide) hrel) (sameBut_mono (by decide) hboth)⟩
  · rw [State.location_of_sameBut hboth (by decide), hloc]
  · rw [State.position_of_sameBut hboth (by decide), hpos]
  · rw [State.linkedPosition?_of_sameBut hboth (by decide) (by decide)] at hlinked
    have hwt : w = s.relocate room (v.bind s.findUnit) := by rw [hw, hlinked]; rfl
    rw [hwt] at hrec ⊢
    exact sameBut_trans (sameBut_mono (by decide) hrel) (sameBut_mono (by decide) hrec)

/-! ### The checks of CONFIG_ROOM -/

theorem roomFieldsOut_of_out {s : State} {a : ConfigRoomArgs}
    (h : 159 < a.room ∨ s.site.buildings ≤ a.building ∨ a.seats < 1 ∨ 400 < a.seats ∨ 6 < a.setup ∨ 6 < a.clear ∨
      (∃ t, a.threshold = some t ∧ (t < 1 ∨ 15 < t))) : s.roomFieldsOut a = true := by
  unfold State.roomFieldsOut
  simp only [Bool.or_eq_true, decide_eq_true_eq]
  rcases h with h | h | h | h | h | h | ⟨t, ht, h⟩
  · exact .inl (.inl (.inl (.inl (.inl (.inl (roomOut_eq_true h))))))
  · exact .inl (.inl (.inl (.inl (.inl (.inr h)))))
  · exact .inl (.inl (.inl (.inl (.inr h))))
  · exact .inl (.inl (.inl (.inr h)))
  · exact .inl (.inl (.inr h))
  · exact .inl (.inr h)
  · exact .inr (by rw [ht]; simpa using h)

theorem roomFieldsOut_of_ranges {s : State} {a : ConfigRoomArgs} (hr : a.room ≤ 159)
    (hb : a.building < s.site.buildings) (h1 : 1 ≤ a.seats) (h400 : a.seats ≤ 400) (hs : a.setup ≤ 6)
    (hc : a.clear ≤ 6) (ht : ∀ t, a.threshold = some t → 1 ≤ t ∧ t ≤ 15) : s.roomFieldsOut a = false := by
  have hthreshold : a.threshold.any (fun t => decide (t < 1) || decide (15 < t)) = false := by
    cases hthr : a.threshold with
    | none => rfl
    | some t =>
      obtain ⟨hlo, hhi⟩ := ht t hthr
      exact Bool.or_eq_false_iff.mpr ⟨decide_eq_false (Nat.not_lt.mpr hlo), decide_eq_false (Nat.not_lt.mpr hhi)⟩
  unfold State.roomFieldsOut
  rw [roomOut_eq_false hr, hthreshold, decide_eq_false (Nat.not_le.mpr hb), decide_eq_false (Nat.not_lt.mpr h1),
    decide_eq_false (Nat.not_lt.mpr h400), decide_eq_false (Nat.not_lt.mpr hs), decide_eq_false (Nat.not_lt.mpr hc)]
  rfl

/-- A unit id that another room holds is found, in another room (R3). -/
theorem State.boundElsewhere_spec {s : State} {a : ConfigRoomArgs} {v : BitVec 32} {q : Nat}
    (hw : Table.wf Room.cold s.site.rooms = true) (ha : a.unitChoice = .bind v) (hq : q ≠ a.room)
    (hv : (s.room q).unitId = some v) :
    ∃ other, s.boundElsewhere a = some other ∧ other ≠ a.room ∧ (s.room other).unitId = some v := by
  have hrising := ((Table.wf_iff _ _).mp hw).1
  have hmem : (q, s.room q) ∈ s.site.rooms := Table.mem_of_read (fun hc => by
    have hcold : s.room q = Room.cold := hc
    rw [hcold] at hv
    cases hv)
  unfold State.boundElsewhere
  rw [ha]
  dsimp only
  cases hf : s.site.rooms.find? (fun e => !(e.1 == a.room) && e.2.unitId == some v) with
  | none =>
    have hno := List.find?_eq_none.mp hf _ hmem
    simp [hq, hv] at hno
  | some e =>
    obtain ⟨he, htest, -⟩ := Table.find?_rising hrising hf
    have hroom : s.room e.1 = e.2 := Table.read_of_mem hrising he
    simp only [Bool.and_eq_true, Bool.not_eq_true', beq_eq_false_iff_ne, beq_iff_eq] at htest
    exact ⟨e.1, rfl, htest.1, by rw [hroom]; exact htest.2⟩

/-- No other listed room holds the unit id given (R3). -/
theorem State.boundElsewhere_eq_none {s : State} {a : ConfigRoomArgs}
    (h : ∀ v, a.unitChoice = .bind v → ∀ e, e ∈ s.site.rooms → e.1 ≠ a.room → e.2.unitId ≠ some v) :
    s.boundElsewhere a = none := by
  unfold State.boundElsewhere
  cases ha : a.unitChoice with
  | bind v =>
    refine Option.map_eq_none_iff.mpr (List.find?_eq_none.mpr fun e he => ?_)
    simp only [Bool.and_eq_true, Bool.not_eq_true', beq_eq_false_iff_ne, beq_iff_eq, not_and]
    exact h v ha e he
  | _ => rfl

theorem State.overSeated_of_first {s : State} {room seats n : Nat} {pre post : List (Nat × Rec)} {e : Nat × Rec}
    (hsplit : s.roomRecs room = pre ++ e :: post) (he : e.2.attendees = some n) (hn : seats < n)
    (hpre : ∀ f m, f ∈ pre → f.2.attendees = some m → m ≤ seats) : s.overSeated room seats = some e.1 := by
  have hnone : pre.find? (fun f => f.2.attendees.any (fun n => decide (seats < n))) = none :=
    List.find?_eq_none.mpr fun f hf => by
      cases ha : f.2.attendees with
      | none => simp
      | some m => simpa using hpre f m hf ha
  unfold State.overSeated
  rw [hsplit, List.find?_append, hnone, Option.none_or, List.find?_cons, he]
  simp [hn]

theorem State.overSeated_eq_none {s : State} {room seats : Nat}
    (h : ∀ e n, e ∈ s.liveRecs → e.2.room = room → e.2.attendees = some n → n ≤ seats) :
    s.overSeated room seats = none := by
  refine Option.map_eq_none_iff.mpr (List.find?_eq_none.mpr fun e he => ?_)
  obtain ⟨hlive, hroom, -⟩ := State.mem_roomRecs.mp he
  cases ha : e.2.attendees with
  | none => simp
  | some m => simpa using h e m hlive hroom ha

/-! ### CONFIG_ROOM -/

theorem runConfigRoom_of_out {p : Port} {a : ConfigRoomArgs} {s : State} (hm : s.mayIssue p .facil = true)
    (ho : s.roomFieldsOut a = true) : runConfigRoom p a s = refuse s .range := by
  unfold runConfigRoom
  rw [hm, ho]
  rfl

/-- The reply of a CONFIG_ROOM carried out (R3). -/
def configuredReply (old : Room) (a : ConfigRoomArgs) : Reply :=
  { code := .ok
    clamped := a.grace.any (fun g => !(clampGrace g == g))
    payload := if a.grace.any (fun g => !(clampGrace g == g)) then .number (configuredRoom old a).grace else .none }

/-- The state of a CONFIG_ROOM carried out (R3, R107). -/
def State.configured (s : State) (a : ConfigRoomArgs) : State :=
  if (configuredRoom (s.room a.room) a).unitId = (s.room a.room).unitId
  then s.setRoom a.room (configuredRoom (s.room a.room) a)
  else (s.setRoom a.room (configuredRoom (s.room a.room) a)).followBinding a.room
    (configuredRoom (s.room a.room) a).unitId

/-- A CONFIG_ROOM whose fields are in range (R3, R4). -/
theorem runConfigRoom_of_ranges {p : Port} {a : ConfigRoomArgs} {s : State} (hm : s.mayIssue p .facil = true)
    (ho : s.roomFieldsOut a = false) : runConfigRoom p a s =
      match s.boundElsewhere a with
      | some other => refuse s .conflict (.number other)
      | none =>
        if s.serving && (s.room a.room).configured && !((s.room a.room).building == a.building) then refuse s .state
        else match (if s.serving then s.overSeated a.room a.seats else none) with
          | some i => refuse s .capacity (.booking (s.recHandle i))
          | none => (s.configured a, configuredReply (s.room a.room) a) := by
  unfold runConfigRoom
  rw [hm, if_neg (by decide), ho]
  exact if_neg (by decide)

theorem clampGrace_ne (g : Nat) : (!(clampGrace g == g)) = (decide (g < 5) || decide (30 < g)) := by
  unfold clampGrace
  by_cases h5 : g < 5
  · simp [h5]; omega
  · by_cases h30 : 30 < g
    · simp [h5, h30]; omega
    · simp [h5, h30]; omega

theorem configuredReply_eq (old : Room) (a : ConfigRoomArgs) : configuredReply old a =
    { code := .ok
      clamped := a.grace.any (fun g => decide (g < 5) || decide (30 < g))
      payload := match a.grace with
        | none => .none
        | some g => if g < 5 ∨ 30 < g then .number (max 5 (min g 30)) else .none } := by
  unfold configuredReply configuredRoom
  simp only [clampGrace_ne]
  cases hg : a.grace with
  | none => rfl
  | some g =>
    simp only [Option.any_some, Bool.or_eq_true, decide_eq_true_eq]
    rfl

/-- The settings a CONFIG_ROOM stores (R3). -/
theorem settings_configuredRoom (old : Room) (a : ConfigRoomArgs) : (configuredRoom old a).settings =
    { configured := true, isOpen := old.isOpen, building := a.building, seats := a.seats,
      setup := a.setup, clear := a.clear
      grace := match a.grace with
        | some g => max 5 (min g 30)
        | none => if old.configured then old.grace else 10
      options := a.options
      threshold := match a.threshold with
        | some t => t
        | none => if old.configured then old.threshold else 3
      unitId := match a.unitChoice with
        | .bind v => some v
        | .remove => none
        | .absent => old.unitId
      displayRev := 0 } := by
  unfold configuredRoom Room.settings chosenUnit clampGrace
  cases a.grace <;> cases a.threshold <;> cases a.unitChoice <;> rfl

theorem unitId_of_settings {r q : Room} (h : r.settings = q.settings) : r.unitId = q.unitId := by
  change r.settings.unitId = q.settings.unitId
  rw [h]

/-- What a CONFIG_ROOM carried out leaves (R3, R107). -/
theorem configured_spec (s : State) (a : ConfigRoomArgs) :
    ((s.configured a).room a.room).settings = (configuredRoom (s.room a.room) a).settings ∧
    (∀ q, q ≠ a.room → ((s.configured a).room q).settings = (s.room q).settings) ∧
    (((s.configured a).room a.room).unitId = (s.room a.room).unitId → sameBut [.rooms] s (s.configured a)) ∧
    (((s.configured a).room a.room).unitId ≠ (s.room a.room).unitId → s.configured a =
      (s.setRoom a.room (configuredRoom (s.room a.room) a)).followBinding a.room
        ((s.configured a).room a.room).unitId) := by
  have hset := setRoom_sameBut s a.room (configuredRoom (s.room a.room) a) [.rooms] (.inl (by decide)) (.inr rfl)
  have hroom : ∀ q, (((s.setRoom a.room (configuredRoom (s.room a.room) a)).room q).settings =
      if q = a.room then (configuredRoom (s.room a.room) a).settings else (s.room q).settings) := by
    intro q
    rw [room_setRoom]
    split <;> rfl
  have hconf : ∀ q, ((s.configured a).room q).settings =
      if q = a.room then (configuredRoom (s.room a.room) a).settings else (s.room q).settings := by
    intro q
    rw [← hroom q]
    unfold State.configured
    split
    · rfl
    · exact settings_of_sameBut (followBinding_spec _ _ _).2.2.2.2 (by decide) q
  have hunit : ((s.configured a).room a.room).unitId = (configuredRoom (s.room a.room) a).unitId :=
    unitId_of_settings ((hconf a.room).trans (if_pos rfl))
  refine ⟨(hconf a.room).trans (if_pos rfl), fun q hq => (hconf q).trans (if_neg hq), fun h => ?_, fun h => ?_⟩
  · rw [hunit] at h
    unfold State.configured
    rw [if_pos h]
    exact hset
  · rw [hunit] at h ⊢
    exact if_neg h

/-- A CONFIG_ROOM that keeps the building a SERVING device has for the room (R4). -/
theorem not_moved_of_sameBuilding {s : State} {a : ConfigRoomArgs}
    (h : s.serving = true → (s.room a.room).configured = true → a.building = (s.room a.room).building) :
    ¬ (s.serving && (s.room a.room).configured && !((s.room a.room).building == a.building)) = true := by
  simp only [Bool.and_eq_true, Bool.not_eq_true', beq_eq_false_iff_ne, not_and, not_not, and_imp]
  exact fun hs hc => (h hs hc).symm

/-- Settles O18. -/
theorem configRoomStoresAndBinds : Obligations.ConfigRoomStoresAndBinds := by
  unfold Obligations.ConfigRoomStoresAndBinds
  refine ⟨fun p tag a s hready ho => ?range, ?refused, ?stored,
    fun s v ht => ⟨fun l hl => State.findUnit_some ht hl, fun hn c k hc hu => State.findUnit_none hn c k hc hu⟩⟩
  case range =>
    exact exec_of_run rfl hready.1 (runConfigRoom_of_out (s := s.taking p tag (.configRoom a))
      (mayIssue_of_ready tag hready (fun _ => rfl)) (roomFieldsOut_of_out ho))
  case refused =>
    intro p tag a s hready hw hr hb h1 h400 hs hc ht
    have hrun := runConfigRoom_of_ranges (s := s.taking p tag (.configRoom a))
      (mayIssue_of_ready tag hready (fun _ => rfl)) (roomFieldsOut_of_ranges hr hb h1 h400 hs hc ht)
    refine ⟨fun v q ha hq hv => ?_, fun hfree hserving => ⟨fun hconf hother => ?_, fun hsame pre e post n hsplit he hn
      hpre => ?_⟩⟩
    · obtain ⟨other, hother, hne, hunit⟩ := State.boundElsewhere_spec (s := s.taking p tag (.configRoom a)) hw ha hq hv
      rw [hother] at hrun
      exact ⟨other, exec_of_run rfl hready.1 hrun, hne, hunit⟩
    all_goals
      have hnone : (s.taking p tag (.configRoom a)).boundElsewhere a = none :=
        State.boundElsewhere_eq_none fun v ha e he hne hu => hfree v ha e.1 hne (by
          rw [show s.room e.1 = e.2 from Table.read_of_mem ((Table.wf_iff _ _).mp hw).1 he]
          exact hu)
      have hserving' : (s.taking p tag (.configRoom a)).serving = true := hserving
      rw [hnone] at hrun
      dsimp only at hrun
    · have hmoved : ((s.taking p tag (.configRoom a)).serving &&
          ((s.taking p tag (.configRoom a)).room a.room).configured &&
          !(((s.taking p tag (.configRoom a)).room a.room).building == a.building)) = true := by
        rw [hserving', Bool.true_and]
        exact Bool.and_eq_true_iff.mpr ⟨hconf, by simpa using fun h => hother h.symm⟩
      rw [if_pos hmoved] at hrun
      exact exec_of_run rfl hready.1 hrun
    · have hfirst : (s.taking p tag (.configRoom a)).overSeated a.room a.seats = some e.1 :=
        State.overSeated_of_first hsplit he hn hpre
      rw [if_neg (not_moved_of_sameBuilding (s := s.taking p tag (.configRoom a)) (fun _ hc => hsame hc)), hserving', if_pos rfl, hfirst] at hrun
      exact exec_of_run rfl hready.1 hrun
  case stored =>
    intro p tag a s hready hr hb h1 h400 hs hc ht hfree hsame hseats
    have hrun := runConfigRoom_of_ranges (s := s.taking p tag (.configRoom a))
      (mayIssue_of_ready tag hready (fun _ => rfl)) (roomFieldsOut_of_ranges hr hb h1 h400 hs hc ht)
    have hnone : (s.taking p tag (.configRoom a)).boundElsewhere a = none := State.boundElsewhere_eq_none hfree
    have hover : (if (s.taking p tag (.configRoom a)).serving then
        (s.taking p tag (.configRoom a)).overSeated a.room a.seats else none) = none := by
      split
      next hserving => exact State.overSeated_eq_none (hseats hserving)
      next => rfl
    rw [hnone] at hrun
    dsimp only at hrun
    rw [if_neg (not_moved_of_sameBuilding (s := s.taking p tag (.configRoom a)) hsame), hover, configuredReply_eq] at hrun
    obtain ⟨hown, hothers, hkept, hbound⟩ := configured_spec (s.taking p tag (.configRoom a)) a
    refine ⟨_, exec_of_run rfl hready.1 hrun, hown.trans (settings_configuredRoom _ _), hothers, hkept, fun hne => ?_⟩
    have hfollow := hbound hne
    obtain ⟨f1, f2, f3, f4, f5⟩ := followBinding_spec ((s.taking p tag (.configRoom a)).setRoom a.room
      (configuredRoom ((s.taking p tag (.configRoom a)).room a.room) a)) a.room
      (((s.taking p tag (.configRoom a)).configured a).room a.room).unitId
    have hset := setRoom_sameBut (s.taking p tag (.configRoom a)) a.room
      (configuredRoom ((s.taking p tag (.configRoom a)).room a.room) a) [.rooms] (.inl (by decide)) (.inr rfl)
    rw [← hfollow] at f1 f2 f3 f4 f5
    have hloc : ((s.taking p tag (.configRoom a)).configured a).location a.room =
        (((s.taking p tag (.configRoom a)).configured a).room a.room).unitId.bind s.findUnit :=
      (f1 a.room).trans (if_pos rfl)
    refine ⟨hloc, fun q hq => (f1 q).trans (if_neg hq), fun c k => ?_, f3,
      fun hl => sameBut_trans (sameBut_mono (by decide) hset) (sameBut_mono (by decide) (f4 hl)),
      sameBut_trans (sameBut_mono (by decide) hset) (sameBut_mono (by decide) f5)⟩
    rw [hloc]
    exact f2 c k

end Sys2Proof.Machine
end

section
/-! SUPPORT. The admission test (O48): its gate, one kitchen's test, and the trial order. -/

namespace Sys2Proof.Machine

/-! ### One kitchen -/

/-- What a passing test of a kitchen, with the dispatch minute and last prep window it gives, admits (R142). -/
def State.admissionItems (s : State) (room : Nat) (start : Int) (q : CaterRequest) (m : MenuClass)
    (r : Nat × Int × Int) : Admission :=
  { kitchen := r.1, covers := clampCovers q.covers m.minCovers (s.room room).seats
    load := loadOf (clampCovers q.covers m.minCovers (s.room room).seats) m.weight, lead := m.lead, last := r.2.2
    cutoff := 15 * (r.2.2 - (m.lead : Int) + 1), dispatch := r.2.1, delivery := start + q.offset
    clamped := coversAdjusted q.covers m.minCovers (s.room room).seats }

/-- The kitchens tried in an order for a request of a class (R142, R146). -/
def State.trials (s : State) (room : Nat) (start : Int) (q : CaterRequest) (m : MenuClass) (order : List Nat) :
    Except AdmissionFailure (Nat × Int × Int) :=
  s.tryKitchens (s.room room).building m.lead (loadOf (clampCovers q.covers m.minCovers (s.room room).seats) m.weight)
    (start + q.offset) order

theorem State.admission_eq (s : State) (isNew : Bool) (room : Nat) (start : Int) (q : CaterRequest) :
    s.admission isNew room start q = match s.menuClass q.cls with
      | none => .error .range
      | some m =>
        if start + q.offset > Config.lastMinute then .error .range
        else if isNew && (Pool.lowestFree s.plan.orders Config.orderCap).isNone then .error .orderPoolFull
        else (s.trials room start q m (s.trialOrder (s.room room).building q.kitchen)).map
          (s.admissionItems room start q m) := by
  unfold State.admission
  cases s.menuClass q.cls with
  | none => rfl
  | some m =>
    dsimp only
    congr 1
    congr 1
    unfold State.trials
    cases s.tryKitchens (s.room room).building m.lead
      (loadOf (clampCovers q.covers m.minCovers (s.room room).seats) m.weight) (start + q.offset)
      (s.trialOrder (s.room room).building q.kitchen) with
    | error e => rfl
    | ok r => rfl

/-- An admission test whose gate is passed tries the kitchens (R141, R142). -/
theorem State.admission_of_gate {s : State} {isNew : Bool} {room : Nat} {start : Int} {q : CaterRequest} {m : MenuClass}
    (hm : s.menuClass q.cls = some m) (hd : start + q.offset ≤ 11519)
    (hfree : isNew = true → ∃ j, j < 512 ∧ s.order? j = none) : s.admission isNew room start q =
      (s.trials room start q m (s.trialOrder (s.room room).building q.kitchen)).map
        (s.admissionItems room start q m) := by
  have hpool : ¬ (isNew && (Pool.lowestFree s.plan.orders Config.orderCap).isNone) = true := by
    rw [Bool.and_eq_true, Option.isNone_iff_eq_none]
    rintro ⟨hn, hfull⟩
    obtain ⟨j, hj, hfree⟩ := hfree hn
    exact Pool.lowestFree_eq_none.mp hfull j hj hfree
  rw [State.admission_eq, hm]
  dsimp only
  rw [if_neg (show ¬ start + q.offset > Config.lastMinute from Int.not_lt.mpr hd), if_neg hpool]

theorem State.testKitchen_tooSoon {s : State} {building lead load k : Nat} {delivery dispatch last : Int}
    (hd : dispatch = delivery - (s.transit building k : Int)) (hl : last = dispatch / 15 - 1)
    (h : last - (lead : Int) + 1 ≤ (s.currentWindow : Int) ∨ last - (lead : Int) + 1 < 0) :
    s.testKitchen building lead load delivery k = .error .tooSoon := by
  subst hd hl
  unfold State.testKitchen
  exact if_pos h

theorem State.testKitchen_inTime {s : State} {building lead load k : Nat} {delivery dispatch last : Int}
    (hd : dispatch = delivery - (s.transit building k : Int)) (hl : last = dispatch / 15 - 1)
    (h : ¬ (last - (lead : Int) + 1 ≤ (s.currentWindow : Int) ∨ last - (lead : Int) + 1 < 0)) :
    s.testKitchen building lead load delivery k = match (sharesOf load lead last).find? (s.shareFails k) with
      | some w => .error (.kitchenFull k w.1)
      | none => .ok (dispatch, last) := by
  subst hd hl
  unfold State.testKitchen
  exact if_neg h

theorem State.shareFails_iff (s : State) (k : Nat) (w : Int × Nat) : s.shareFails k w = true ↔
    1 ≤ w.2 ∧ s.limit k w.1.toNat < (s.loadEntry k w.1.toNat).load + w.2 := by
  unfold State.shareFails
  rw [Bool.and_eq_true, decide_eq_true_eq, decide_eq_true_eq]

/-- The kitchen full names the first window whose share cannot be added (R144). -/
theorem State.find?_shareFails {s : State} {k : Nat} {l pre post : List (Int × Nat)} {w : Int × Nat}
    (hsplit : l = pre ++ w :: post) (h1 : 1 ≤ w.2) (hover : s.limit k w.1.toNat < (s.loadEntry k w.1.toNat).load + w.2)
    (hpre : ∀ v, v ∈ pre → 1 ≤ v.2 → (s.loadEntry k v.1.toNat).load + v.2 ≤ s.limit k v.1.toNat) :
    l.find? (s.shareFails k) = some w := by
  have hnone : pre.find? (s.shareFails k) = none := List.find?_eq_none.mpr fun v hv hf => by
    obtain ⟨hv1, hvover⟩ := (State.shareFails_iff _ _ _).mp hf
    exact absurd (hpre v hv hv1) (Nat.not_le.mpr hvover)
  rw [hsplit, List.find?_append, hnone, Option.none_or, List.find?_cons,
    (State.shareFails_iff _ _ _).mpr ⟨h1, hover⟩]

/-! ### The trial order -/

/-- Of two kitchens the one that is tried first for a building (R146). -/
def State.triedBefore (s : State) (building a b : Nat) : Prop :=
  s.transit building a < s.transit building b ∨ (s.transit building a = s.transit building b ∧ a < b)

theorem perm_insertByTransit (s : State) (building k : Nat) (l : List Nat) :
    (s.insertByTransit building k l).Perm (k :: l) := by
  induction l with
  | nil => exact List.Perm.refl _
  | cons j l ih =>
    unfold State.insertByTransit
    split
    · exact List.Perm.refl _
    · exact (ih.cons j).trans (List.Perm.swap k j l)

theorem triedBefore_insertByTransit (s : State) (building k : Nat) {l : List Nat}
    (hl : l.Pairwise (s.triedBefore building)) (hk : ∀ j, j ∈ l → k < j) :
    (s.insertByTransit building k l).Pairwise (s.triedBefore building) := by
  induction l with
  | nil => exact List.pairwise_singleton _ _
  | cons j l ih =>
    obtain ⟨hj, hl'⟩ := List.pairwise_cons.mp hl
    have hkj := hk j List.mem_cons_self
    unfold State.insertByTransit
    split
    next hle =>
      refine List.pairwise_cons.mpr ⟨List.forall_mem_cons.mpr ⟨?_, fun i hi => ?_⟩, hl⟩
      · unfold State.triedBefore
        omega
      · have hki := hk i (List.mem_cons_of_mem _ hi)
        have hji := hj i hi
        unfold State.triedBefore at hji ⊢
        omega
    next hlt =>
      refine List.pairwise_cons.mpr ⟨fun i hi => ?_, ih hl' fun i hi => hk i (List.mem_cons_of_mem _ hi)⟩
      rcases List.mem_cons.mp ((perm_insertByTransit s building k l).mem_iff.mp hi) with rfl | hi
      · exact .inl (Nat.not_le.mp hlt)
      · exact hj i hi

theorem foldr_insertByTransit (s : State) (building : Nat) {l : List Nat} (hl : l.Pairwise (· < ·)) :
    (l.foldr (s.insertByTransit building) []).Perm l ∧
    (l.foldr (s.insertByTransit building) []).Pairwise (s.triedBefore building) := by
  induction l with
  | nil => exact ⟨List.Perm.refl _, List.Pairwise.nil⟩
  | cons k l ih =>
    obtain ⟨hk, hl'⟩ := List.pairwise_cons.mp hl
    obtain ⟨hperm, hsorted⟩ := ih hl'
    exact ⟨(perm_insertByTransit s building k _).trans (hperm.cons k),
      triedBefore_insertByTransit s building k hsorted fun j hj => hk j (hperm.mem_iff.mp hj)⟩

/-! ### The kitchens tried in order -/

theorem State.trials_singleton (s : State) (room : Nat) (start : Int) (q : CaterRequest) (m : MenuClass) (k : Nat) :
    s.trials room start q m [k] = (s.testKitchen (s.room room).building m.lead
      (loadOf (clampCovers q.covers m.minCovers (s.room room).seats) m.weight) (start + q.offset) k).map
        (fun r => (k, r)) := by
  unfold State.trials State.tryKitchens
  cases s.testKitchen (s.room room).building m.lead
    (loadOf (clampCovers q.covers m.minCovers (s.room room).seats) m.weight) (start + q.offset) k with
  | ok r => rfl
  | error e => rfl

/-- A kitchen that passes ends the trial; one that fails leaves it to the others, and its own failure where they all
fail (R146). -/
theorem State.trials_cons (s : State) (room : Nat) (start : Int) (q : CaterRequest) (m : MenuClass) (k : Nat)
    (l : List Nat) : s.trials room start q m (k :: l) = match s.trials room start q m [k] with
      | .ok r => .ok r
      | .error e => match s.trials room start q m l with
        | .ok r => .ok r
        | .error _ => .error e := by
  rw [State.trials_singleton]
  unfold State.trials
  rw [State.tryKitchens]
  cases s.testKitchen (s.room room).building m.lead
    (loadOf (clampCovers q.covers m.minCovers (s.room room).seats) m.weight) (start + q.offset) k with
  | ok r => rfl
  | error e => rfl

/-- A request has no kitchen that passes in a list of them. -/
def State.noneAdmits (s : State) (room : Nat) (start : Int) (q : CaterRequest) (m : MenuClass) (l : List Nat) : Prop :=
  ∀ j, j ∈ l → ∀ r, s.trials room start q m [j] ≠ .ok r

theorem State.trials_of_first {s : State} {room : Nat} {start : Int} {q : CaterRequest} {m : MenuClass} {k : Nat}
    {r : Nat × Int × Int} (post : List Nat) (hk : s.trials room start q m [k] = .ok r) (pre : List Nat)
    (hpre : s.noneAdmits room start q m pre) : s.trials room start q m (pre ++ k :: post) = .ok r := by
  induction pre with
  | nil => rw [List.nil_append, State.trials_cons, hk]
  | cons j l ih =>
    rw [List.cons_append, State.trials_cons, ih fun i hi => hpre i (List.mem_cons_of_mem _ hi)]
    cases hj : s.trials room start q m [j] with
    | ok r' => exact absurd hj (hpre j List.mem_cons_self r')
    | error e => rfl

theorem State.trials_of_noneAdmits {s : State} {room : Nat} {start : Int} {q : CaterRequest} {m : MenuClass}
    (l : List Nat) (h : s.noneAdmits room start q m l) : ∃ e, s.trials room start q m l = .error e := by
  induction l with
  | nil => exact ⟨_, rfl⟩
  | cons j l ih =>
    obtain ⟨e, he⟩ := ih fun i hi => h i (List.mem_cons_of_mem _ hi)
    rw [State.trials_cons, he]
    cases hj : s.trials room start q m [j] with
    | ok r => exact absurd hj (h j List.mem_cons_self r)
    | error e' => exact ⟨e', rfl⟩

theorem State.trials_of_allFail {s : State} {room : Nat} {start : Int} {q : CaterRequest} {m : MenuClass} {k : Nat}
    {l : List Nat} {e : AdmissionFailure} (hk : s.trials room start q m [k] = .error e)
    (hl : s.noneAdmits room start q m l) : s.trials room start q m (k :: l) = .error e := by
  obtain ⟨e', he⟩ := State.trials_of_noneAdmits l hl
  rw [State.trials_cons, hk, he]

/-- Whatever kitchen a request names, it fails alike at the gate of the test or is tried (R141, R142). -/
theorem State.admission_gate (s : State) (isNew : Bool) (room : Nat) (start : Int) (q : CaterRequest) :
    (∃ e, ∀ c, s.admission isNew room start { q with kitchen := c } = .error e) ∨
    ∃ m, ∀ c, s.admission isNew room start { q with kitchen := c } =
      (s.trials room start q m (s.trialOrder (s.room room).building c)).map (s.admissionItems room start q m) := by
  cases hm : s.menuClass q.cls with
  | none =>
    refine .inl ⟨.range, fun c => ?_⟩
    rw [State.admission_eq]
    dsimp only
    rw [hm]
  | some m =>
    have hadm : ∀ c, s.admission isNew room start { q with kitchen := c } =
        if start + q.offset > Config.lastMinute then .error .range
        else if isNew && (Pool.lowestFree s.plan.orders Config.orderCap).isNone then .error .orderPoolFull
        else (s.trials room start q m (s.trialOrder (s.room room).building c)).map
          (s.admissionItems room start q m) := by
      intro c
      rw [State.admission_eq]
      dsimp only
      rw [hm]
      rfl
    by_cases hlate : start + q.offset > Config.lastMinute
    · exact .inl ⟨.range, fun c => (hadm c).trans (if_pos hlate)⟩
    by_cases hfull : (isNew && (Pool.lowestFree s.plan.orders Config.orderCap).isNone) = true
    · exact .inl ⟨.orderPoolFull, fun c => (hadm c).trans ((if_neg hlate).trans (if_pos hfull))⟩
    · exact .inr ⟨m, fun c => (hadm c).trans ((if_neg hlate).trans (if_neg hfull))⟩

theorem map_eq_ok {ε α β : Type} {f : α → β} {x : Except ε α} {b : β} (h : x.map f = .ok b) :
    ∃ a, x = .ok a ∧ f a = b := by
  cases x with
  | ok a => exact ⟨a, rfl, Except.ok.inj h⟩
  | error e => cases h

theorem map_eq_error {ε α β : Type} {f : α → β} {x : Except ε α} {e : ε} (h : x.map f = .error e) : x = .error e := by
  cases x with
  | ok a => cases h
  | error e' => exact congrArg Except.error (Except.error.inj h)

/-- Settles O48. -/
theorem admissionDecides : Obligations.AdmissionDecides := by
  unfold Obligations.AdmissionDecides
  refine ⟨fun s isNew room start q mc hm hd hn hfull => ?full,
    fun s isNew room k start dispatch last q mc covers load hm hd hfree hk hc hl hdis hlast => ?one,
    fun s isNew room start q hany => ?any⟩
  case full =>
    have hpool : (isNew && (Pool.lowestFree s.plan.orders Config.orderCap).isNone) = true := by
      rw [hn, Pool.lowestFree_eq_none (cap := Config.orderCap).mpr hfull]
      rfl
    rw [State.admission_eq, hm]
    dsimp only
    rw [if_neg (show ¬ start + q.offset > Config.lastMinute from Int.not_lt.mpr hd), if_pos hpool]
  case one =>
    have hone : s.admission isNew room start q = ((s.testKitchen (s.room room).building mc.lead load
        (start + q.offset) k).map (fun r => (k, r))).map (s.admissionItems room start q mc) := by
      rw [State.admission_of_gate hm hd hfree, hk]
      refine congrArg (Except.map _) ((State.trials_singleton s room start q mc k).trans ?_)
      rw [hl, hc]
      rfl
    refine ⟨fun hsoon => ?_, fun htime => ?_⟩
    · rw [hone, State.testKitchen_tooSoon hdis hlast hsoon]
      rfl
    · rw [State.testKitchen_inTime hdis hlast htime] at hone
      refine ⟨fun pre w post hsplit h1 hover hpre => ?_, fun hall => ?_⟩
      · rw [State.find?_shareFails hsplit h1 hover hpre] at hone
        exact hone
      · have hnone : (sharesOf load mc.lead last).find? (s.shareFails k) = none :=
          List.find?_eq_none.mpr fun v hv hf => by
            obtain ⟨hv1, hvover⟩ := (State.shareFails_iff _ _ _).mp hf
            exact absurd (hall v hv hv1) (Nat.not_le.mpr hvover)
        rw [hnone] at hone
        rw [hone, hl, hc]
        rfl
  case any =>
    obtain ⟨hperm, hsorted⟩ := foldr_insertByTransit s (s.room room).building
      (show ([0, 1, 2, 3] : List Nat).Pairwise (· < ·) by decide)
    have hself : s.admission isNew room start q = s.admission isNew room start { q with kitchen := .any } := by
      rw [← hany]
    refine ⟨_, hperm, hsorted, fun pre k post m hsplit hpre hk => ?_, fun k rest e hsplit hrest hk => ?_⟩
    all_goals
      rcases State.admission_gate s isNew room start q with ⟨e', hall⟩ | ⟨mc, hall⟩
    · rw [hall] at hk
      cases hk
    · rw [hall] at hk
      obtain ⟨r, hr, rfl⟩ := map_eq_ok hk
      have htrials : s.trials room start q mc (s.trialOrder (s.room room).building .any) = .ok r := by
        refine (congrArg _ hsplit).trans (State.trials_of_first post hr pre fun j hj r' hr' => ?_)
        exact hpre j hj _ ((hall (.kitchen j)).trans (congrArg (Except.map _) hr'))
      rw [hself, hall, htrials]
      rfl
    · rw [hall] at hk
      rw [hself, hall, hk]
    · rw [hall] at hk
      have htrials : s.trials room start q mc (s.trialOrder (s.room room).building .any) = .error e := by
        refine (congrArg _ hsplit).trans (State.trials_of_allFail (map_eq_error hk) fun j hj r' hr' => ?_)
        exact hrest j hj _ ((hall (.kitchen j)).trans (congrArg (Except.map _) hr'))
      rw [hself, hall, htrials]
      rfl

end Sys2Proof.Machine
end

section
/-! SUPPORT. The kitchens' setup (O45): the OVER windows of a canonical load table, the one KITCHEN_OVER of a change, and
the fields that each setup command stores. -/

namespace Sys2Proof.Machine

/-! ### OVER windows -/

theorem State.mem_overWindows {s : State} (hw : Table.wf LoadEntry.cold s.plan.load = true) {k g : Nat} :
    g ∈ s.overWindows k ↔ g < 768 ∧ (s.loadEntry k g).isOver = true := by
  have hrising := ((Table.wf_iff _ _).mp hw).1
  unfold State.overWindows
  simp only [List.mem_map, List.mem_filter, Bool.and_eq_true, decide_eq_true_eq]
  constructor
  · rintro ⟨e, ⟨he, ⟨hover, hlo⟩, hhi⟩, rfl⟩
    have hkey : k * Config.windowCount + (e.1 - k * Config.windowCount) = e.1 := by omega
    refine ⟨?_, ?_⟩
    · unfold Config.windowCount at hlo hhi ⊢
      omega
    · unfold State.loadEntry
      rw [hkey, Table.read_of_mem hrising he]
      exact hover
  · rintro ⟨hg, hover⟩
    have hmem : (k * Config.windowCount + g, s.loadEntry k g) ∈ s.plan.load :=
      Table.mem_of_read (fun hc => by
        have hcold : s.loadEntry k g = LoadEntry.cold := hc
        rw [hcold] at hover
        cases hover)
    refine ⟨_, ⟨hmem, ⟨hover, Nat.le_add_right _ _⟩, ?_⟩, Nat.add_sub_cancel_left _ _⟩
    change k * Config.windowCount + g < (k + 1) * Config.windowCount
    unfold Config.windowCount
    omega

/-- The OVER windows of a kitchen stand in ascending order (R149). -/
theorem State.overWindows_sorted {s : State} (hw : Table.wf LoadEntry.cold s.plan.load = true) (k : Nat) :
    (s.overWindows k).Pairwise (· < ·) := by
  have hpair := Table.pairwise_of_rising ((Table.wf_iff _ _).mp hw).1
  unfold State.overWindows
  refine List.pairwise_map.mpr ((hpair.filter _).imp_of_mem fun {e f} he _ hlt => ?_)
  have hlo : k * Config.windowCount ≤ e.1 := by
    have htest := (List.mem_filter.mp he).2
    simp only [Bool.and_eq_true, decide_eq_true_eq] at htest
    exact htest.1.2
  omega

/-- A kitchen whose windows keep their marks keeps its list of OVER windows. -/
theorem State.overWindows_congr {s t : State} (hs : Table.wf LoadEntry.cold s.plan.load = true)
    (ht : Table.wf LoadEntry.cold t.plan.load = true) {k : Nat}
    (h : ∀ g, g < 768 → (t.loadEntry k g).isOver = (s.loadEntry k g).isOver) : t.overWindows k = s.overWindows k := by
  refine (State.overWindows_sorted ht k).eq_of_mem_iff (State.overWindows_sorted hs k) fun g => ?_
  rw [State.mem_overWindows ht, State.mem_overWindows hs]
  exact and_congr_right fun hg => by rw [h g hg]

theorem wf_alignFold (k : Nat) (l : List Nat) (s : State) (hs : Table.wf LoadEntry.cold s.plan.load = true) :
    Table.wf LoadEntry.cold (l.foldl (State.alignOver k) s).plan.load = true := by
  induction l generalizing s with
  | nil => exact hs
  | cons g l ih => exact ih _ (Table.wf_write _ _ hs)

/-! ### The one KITCHEN_OVER of a change -/

theorem State.overWindows_of_sameBut {l : List Part} {s t : State} (h : sameBut l s t) (hl : Part.load ∉ l) (k : Nat) :
    t.overWindows k = s.overWindows k := by
  have hload : t.plan.load = s.plan.load := h .load hl
  unfold State.overWindows
  rw [hload]

theorem announceOver_of_same {t : State} {was : Nat → List Int} {k : Nat} (h : (t.overWindows k).map Int.ofNat = was k) :
    State.announceOver was t k = t := if_pos h

theorem announceOver_fold_of_same {was : Nat → List Int} (l : List Nat) {t : State}
    (h : ∀ j, j ∈ l → (t.overWindows j).map Int.ofNat = was j) : l.foldl (State.announceOver was) t = t := by
  induction l with
  | nil => rfl
  | cons j l ih =>
    rw [List.foldl_cons, announceOver_of_same (h j List.mem_cons_self)]
    exact ih fun i hi => h i (List.mem_cons_of_mem _ hi)

/-- Where only one kitchen's OVER windows have changed, only its change is reported (R150). -/
theorem announceAllOver_of_only {t : State} {was : Nat → List Int} {k : Nat} (hk : k < 4)
    (h : ∀ j, j ≠ k → (t.overWindows j).map Int.ofNat = was j) : t.announceAllOver was = State.announceOver was t k := by
  obtain ⟨l₁, l₂, hsplit⟩ := List.append_of_mem (List.mem_range.mpr hk)
  have hnodup : (l₁ ++ k :: l₂).Nodup := hsplit ▸ List.nodup_range
  obtain ⟨-, hright, hdisj⟩ := List.nodup_append.mp hnodup
  have hk₁ : ∀ j, j ∈ l₁ → j ≠ k := fun j hj => hdisj j hj k List.mem_cons_self
  have hk₂ : ∀ j, j ∈ l₂ → j ≠ k := fun j hj hjk => (List.nodup_cons.mp hright).1 (hjk ▸ hj)
  have hfold : t.announceAllOver was = (l₁ ++ k :: l₂).foldl (State.announceOver was) t := by
    rw [← hsplit]
    rfl
  rw [hfold, List.foldl_append, announceOver_fold_of_same l₁ fun j hj => h j (hk₁ j hj), List.foldl_cons]
  refine announceOver_fold_of_same l₂ fun j hj => ?_
  rw [State.overWindows_of_sameBut (announceOver_sameBut was t k) (by decide)]
  exact h j (hk₂ j hj)

/-- The notice of a kitchen's OVER windows (R150). -/
def kitchenOverNotice (k : Nat) (windows : List Nat) : Raised :=
  { kind := .kitchenOver, subject := .kitchen k, cond := some (.flag (!windows.isEmpty))
    data := [.window (windows.head?.map (fun g : Nat => (g : Int))), .count windows.length] }

/-- The ports once the OVER windows of one kitchen, at most, have changed from those of `s` (R150). -/
theorem announceAllOver_ports {s t : State} {k : Nat} (hk : k < 4) (hr : t.routes = s.routes) (hc : t.clock = s.clock)
    (hrev : t.book.rev = s.book.rev) (hp : t.ports = s.ports)
    (h : ∀ j, j ≠ k → t.overWindows j = s.overWindows j) :
    (t.announceAllOver s.overBefore).ports = if t.overWindows k = s.overWindows k then s.ports
      else s.portsAfter s.book.rev (kitchenOverNotice k (t.overWindows k)) := by
  rw [announceAllOver_of_only (was := s.overBefore) hk fun j hj => congrArg (List.map Int.ofNat) (h j hj)]
  by_cases heq : t.overWindows k = s.overWindows k
  · rw [if_pos heq, announceOver_of_same (congrArg (List.map Int.ofNat) heq), hp]
  · have hne : (t.overWindows k).map Int.ofNat ≠ s.overBefore k := fun hmap =>
      heq (List.map_injective_iff.mpr Int.ofNat_injective hmap)
    rw [if_neg heq, show State.announceOver s.overBefore t k = t.raise (kitchenOverNotice k (t.overWindows k)) from
      if_neg hne]
    exact ports_raise hr hc hrev hp _

/-- What bringing windows of a kitchen into line leaves, `w` being `s` with a kitchen or its profile stored (R149,
R150). -/
theorem alignWindows_spec {s w : State} {k : Nat} {windows : List Nat} {l : List Part} (hk : k < 4)
    (hw : sameBut l s w) (hl : l ⊆ [.kitchens, .profile]) (hwin : ∀ g, g ∈ windows → g < 768) :
    (w.alignWindows s k windows).limit = w.limit ∧
    (∀ j g, g < 768 → (w.alignWindows s k windows).loadEntry j g = if j = k ∧ g ∈ windows then
      { s.loadEntry j g with isOver := decide (w.limit j g < (s.loadEntry j g).load) } else s.loadEntry j g) ∧
    (Table.wf LoadEntry.cold s.plan.load = true → (w.alignWindows s k windows).ports =
      if (w.alignWindows s k windows).overWindows k = s.overWindows k then s.ports
      else s.portsAfter s.book.rev (kitchenOverNotice k ((w.alignWindows s k windows).overWindows k))) ∧
    sameBut ([.load] ++ noticeParts) w (w.alignWindows s k windows) := by
  have hnot : ∀ {x : Part}, x ∉ [Part.kitchens, .profile] → x ∉ l := fun hx => not_mem_of_subset hl hx
  have hfold : sameBut [.load] w (windows.foldl (State.alignOver k) w) := sameBut_foldl (alignOver_sameBut k) windows w
  have hann := announceAllOver_sameBut (windows.foldl (State.alignOver k) w) s.overBefore
  have hsame : sameBut ([.load] ++ noticeParts) w (w.alignWindows s k windows) :=
    sameBut_trans (sameBut_mono (by simp) hfold) (sameBut_mono (by simp) hann)
  have hload : w.plan.load = s.plan.load := hw .load (hnot (by decide))
  have hentry : ∀ j g, g < 768 → (windows.foldl (State.alignOver k) w).loadEntry j g = if j = k ∧ g ∈ windows then
      { s.loadEntry j g with isOver := decide (w.limit j g < (s.loadEntry j g).load) } else s.loadEntry j g := by
    intro j g hg
    rw [loadEntry_alignFold windows w k hwin hg, loadEntry_congr hload]
  have hover := State.overWindows_of_sameBut hann (by decide)
  refine ⟨?_, fun j g hg => ?_, fun hwf => ?_, hsame⟩
  · funext j g
    unfold State.limit State.kitchen State.capacity
    rw [show (w.alignWindows s k windows).plan.kitchens = w.plan.kitchens from hsame .kitchens (by decide),
      show (w.alignWindows s k windows).plan.profile = w.plan.profile from hsame .profile (by decide)]
  · rw [← hentry j g hg]
    exact loadEntry_congr (hann .load (by decide)) j g
  · have hwf' := wf_alignFold k windows w (by rw [hload]; exact hwf)
    have hrest : ∀ j, j ≠ k → (windows.foldl (State.alignOver k) w).overWindows j = s.overWindows j := fun j hj =>
      State.overWindows_congr hwf hwf' fun g hg => by rw [hentry j g hg, if_neg fun h => hj h.1]
    rw [show (w.alignWindows s k windows).overWindows k = (windows.foldl (State.alignOver k) w).overWindows k from
      hover k]
    exact announceAllOver_ports hk ((hfold .routes (by decide)).trans (hw .routes (hnot (by decide))))
      (Eq.trans (hfold .clock (by decide)) (hw .clock (hnot (by decide))))
      (Eq.trans (hfold .revision (by decide)) (hw .revision (hnot (by decide))))
      (Eq.trans (ports_eq_of_sameBut hfold (by decide)) (ports_eq_of_sameBut hw (fun x hx => hnot (by revert x; decide))))
      hrest

/-! ### CONFIG_KITCHEN -/

theorem setKitchen_sameBut (s : State) (k : Nat) (v : Kitchen) : sameBut [.kitchens] s (s.setKitchen k v) := by
  intro q hq
  cases q with
  | kitchens => exact absurd (by decide) hq
  | _ => first | exact rfl | exact fun _ => rfl | exact ⟨rfl, rfl⟩ | exact fun _ => ⟨rfl, rfl, rfl, rfl⟩

theorem runConfigKitchen_of_role {p : Port} {k n : Nat} {o : Bool} {s : State} (hm : s.mayIssue p .facil = true) :
    runConfigKitchen p k o n s = if 3 < k ∨ 25 < n then refuse s .range
      else accept ((s.setKitchen k ⟨o, n⟩).alignWindows s k (List.range Config.windowCount)) := by
  unfold runConfigKitchen
  exact if_neg (by rw [hm]; decide)

theorem State.kitchen_of_sameBut {l : List Part} {s t : State} (h : sameBut l s t) (hl : Part.kitchens ∉ l) (k : Nat) :
    t.kitchen k = s.kitchen k := by
  have hk : t.plan.kitchens = s.plan.kitchens := h .kitchens hl
  unfold State.kitchen
  rw [hk]

theorem kitchen_setKitchen (s : State) (k j : Nat) (v : Kitchen) :
    (s.setKitchen k v).kitchen j = if j = k then v else s.kitchen j := Table.read_write _ _ _ _ _

/-! ### SET_CAPACITY -/

theorem capacityOut_iff (k first : Nat) (vs : List Nat) : capacityOut k first vs = true ↔
    3 < k ∨ 95 < first ∨ vs = [] ∨ 24 < vs.length ∨ 96 < first + vs.length := by
  unfold capacityOut
  simp only [Bool.or_eq_true, decide_eq_true_eq, List.isEmpty_iff, or_assoc]

/-- A profile after a run of values is stored in it (R135). -/
theorem read_storeProfile (k : Nat) (vs : List Nat) : ∀ (profile : Table Nat) (first j x : Nat),
    first + vs.length ≤ 96 → x < 96 → Table.read 0 (storeProfile profile k first vs) (j * 96 + x) =
      if j = k ∧ first ≤ x then (vs[x - first]?).getD (Table.read 0 profile (j * 96 + x))
      else Table.read 0 profile (j * 96 + x) := by
  induction vs with
  | nil =>
    intro profile first j x _ _
    unfold storeProfile
    split <;> rfl
  | cons v l ih =>
    intro profile first j x hlen hx
    rw [List.length_cons] at hlen
    have hkey : j * 96 + x = k * 96 + first ↔ j = k ∧ x = first := by omega
    unfold storeProfile
    rw [ih _ _ _ _ (by omega) hx, Table.read_write]
    by_cases hj : j = k
    · by_cases hlt : first + 1 ≤ x
      · have hne : ¬ (j * 96 + x = k * 96 + first) := fun h => by have := hkey.mp h; omega
        rw [if_pos (show j = k ∧ first + 1 ≤ x from ⟨hj, hlt⟩), if_neg hne,
          if_pos (show j = k ∧ first ≤ x from ⟨hj, by omega⟩), show x - first = x - (first + 1) + 1 by omega,
          List.getElem?_cons_succ]
      · rw [if_neg (show ¬ (j = k ∧ first + 1 ≤ x) from fun h => hlt h.2)]
        by_cases heq : x = first
        · rw [if_pos (hkey.mpr ⟨hj, heq⟩), if_pos (show j = k ∧ first ≤ x from ⟨hj, by omega⟩), heq, Nat.sub_self,
            List.getElem?_cons_zero, Option.getD_some]
        · rw [if_neg (mt hkey.mp fun h => heq h.2),
            if_neg (show ¬ (j = k ∧ first ≤ x) from fun h => heq (by omega))]
    · rw [if_neg (show ¬ (j = k ∧ first + 1 ≤ x) from fun h => hj h.1), if_neg (mt hkey.mp fun h => hj h.1),
        if_neg (show ¬ (j = k ∧ first ≤ x) from fun h => hj h.1)]

theorem storedCapacities_ne (vs : List Nat) : (!(storedCapacities vs == vs)) = vs.any (fun v => decide (4095 < v)) := by
  unfold storedCapacities
  induction vs with
  | nil => rfl
  | cons v l ih =>
    rw [List.any_cons, ← ih, List.map_cons]
    by_cases hv : 4095 < v
    · have hne : min v 4095 ≠ v := by omega
      simp [hv, hne]
    · simp [hv, Nat.min_eq_left (Nat.not_lt.mp hv)]

/-- The state with a run of a kitchen's profile stored (R135). -/
def State.withProfile (s : State) (k first : Nat) (vs : List Nat) : State :=
  { s with plan := { s.plan with profile := storeProfile s.plan.profile k first (storedCapacities vs) } }

theorem withProfile_sameBut (s : State) (k first : Nat) (vs : List Nat) :
    sameBut [.profile] s (s.withProfile k first vs) := by
  intro q hq
  cases q with
  | profile => exact absurd (by decide) hq
  | _ => first | exact rfl | exact fun _ => rfl | exact ⟨rfl, rfl⟩ | exact fun _ => ⟨rfl, rfl, rfl, rfl⟩

theorem capacity_withProfile (s : State) {k first : Nat} {vs : List Nat} (hlen : first + vs.length ≤ 96) (j g : Nat) :
    (s.withProfile k first vs).capacity j g = if j = k ∧ first ≤ g % 96
      then (vs[g % 96 - first]?.map (fun v => min v 4095)).getD (s.capacity j g) else s.capacity j g := by
  have hread := read_storeProfile k (storedCapacities vs) s.plan.profile first j (g % 96)
    (by unfold storedCapacities; rw [List.length_map]; exact hlen) (Nat.mod_lt _ (by decide))
  unfold storedCapacities at hread
  rw [List.getElem?_map] at hread
  exact hread

theorem runSetCapacity_of_role {p : Port} {k first : Nat} {vs : List Nat} {s : State}
    (hm : (s.mayIssue p .facil || s.mayIssue p .cater) = true) : runSetCapacity p k first vs s =
      if capacityOut k first vs then refuse s .range
      else accept ((s.withProfile k first vs).alignWindows s k (windowsOfDay first vs.length))
        (.values (storedCapacities vs)) (!(storedCapacities vs == vs)) := by
  unfold runSetCapacity
  exact if_neg (by rw [hm]; decide)

theorem mayIssue_setCapacity {s : State} {p : Port} {tag : Byte} {k first : Nat} {vs : List Nat}
    (h : s.ready p (.setCapacity k first vs)) :
    ((s.taking p tag (.setCapacity k first vs)).mayIssue p .facil ||
      (s.taking p tag (.setCapacity k first vs)).mayIssue p .cater) = true := by
  rw [mayIssue_taking, mayIssue_taking]
  exact h.2.1

theorem State.capacity_of_sameBut {l : List Part} {s t : State} (h : sameBut l s t) (hl : Part.profile ∉ l) (k g : Nat) :
    t.capacity k g = s.capacity k g := by
  have hk : t.plan.profile = s.plan.profile := h .profile hl
  unfold State.capacity
  rw [hk]

/-! ### DEFINE_CLASS and SET_TRANSIT -/

theorem defineOut_iff (m weight lead least : Nat) : defineOut m weight lead least = true ↔
    15 < m ∨ weight < 1 ∨ 63 < weight ∨ lead < 1 ∨ 16 < lead ∨ least < 1 ∨ 50 < least := by
  unfold defineOut
  simp only [Bool.or_eq_true, decide_eq_true_eq, or_assoc]

theorem runDefineClass_of_role {p : Port} {m weight lead least : Nat} {s : State} (hm : s.mayIssue p .facil = true) :
    runDefineClass p m weight lead least s = if defineOut m weight lead least then refuse s .range
      else accept (s.setClass m ⟨weight, lead, least⟩) := by
  unfold runDefineClass
  exact if_neg (by rw [hm]; decide)

theorem setClass_sameBut (s : State) (m : Nat) (v : MenuClass) : sameBut [.classes] s (s.setClass m v) := by
  intro q hq
  cases q with
  | classes => exact absurd (by decide) hq
  | _ => first | exact rfl | exact fun _ => rfl | exact ⟨rfl, rfl⟩ | exact fun _ => ⟨rfl, rfl, rfl, rfl⟩

theorem menuClass_setClass (s : State) (m j : Nat) (v : MenuClass) :
    (s.setClass m v).menuClass j = if j = m then some v else s.menuClass j := by
  unfold State.menuClass State.setClass
  exact Table.read_write none s.plan.classes m j (some v)

theorem runSetTransit_of_role {p : Port} {b t0 t1 t2 t3 : Nat} {s : State} (hm : s.mayIssue p .facil = true) :
    runSetTransit p b t0 t1 t2 t3 s = if 11 < b ∨ 60 < t0 ∨ 60 < t1 ∨ 60 < t2 ∨ 60 < t3 then refuse s .range
      else accept ([(0, t0), (1, t1), (2, t2), (3, t3)].foldl (State.setTransitEntry b) s) := by
  unfold runSetTransit
  exact if_neg (by rw [hm]; decide)

theorem setTransitEntry_sameBut (b : Nat) (s : State) (e : Nat × Nat) :
    sameBut [.transit] s (State.setTransitEntry b s e) := by
  intro q hq
  cases q with
  | transit => exact absurd (by decide) hq
  | _ => first | exact rfl | exact fun _ => rfl | exact ⟨rfl, rfl⟩ | exact fun _ => ⟨rfl, rfl, rfl, rfl⟩

theorem transit_setTransitEntry (s : State) (b d k : Nat) (e : Nat × Nat) :
    (State.setTransitEntry b s e).transit d k = if d * 4 + k = b * 4 + e.1 then e.2 else s.transit d k :=
  Table.read_write _ _ _ _ _

/-- A building's transit row once it is set (R137). -/
theorem transit_setTransit (s : State) (b t0 t1 t2 t3 d k : Nat) :
    ([(0, t0), (1, t1), (2, t2), (3, t3)].foldl (State.setTransitEntry b) s).transit d k =
      if d * 4 + k = b * 4 + 3 then t3 else if d * 4 + k = b * 4 + 2 then t2 else if d * 4 + k = b * 4 + 1 then t1
      else if d * 4 + k = b * 4 + 0 then t0 else s.transit d k := by
  simp only [List.foldl_cons, List.foldl_nil, transit_setTransitEntry]

/-- Settles O45. -/
theorem kitchenSetup : Obligations.KitchenSetup := by
  unfold Obligations.KitchenSetup
  refine ⟨fun s k g ht => ?marks, fun p tag k n o s hready ht hk hn => ?kitchen, fun p tag k n o s hready ho => ?kitchenOut,
    fun p tag k first vs s hready ho => ?capacityOut, fun p tag m weight lead least s hready ho => ?classOut,
    fun p tag b t0 t1 t2 t3 s hready ho => ?transitOut, fun p tag k first vs s hready hk hne h24 hlen => ?capacity,
    fun p tag m weight lead least s hready h15 h1 h63 hl1 hl16 hm1 hm50 => ?cls,
    fun p tag b t0 t1 t2 t3 s hready hb h0 h1 h2 h3 => ?transit⟩
  case marks =>
    obtain ⟨-, -, -, -, -, -, -, -, -, -, -, -, hload, -⟩ := ht
    exact State.mem_overWindows hload
  case kitchenOut =>
    exact exec_of_run rfl hready.1 ((runConfigKitchen_of_role (s := s.taking p tag (.configKitchen k o n))
      (mayIssue_of_ready tag hready (fun _ => rfl))).trans (if_pos ho))
  case capacityOut =>
    exact exec_of_run rfl hready.1 ((runSetCapacity_of_role (s := s.taking p tag (.setCapacity k first vs))
      (mayIssue_setCapacity hready)).trans (if_pos ((capacityOut_iff _ _ _).mpr ho)))
  case classOut =>
    exact exec_of_run rfl hready.1 ((runDefineClass_of_role (s := s.taking p tag (.defineClass m weight lead least))
      (mayIssue_of_ready tag hready (fun _ => rfl))).trans (if_pos ((defineOut_iff _ _ _ _).mpr ho)))
  case transitOut =>
    exact exec_of_run rfl hready.1 ((runSetTransit_of_role (s := s.taking p tag (.setTransit b t0 t1 t2 t3))
      (mayIssue_of_ready tag hready (fun _ => rfl))).trans (if_pos ho))
  case kitchen =>
    have hrun := (runConfigKitchen_of_role (s := s.taking p tag (.configKitchen k o n)) (k := k) (n := n) (o := o)
      (mayIssue_of_ready tag hready (fun _ => rfl))).trans (if_neg (by omega))
    have hset := setKitchen_sameBut (s.taking p tag (.configKitchen k o n)) k ⟨o, n⟩
    obtain ⟨hlim, hentry, hports, hsame⟩ := alignWindows_spec (s := s.taking p tag (.configKitchen k o n)) (k := k)
      (windows := List.range Config.windowCount) (by omega) hset (by decide) (fun g hg => List.mem_range.mp hg)
    obtain ⟨-, -, -, -, -, -, -, -, -, -, -, -, hload, -⟩ := ht
    have hkit := fun j => State.kitchen_of_sameBut hsame (by decide) j
    refine ⟨_, exec_of_run rfl hready.1 hrun, ?_, fun j hj => ?_, fun g hg => ?_, fun j g hj hg => ?_, hports hload,
      sameBut_trans (sameBut_mono (by decide) hset) (sameBut_mono (by decide) hsame)⟩
    · rw [hkit, kitchen_setKitchen, if_pos rfl]
    · rw [hkit, kitchen_setKitchen, if_neg hj]
      rfl
    · rw [hentry k g hg, if_pos ⟨rfl, List.mem_range.mpr hg⟩, hlim]
      rfl
    · rw [hentry j g hg, if_neg fun h => hj h.1]
      rfl
  case capacity =>
    have hrun := (runSetCapacity_of_role (s := s.taking p tag (.setCapacity k first vs)) (k := k) (first := first)
      (vs := vs) (mayIssue_setCapacity hready)).trans (if_neg (fun h => by
        rcases (capacityOut_iff k first vs).mp h with h | h | h | h | h
        · omega
        · have := List.length_pos_iff.mpr hne
          omega
        · exact hne h
        · omega
        · omega))
    rw [storedCapacities_ne] at hrun
    have hset := withProfile_sameBut (s.taking p tag (.setCapacity k first vs)) k first vs
    obtain ⟨hlim, hentry, hports, hsame⟩ := alignWindows_spec (s := s.taking p tag (.setCapacity k first vs)) (k := k)
      (windows := windowsOfDay first vs.length) (by omega) hset (by decide)
      (fun g hg => ((mem_windowsOfDay hlen).mp hg).1)
    have hcap := fun j g => (State.capacity_of_sameBut hsame (by decide) j g).trans
      (capacity_withProfile (s.taking p tag (.setCapacity k first vs)) (k := k) hlen j g)
    refine ⟨_, exec_of_run rfl hready.1 hrun, fun g => ?_, fun j g hj => ?_, fun g hg => ?_, fun j g hj hg => ?_,
      fun ht => ?_, sameBut_trans (sameBut_mono (by decide) hset) (sameBut_mono (by decide) hsame)⟩
    · rw [hcap k g]
      cases hv : vs[g % 96 - first]? with
      | none => exact ite_self _
      | some v => exact if_congr (by simp) rfl rfl
    · rw [hcap j g, if_neg fun h => hj h.1]
      rfl
    · rw [hentry k g hg, hlim]
      exact if_congr ⟨fun h => ((mem_windowsOfDay hlen).mp h.2).2, fun h => ⟨rfl, (mem_windowsOfDay hlen).mpr ⟨hg, h⟩⟩⟩
        rfl rfl
    · rw [hentry j g hg, if_neg fun h => hj h.1]
      rfl
    · obtain ⟨-, -, -, -, -, -, -, -, -, -, -, -, hload, -⟩ := ht
      exact hports hload
  case cls =>
    have hrun := (runDefineClass_of_role (s := s.taking p tag (.defineClass m weight lead least))
      (mayIssue_of_ready tag hready (fun _ => rfl))).trans
      (if_neg (fun h => by have := (defineOut_iff m weight lead least).mp h; omega))
    exact ⟨_, exec_of_run rfl hready.1 hrun, (menuClass_setClass _ _ _ _).trans (if_pos rfl),
      fun j hj => (menuClass_setClass _ _ _ _).trans (if_neg hj), setClass_sameBut _ _ _⟩
  case transit =>
    have hrun := (runSetTransit_of_role (s := s.taking p tag (.setTransit b t0 t1 t2 t3)) (b := b) (t0 := t0) (t1 := t1)
      (t2 := t2) (t3 := t3)
      (mayIssue_of_ready tag hready (fun _ => rfl))).trans (if_neg (by omega))
    refine ⟨_, exec_of_run rfl hready.1 hrun, ?_, ?_, ?_, ?_, fun d k hd hk => ?_,
      sameBut_foldl (setTransitEntry_sameBut b) _ _⟩
    · rw [transit_setTransit, if_neg (by omega), if_neg (by omega), if_neg (by omega), if_pos (by omega)]
    · rw [transit_setTransit, if_neg (by omega), if_neg (by omega), if_pos (by omega)]
    · rw [transit_setTransit, if_neg (by omega), if_pos (by omega)]
    · rw [transit_setTransit, if_pos (by omega)]
    · rw [transit_setTransit, if_neg (by omega), if_neg (by omega), if_neg (by omega), if_neg (by omega)]
      rfl

end Sys2Proof.Machine
end

section
/-! SUPPORT. The panel chains' shared operations, and READ_LINK_COUNTERS, CHAIN_RESET and the error window (O42). -/

namespace Sys2Proof.Machine

/-! ### Chain and position records -/

/-- A revised table's values, where the default is revised to itself. -/
theorem Table.read_revise {α : Type} [DecidableEq α] {d : α} {f : α → α} (hd : f d = d) {t : Table α}
    (h : Table.wf d t = true) (i : Nat) : Table.read d (Table.revise d f t) i = f (Table.read d t i) := by
  have hrising := ((Table.wf_iff _ _).mp h).1
  have hrising' := ((Table.wf_iff _ _).mp (Table.wf_revise f h)).1
  have hmem : ∀ e, e ∈ Table.revise d f t ↔ ∃ x, x ∈ t ∧ f x.2 ≠ d ∧ e = (x.1, f x.2) := by
    intro e
    unfold Table.revise
    rw [List.mem_filterMap]
    constructor
    · rintro ⟨x, hx, hfx⟩
      split at hfx
      · cases hfx
      next hne => exact ⟨x, hx, hne, (Option.some.inj hfx).symm⟩
    · rintro ⟨x, hx, hne, rfl⟩
      exact ⟨x, hx, if_neg hne⟩
  by_cases hr : Table.read d (Table.revise d f t) i = d
  · rw [hr]
    by_cases ht : Table.read d t i = d
    · rw [ht, hd]
    · by_contra hne
      have hlisted := (hmem (i, f (Table.read d t i))).mpr ⟨_, Table.mem_of_read ht, fun h => hne h.symm, rfl⟩
      have hread : Table.read d (Table.revise d f t) i = f (Table.read d t i) := Table.read_of_mem hrising' hlisted
      exact hne (hr.symm.trans hread)
  · obtain ⟨x, hx, -, heq⟩ := (hmem _).mp (Table.mem_of_read hr)
    obtain ⟨hi, hv⟩ := Prod.mk.inj heq
    have hread : Table.read d t x.1 = x.2 := Table.read_of_mem hrising hx
    rw [hv, hi, hread]

theorem setChain_sameBut (s : State) (c : Nat) (v : Chain) : sameBut [.chains] s (s.setChain c v) := by
  intro q hq
  cases q with
  | chains => exact absurd (by decide) hq
  | _ => first | exact rfl | exact fun _ => rfl | exact ⟨rfl, rfl⟩ | exact fun _ => ⟨rfl, rfl, rfl, rfl⟩

theorem State.chain_setChain_same (s : State) (c : Nat) (v : Chain) : (s.setChain c v).chain c = v :=
  (State.chain_setChain s c c v).trans (if_pos rfl)

theorem setChain_sameOtherChains (s : State) (c : Nat) (v : Chain) : sameOtherChains c s (s.setChain c v) :=
  fun d hd => (State.chain_setChain s c d v).trans (if_neg hd)

theorem State.chain_of_sameBut {l : List Part} {s t : State} (h : sameBut l s t) (hl : Part.chains ∉ l) (c : Nat) :
    t.chain c = s.chain c := by
  have hc : t.link.chains = s.link.chains := h .chains hl
  unfold State.chain
  rw [hc]

theorem sameOtherChains.sameBut {l : List Part} {c : Nat} {s t u : State} (h : sameOtherChains c s t)
    (hu : sameBut l t u) (hl : Part.chains ∉ l) : sameOtherChains c s u :=
  fun d hd => (State.chain_of_sameBut hu hl d).trans (h d hd)

/-- A chain's positions after every answered-this-round flag is cleared (R102, R108). -/
theorem position_clearAnswered {t : Table Position} (h : Table.wf Position.cold t = true) (k : Nat) :
    Table.read Position.cold (clearAnswered t) k = { Table.read Position.cold t k with answered := false } :=
  Table.read_revise rfl h k

theorem exec_onChain {c : Nat} (hc : c < 4) (s : State) (f : State → State) :
    (Host.Outcome.next (s.onChain c f) : Host.Outcome State Fault Refusal) = .next (f s) :=
  congrArg Host.Outcome.next (if_pos hc)

/-! ### Notices of positions and chain flags -/

theorem raisePanelState_sameBut (c : Nat) (room : Option Nat) (s : State) (p : Nat) :
    sameBut noticeParts s (s.raisePanelState c room p) := raise_sameBut s _

theorem recomputeRooms_sameBut (s : State) (rooms : List Nat) :
    sameBut [.displayRevs, .displays] s (s.recomputeRooms rooms) := sameBut_foldl recompute_sameBut rooms s

theorem raiseChainFlag_of_same (s : State) (kind : NoticeKind) (c : Nat) {was now : Bool} (h : was = now) (count : Nat) :
    s.raiseChainFlag kind c was now count = s := if_pos h

theorem raiseChainFlag_of_changed (s : State) (kind : NoticeKind) (c : Nat) {was now : Bool} (h : was ≠ now)
    (count : Nat) : s.raiseChainFlag kind c was now count =
      s.raise { kind := kind, subject := .chain c, cond := some (.flag now), data := [.count count] } := if_neg h

theorem raiseChainFlag_sameBut (s : State) (kind : NoticeKind) (c : Nat) (was now : Bool) (count : Nat) :
    sameBut noticeParts s (s.raiseChainFlag kind c was now count) := by
  by_cases h : was = now
  · rw [raiseChainFlag_of_same s kind c h]
    exact sameBut_refl _ s
  · rw [raiseChainFlag_of_changed s kind c h]
    exact raise_sameBut s _

/-! ### READ_LINK_COUNTERS -/

theorem runReadLinkCounters_of_role {p : Port} {c : Nat} {s : State} (hm : s.mayIssue p .facil = true) :
    runReadLinkCounters p c s = if 3 < c then refuse s .range
      else accept (s.setChain c { s.chain c with valid := 0, discards := 0 })
        (.linkCounters (s.chain c).valid (s.chain c).discards (s.chain c).activity (s.chain c).count (s.chain c).gap
          (s.chain c).degraded (s.chain c).fault (s.chain c).streak (s.chain c).windowDiscards) := by
  unfold runReadLinkCounters
  exact if_neg (by rw [hm]; decide)

/-! ### CHAIN_RESET -/

theorem runChainReset_of_role {p : Port} {c elapsed : Nat} {s : State} (hm : s.mayIssue p .facil = true) :
    runChainReset p c elapsed s = if 3 < c then refuse s .range
      else accept ((s.setChain c ((s.chain c).passTime elapsed)).resetChain c) := by
  unfold runChainReset
  exact if_neg (by rw [hm]; decide)

theorem leftLinked_eq_nil {old new : Chain} (h : ∀ k, 1 ≤ k → k ≤ 40 → (old.position k).presence ≠ .linked) :
    leftLinked old new = [] := by
  refine List.filter_eq_nil_iff.mpr fun k hk => ?_
  obtain ⟨i, hi, rfl⟩ := List.mem_map.mp hk
  have hi' : i < 40 := List.mem_range.mp hi
  simp [h (i + 1) (by omega) (by omega)]

/-- What the effect of CHAIN_RESET leaves (R118). -/
theorem resetChain_spec (s : State) (c : Nat) :
    (s.resetChain c).chain c = (s.chain c).afterReset ∧ sameOtherChains c s (s.resetChain c) ∧
    ((∀ k, 1 ≤ k → k ≤ 40 → (s.position c k).presence ≠ .linked) → (s.chain c).degraded = false →
      (s.chain c).fault = false → sameBut [.chains] s (s.resetChain c)) ∧
    sameBut ([.chains, .displayRevs, .displays] ++ noticeParts) s (s.resetChain c) := by
  have hset := setChain_sameBut s c (s.chain c).afterReset
  have hreset : ∃ left : List Nat, left = leftLinked (s.chain c) ((s.setChain c (s.chain c).afterReset).chain c) ∧
      s.resetChain c = ((((left.foldl (fun v p => v.raisePanelState c (s.boundRoom c p) p)
        (s.setChain c (s.chain c).afterReset)).raiseChainFlag .chainDegraded c (s.chain c).degraded false
          (Config.clearingCount (s.chain c).windowDiscards)).raiseChainFlag .chainFault c (s.chain c).fault false
          (Config.clearingCount (s.chain c).windowDiscards)).recomputeRooms (left.filterMap (s.boundRoom c))) :=
    ⟨_, rfl, rfl⟩
  obtain ⟨left, hleft, hreset⟩ := hreset
  have hpanels : sameBut noticeParts (s.setChain c (s.chain c).afterReset)
      (left.foldl (fun v p => v.raisePanelState c (s.boundRoom c p) p) (s.setChain c (s.chain c).afterReset)) :=
    sameBut_foldl (fun v p => raisePanelState_sameBut c (s.boundRoom c p) v p) left _
  have hafter : sameBut ([.displayRevs, .displays] ++ noticeParts) (s.setChain c (s.chain c).afterReset)
      (s.resetChain c) := by
    rw [hreset]
    exact sameBut_trans (sameBut_mono (by decide) hpanels) (sameBut_trans (sameBut_mono (by decide)
      (raiseChainFlag_sameBut _ _ _ _ _ _)) (sameBut_trans (sameBut_mono (by decide)
        (raiseChainFlag_sameBut _ _ _ _ _ _)) (sameBut_mono (by decide) (recomputeRooms_sameBut _ _))))
  refine ⟨?_, (setChain_sameOtherChains s c _).sameBut hafter (by decide), fun hlinked hdeg hfault => ?_,
    sameBut_trans (sameBut_mono (by decide) hset) (sameBut_mono (by decide) hafter)⟩
  · rw [State.chain_of_sameBut hafter (by decide), State.chain_setChain_same]
  · rw [leftLinked_eq_nil hlinked] at hleft
    rw [hreset, hleft, raiseChainFlag_of_same _ _ _ hdeg, raiseChainFlag_of_same _ _ _ hfault]
    exact hset

theorem Chain.position_afterReset {ch : Chain} (h : Table.wf Position.cold ch.positions = true) (k : Nat) :
    ch.afterReset.position k = { resetPosition (ch.position k) with answered := false } :=
  (position_clearAnswered (Table.wf_revise resetPosition h) k).trans
    (congrArg (fun q : Position => { q with answered := false }) (Table.read_revise rfl h k))

/-! ### The error window -/

/-- A window end that finds a chain's discards bad, or not (R115). -/
theorem Chain.endWindow_eq {ch : Chain} {n : Nat} {bad : Bool} (hn : n = ch.windowDiscards)
    (hbad : bad = decide (48 ≤ n ∨ (12 ≤ n ∧ ch.degraded = true))) : ch.endWindow = { ch with
      degraded := bad, streak := if bad then min (ch.streak + 1) 5 else 0
      fault := bad && (ch.fault || decide (5 ≤ ch.streak + 1)), windowDiscards := 0
      windowStart := ch.windowStart + 60000
      time := max ch.time (ch.windowStart + 60000)
      enumPending := ch.enumPending || (!(ch.activity == .enumerating) &&
        (ch.positions.any (fun e => e.2.presence == .lost) || ch.gap || ch.count == 0)) } := by
  subst hn
  have hreach : ch.endWindow = { (ch.reach (ch.windowStart + 60000)).judgeWindow with
      windowDiscards := 0, windowStart := ch.windowStart + 60000
      enumPending := (ch.reach (ch.windowStart + 60000)).judgeWindow.enumPending ||
        (ch.reach (ch.windowStart + 60000)).judgeWindow.windowAsks } := rfl
  by_cases h : 48 ≤ ch.windowDiscards ∨ (12 ≤ ch.windowDiscards ∧ ch.degraded = true)
  · rw [decide_eq_true h] at hbad
    subst hbad
    have hjudge : (ch.reach (ch.windowStart + 60000)).judgeWindow = { ch.reach (ch.windowStart + 60000) with
        degraded := true, streak := min (ch.streak + 1) 5
        fault := if 5 ≤ ch.streak + 1 then true else ch.fault } := if_pos h
    have hfault : (if 5 ≤ ch.streak + 1 then true else ch.fault) = (true && (ch.fault || decide (5 ≤ ch.streak + 1))) := by
      by_cases h5 : 5 ≤ ch.streak + 1 <;> simp [h5]
    rw [hreach, hjudge, hfault]
    rfl
  · rw [decide_eq_false h] at hbad
    subst hbad
    have hjudge : (ch.reach (ch.windowStart + 60000)).judgeWindow = { ch.reach (ch.windowStart + 60000) with
        degraded := false, streak := 0, fault := false } := if_neg h
    rw [hreach, hjudge]
    rfl

/-- Settles O42. -/
theorem chainCommandsAndErrorWindow : Obligations.ChainCommandsAndErrorWindow := by
  unfold Obligations.ChainCommandsAndErrorWindow
  refine ⟨fun p tag c s hready => ?read, fun p tag c elapsed time s hready ht htime => ?reset,
    fun c n bad s hc _ hn hbad => ?window⟩
  case read =>
    have hrun := runReadLinkCounters_of_role (s := s.taking p tag (.readLinkCounters c)) (c := c)
      (mayIssue_of_ready tag hready (fun _ => rfl))
    refine ⟨fun h3 => exec_of_run rfl hready.1 (hrun.trans (if_pos h3)), fun h3 => ?_⟩
    exact ⟨_, exec_of_run rfl hready.1 (hrun.trans (if_neg (by omega))), State.chain_setChain_same _ _ _,
      setChain_sameOtherChains (s.taking p tag (.readLinkCounters c)) c _, setChain_sameBut _ _ _⟩
  case reset =>
    subst htime
    have hrun := runChainReset_of_role (s := s.taking p tag (.chainReset c)) (c := c) (elapsed := elapsed)
      (mayIssue_of_ready tag hready (fun _ => rfl))
    refine ⟨fun h3 => exec_of_run rfl hready.1 (hrun.trans (if_pos h3)), fun h3 => ?_⟩
    obtain ⟨hchain, hothers, hquiet, hsame⟩ := resetChain_spec
      ((s.taking p tag (.chainReset c)).setChain c (((s.taking p tag (.chainReset c)).chain c).passTime elapsed)) c
    rw [State.chain_setChain_same] at hchain hquiet
    have hpass := setChain_sameBut (s.taking p tag (.chainReset c)) c
      (((s.taking p tag (.chainReset c)).chain c).passTime elapsed)
    obtain ⟨hpositions, -⟩ := ht.chain c
    refine ⟨_, exec_of_run rfl hready.1 (hrun.trans (if_neg (by omega))), ?_, fun k => ?_, fun d hd => ?_,
      fun hlinked hdeg hfault => ?_, sameBut_trans (sameBut_mono (by decide) hpass) hsame⟩
    · rw [hchain]
      rfl
    · unfold State.position
      rw [hchain, Chain.position_afterReset (ch := ((s.taking p tag (.chainReset c)).chain c).passTime elapsed) hpositions]
      rfl
    · rw [hothers d hd, setChain_sameOtherChains _ c _ d hd]
      rfl
    · refine sameBut_trans (sameBut_mono (by decide) hpass) (hquiet (fun k h1 h40 => ?_) hdeg hfault)
      unfold State.position
      rw [State.chain_setChain_same]
      exact hlinked k h1 h40
  case window =>
    have hend := Chain.endWindow_eq hn hbad
    have hset := setChain_sameBut s c (s.chain c).endWindow
    have hexec : exec (.errorWindowEnd c) s = .next (((s.setChain c (s.chain c).endWindow).raiseChainFlag .chainDegraded c
        (s.chain c).degraded (s.chain c).endWindow.degraded (s.chain c).windowDiscards).raiseChainFlag .chainFault c
        (s.chain c).fault (s.chain c).endWindow.fault (s.chain c).windowDiscards) := exec_onChain hc s _
    have hdegraded := raiseChainFlag_sameBut (s.setChain c (s.chain c).endWindow) .chainDegraded c (s.chain c).degraded
      (s.chain c).endWindow.degraded (s.chain c).windowDiscards
    have hafter := sameBut_trans hdegraded (raiseChainFlag_sameBut _ .chainFault c (s.chain c).fault
      (s.chain c).endWindow.fault (s.chain c).windowDiscards)
    have hchain : ∀ {u : State}, sameBut noticeParts (s.setChain c (s.chain c).endWindow) u →
        u.chain c = (s.chain c).endWindow := fun hu =>
      (State.chain_of_sameBut hu (by decide) c).trans (State.chain_setChain_same _ _ _)
    refine ⟨_, hexec, (hchain hafter).trans hend, (setChain_sameOtherChains s c _).sameBut hafter (by decide),
      fun hdeg hfault => ?_, fun hdeg hfault => ?_, sameBut_trans (sameBut_mono (by decide) hset)
        (sameBut_mono (by decide) hafter)⟩
    all_goals rw [hchain hafter] at hfault
    · have hdeg' : (s.chain c).degraded = (s.chain c).endWindow.degraded := by rw [hend]; exact hdeg
      rw [raiseChainFlag_of_same _ _ _ hdeg', raiseChainFlag_of_same _ _ _ hfault]
      exact hset
    · have hbad' : (s.chain c).endWindow.degraded = bad := by rw [hend]
      rw [raiseChainFlag_of_same _ _ _ hfault, hbad', raiseChainFlag_of_changed _ _ _ hdeg, ← hn]
      exact ports_raise (s := s) (t := s.setChain c (s.chain c).endWindow) rfl rfl rfl rfl _

end Sys2Proof.Machine
end

section
/-! SUPPORT. What the acts at a room's door, the taking of deadlines and the minute advance leave alone. -/

namespace Sys2Proof.Machine

/-- The parts an act at a room's door or a deadline taken may change. -/
def actParts : List Part :=
  [.choices, .records, .revision, .ring, .vacancy, .displayRevs, .displays, .waitlist, .orders, .load, .roomUsage,
    .chronic] ++ noticeParts

/-! ### Acts at the door -/

theorem finishFully_sameBut (s : State) (i : Nat) (r : Rec) (fin : FinState) (a : Actor) {notify : Facts → State → State}
    (hn : ∀ f t, sameBut noticeParts t (notify f t)) (b : Bool) : sameBut actParts s (s.finishFully i r fin a notify b) :=
  sameBut_trans (sameBut_mono (by decide) (finishRec_sameBut s i r fin a))
    (sameBut_trans (sameBut_mono (by decide) (hn _ _)) (sameBut_mono (by decide) (followFinish_sameBut _ _ b)))

/-- A finish with the room and the scan that follow it (R31, R70). -/
theorem finishAndScan_sameBut (s : State) (i : Nat) (r : Rec) (fin : FinState) (a : Actor)
    {notify : Facts → State → State} (hn : ∀ f t, sameBut noticeParts t (notify f t)) (b : Bool) (room : Nat) :
    sameBut actParts s (((s.finishFully i r fin a notify b).roomChanged room).promotionScan) :=
  sameBut_trans (finishFully_sameBut s i r fin a hn b) (sameBut_trans (sameBut_mono (by decide) (roomChanged_sameBut _ _))
    (sameBut_mono (by decide) (promotionScan_sameBut _)))

theorem earlyEnd_sameBut (s : State) (i : Nat) (r : Rec) (k l : Cause) : sameBut actParts s (s.earlyEnd i r k l) :=
  finishAndScan_sameBut s i _ _ _ (notifyEarlyEnd_sameBut k l) false _

theorem bookNow_sameBut (s : State) (room : Nat) : sameBut actParts s (s.bookNow room) := by
  unfold State.bookNow
  split
  · exact sameBut_refl _ s
  · split
    · exact sameBut_refl _ s
    · exact sameBut_trans (sameBut_mono (by decide) (changeRec_sameBut _ _ _)) (sameBut_trans (sameBut_mono (by decide)
        (raise_sameBut _ _)) (sameBut_mono (by decide) (roomChanged_sameBut _ _)))

theorem deliverOrder_sameBut (s : State) (j : Nat) (o : Order) :
    sameBut [.orders, .revision] s (s.deliverOrder j o) := changeOrder_sameBut _ _ _

theorem deliveredKey_sameBut (s : State) (room : Nat) : sameBut actParts s (s.deliveredKey room) := by
  have hdeliver : ∀ j o, sameBut actParts s ((s.deliverOrder j o).recompute room) := fun j o =>
    sameBut_trans (sameBut_mono (by decide) (deliverOrder_sameBut s j o)) (sameBut_mono (by decide) (recompute_sameBut _ _))
  unfold State.deliveredKey
  split
  · exact sameBut_refl _ s
  · split
    · exact sameBut_refl _ s
    · split
      · exact hdeliver _ _
      · exact hdeliver _ _
      · exact sameBut_refl _ s

/-- A press changes the book, the orders, the waitlist and what follows them, and not the panel chains (R129). -/
theorem press_sameBut (s : State) (room : Nat) (k : KeyCode) : sameBut actParts s (s.press room k) := by
  cases k with
  | none => exact sameBut_refl _ s
  | checkIn =>
    change sameBut actParts s (s.checkInKey room)
    unfold State.checkInKey
    split
    · exact sameBut_refl _ s
    · exact sameBut_mono (by decide) (checkIn_sameBut _ _ _ _ _)
  | endNow =>
    change sameBut actParts s (s.endNowKey room)
    unfold State.endNowKey
    split
    · exact sameBut_refl _ s
    · exact earlyEnd_sameBut _ _ _ _ _
  | extend =>
    change sameBut actParts s (s.extendKey room)
    unfold State.extendKey
    split
    · exact sameBut_refl _ s
    · split
      · exact sameBut_refl _ s
      · exact sameBut_mono (by decide) (extendRec_spec _ _ _ _ _).2.2
  | bookNow => exact bookNow_sameBut s room
  | delivered => exact deliveredKey_sameBut s room

/-! ### Deadlines -/

theorem finishByClock_sameBut (s : State) (i : Nat) (r : Rec) (fin : FinState) {notify : Facts → State → State}
    (hn : ∀ f t, sameBut noticeParts t (notify f t)) : sameBut actParts s (s.finishByClock i r fin notify) :=
  finishAndScan_sameBut s i r fin .clock hn false r.room

theorem changeAndFollow_sameBut (s : State) (i : Nat) (n : Rec) (room : Nat) :
    sameBut actParts s ((s.changeRec i n).roomChanged room) :=
  sameBut_trans (sameBut_mono (by decide) (changeRec_sameBut _ _ _)) (sameBut_mono (by decide) (roomChanged_sameBut _ _))

theorem takeRecord_sameBut (s : State) (i : Nat) : sameBut actParts s (s.takeRecord i) := by
  unfold State.takeRecord
  split
  · exact sameBut_refl _ s
  · split
    · unfold State.takeHoldEnd
      split
      · exact sameBut_refl _ s
      · exact finishByClock_sameBut s i _ _ fun f t => raise_sameBut t _
    · unfold State.takeArrival
      split
      · exact sameBut_refl _ s
      · exact changeAndFollow_sameBut _ _ _ _
    · unfold State.takeGraceEnd
      split
      · exact sameBut_refl _ s
      · split
        · exact finishByClock_sameBut s i _ _ fun f t => raise_sameBut t _
        · exact changeAndFollow_sameBut _ _ _ _
    · unfold State.takeUnverifiedEnd
      split
      · exact sameBut_refl _ s
      · exact finishByClock_sameBut s i _ _ fun f t => sameBut_refl _ t
    · unfold State.takeEnd
      split
      · exact sameBut_refl _ s
      · exact finishByClock_sameBut s i _ _ fun f t => sameBut_refl _ t

theorem orderRoomChanged_sameBut (s : State) (b : Option Handle) :
    sameBut [.displayRevs, .displays] s (s.orderRoomChanged b) := by
  unfold State.orderRoomChanged
  split
  · exact sameBut_refl _ s
  · exact recompute_sameBut _ _

theorem takeCutoff_sameBut (s : State) (j : Nat) : sameBut actParts s (s.takeCutoff j) := by
  unfold State.takeCutoff
  split
  · exact sameBut_refl _ s
  · dsimp only
    split
    · exact sameBut_refl _ s
    · split
      · exact sameBut_trans (sameBut_mono (by decide) (withdrawOrder_sameBut _ _ _ _)) (sameBut_trans (sameBut_mono
          (by decide) (changeRec_sameBut _ _ _)) (sameBut_trans (sameBut_mono (by decide) (raise_sameBut _ _))
          (sameBut_mono (by decide) (recompute_sameBut _ _))))
      · exact sameBut_trans (sameBut_mono (by decide) (changeOrder_sameBut _ _ _)) (sameBut_trans (sameBut_mono
          (by decide) (raise_sameBut _ _)) (sameBut_mono (by decide) (recompute_sameBut _ _)))

theorem takeOrder_sameBut (s : State) (j : Nat) : sameBut actParts s (s.takeOrder j) := by
  unfold State.takeOrder
  split
  · exact sameBut_refl _ s
  · split
    · exact takeCutoff_sameBut s j
    · unfold State.takeDispatch
      split
      · exact sameBut_refl _ s
      · exact sameBut_trans (sameBut_mono (by decide) (changeOrder_sameBut _ _ _)) (sameBut_trans (sameBut_mono
          (by decide) (raise_sameBut _ _)) (sameBut_mono (by decide) (orderRoomChanged_sameBut _ _)))
    · unfold State.takeLate
      split
      · exact sameBut_refl _ s
      · exact sameBut_trans (sameBut_mono (by decide) (changeOrder_sameBut _ _ _)) (sameBut_mono (by decide)
          (raise_sameBut _ _))

theorem takeExpiry_sameBut (s : State) (w : Nat) : sameBut actParts s (s.takeExpiry w) := by
  unfold State.takeExpiry
  split
  · exact sameBut_refl _ s
  · exact sameBut_trans (sameBut_mono (by decide) (freeEntry_sameBut _ _ _)) (sameBut_mono (by decide) (raise_sameBut _ _))

theorem takeAutoEnd_sameBut (s : State) (room : Nat) : sameBut actParts s (s.takeAutoEnd room) := by
  unfold State.takeAutoEnd
  split
  · exact sameBut_refl _ s
  · split
    · exact sameBut_refl _ s
    · split
      · exact sameBut_refl _ s
      · exact earlyEnd_sameBut _ _ _ _ _

/-- Taking something outstanding changes only what acts change (R13). -/
theorem take_sameBut (s : State) (x : Outstanding) : sameBut actParts s (s.take x) := by
  cases x with
  | record i => exact takeRecord_sameBut s i
  | order j => exact takeOrder_sameBut s j
  | entry w => exact takeExpiry_sameBut s w
  | vacancy room => exact takeAutoEnd_sameBut s room
  | display room =>
    change sameBut actParts s (s.takeDisplay room)
    unfold State.takeDisplay
    split
    · exact sameBut_refl _ s
    · exact sameBut_mono (by decide) (recompute_sameBut _ _)

theorem countChoice_sameBut (s : State) : sameBut [.choices] s s.countChoice := by
  intro q hq
  cases q with
  | choices => exact absurd (by decide) hq
  | _ => first | exact rfl | exact fun _ => rfl | exact ⟨rfl, rfl⟩ | exact fun _ => ⟨rfl, rfl, rfl, rfl⟩

theorem nextOutstanding_sameBut {s t : State} {x : Outstanding} (h : s.nextOutstanding = some (x, t)) :
    sameBut [.choices] s t := by
  unfold State.nextOutstanding at h
  split at h
  · cases h
  · obtain ⟨-, rfl⟩ := Prod.mk.inj (Option.some.inj h)
    exact sameBut_refl _ s
  · obtain ⟨-, rfl⟩ := Prod.mk.inj (Option.some.inj h)
    exact countChoice_sameBut s

/-- Taking all that is outstanding changes only what acts change (R13). -/
theorem drainUpTo_sameBut (n : Nat) : ∀ s : State, sameBut actParts s (s.drainUpTo n) := by
  induction n with
  | zero => exact fun s => sameBut_refl _ s
  | succ n ih =>
    intro s
    unfold State.drainUpTo
    split
    · exact sameBut_refl _ s
    next hx =>
      exact sameBut_trans (sameBut_mono (by decide) (nextOutstanding_sameBut hx)) (sameBut_trans (take_sameBut _ _) (ih _))

theorem drain_sameBut (s : State) : sameBut actParts s s.drain := drainUpTo_sameBut _ s

theorem drain_of_nothing {s : State} (h : s.outstanding = []) : s.drain = s := by
  unfold State.drain
  rw [h]
  rfl

theorem settle_of_nothing {s : State} (h : s.outstanding = []) (hold : s.clock.oldDay = false) : s.settle = s := by
  unfold State.settle
  rw [drain_of_nothing h]
  exact if_neg (by rw [hold]; decide)

/-! ### A minute advance -/

theorem markAllDue_sameBut (s : State) : sameBut [.records, .orders, .waitlist, .displays] s s.markAllDue := by
  intro q hq
  cases q with
  | records | orders | waitlist | displays => exact absurd (by decide) hq
  | _ => first | exact rfl | exact fun _ => rfl | exact ⟨rfl, rfl⟩ | exact fun _ => ⟨rfl, rfl, rfl, rfl⟩

theorem vacancyTick_sameBut (s : State) (room : Nat) : sameBut [.vacancy] s (s.vacancyTick room) := by
  unfold State.vacancyTick
  split
  · split
    · exact sameBut_refl _ s
    · exact setVacancy_sameBut _ _ _
  · exact setVacancy_sameBut _ _ _

theorem sensorTestAtAdvance_sameBut (s : State) (room : Nat) : sameBut actParts s (s.sensorTestAtAdvance room) := by
  have hcount : ∀ b : Bool, sameBut actParts s (if b then s.countChoice else s) := by
    intro b
    split
    · exact sameBut_mono (by decide) (countChoice_sameBut s)
    · exact sameBut_refl _ s
  unfold State.sensorTestAtAdvance
  split
  · dsimp only
    split
    · exact hcount _
    · split
      · exact hcount _
      · exact sameBut_trans (hcount _) (sameBut_mono (by decide) (checkIn_sameBut _ _ _ _ _))
  · exact sameBut_refl _ s

theorem advanceEffects_sameBut (s : State) : sameBut actParts s s.advanceEffects :=
  sameBut_trans (sameBut_mono (by decide) (markAllDue_sameBut s)) (sameBut_trans
    (sameBut_mono (by decide) (sameBut_foldl vacancyTick_sameBut roomNumbers _))
    (sameBut_foldl sensorTestAtAdvance_sameBut roomNumbers _))

/-! ### The rollover -/

theorem rolloverFinish_sameBut (s : State) (i : Nat) : sameBut actParts s (s.rolloverFinish i) := by
  unfold State.rolloverFinish
  split
  · exact sameBut_refl _ s
  · exact finishFully_sameBut s i _ _ _ (rolloverNotice_sameBut s _) true

theorem bookRollover_sameBut (s : State) : sameBut actParts s s.bookRollover :=
  sameBut_trans (sameBut_foldl rolloverFinish_sameBut _ s) (sameBut_mono (by decide) (roomsChanged_sameBut _ _))

/-- The parts that the freeing of served orders may change besides (R166, R170). -/
def servedParts : List Part := [.records, .revision, .ring, .orders, .load, .kitchenUsage]

theorem freeServed_sameBut (s : State) (j : Nat) : sameBut servedParts s (s.freeServed j) := by
  have hlink : ∀ (t : State) b, sameBut [.records, .revision] t (t.clearLink b) := by
    intro t b
    unfold State.clearLink
    split
    · exact sameBut_refl _ t
    · split
      · exact sameBut_refl _ t
      · exact changeRec_sameBut _ _ _
  unfold State.freeServed
  split
  · exact sameBut_refl _ s
  · exact sameBut_trans (sameBut_mono (by decide) (removeOrder_sameBut s j _ _ _)) (sameBut_trans (sameBut_mono (by decide)
      (countOrder_sameBut _ _)) (sameBut_mono (by decide) (hlink _ _)))

theorem renumber_sameBut (s : State) :
    sameBut [.clock, .records, .waitlist, .orders, .load, .displays] s s.renumber := by
  intro q hq
  cases q with
  | clock | records | waitlist | orders | load | displays => exact absurd (by decide) hq
  | _ => first | exact rfl | exact fun _ => rfl | exact ⟨rfl, rfl⟩ | exact fun _ => ⟨rfl, rfl, rfl, rfl⟩

theorem setChronic_sameBut (s : State) (room : Nat) (v : ChronicState) : sameBut [.chronic] s (s.setChronic room v) := by
  intro q hq
  cases q with
  | chronic => exact absurd (by decide) hq
  | _ => first | exact rfl | exact fun _ => rfl | exact ⟨rfl, rfl⟩ | exact fun _ => ⟨rfl, rfl, rfl, rfl⟩

theorem decideChronic_sameBut (s : State) (room : Nat) : sameBut ([.chronic] ++ noticeParts) s (s.decideChronic room) := by
  unfold State.decideChronic
  dsimp only
  split
  · exact sameBut_mono (by decide) (setChronic_sameBut _ _ _)
  · exact sameBut_trans (sameBut_mono (by decide) (setChronic_sameBut _ _ _)) (sameBut_mono (by decide) (raise_sameBut _ _))

/-- The parts the monitor's rollover may change (R173, R174). -/
def monitorParts : List Part := [.roomUsage, .kitchenUsage, .bank, .chronic] ++ noticeParts

theorem snapshotAtRollover_sameBut (s : State) : sameBut ([.roomUsage, .kitchenUsage, .bank] ++ noticeParts) s
    (if s.monitor.autoSnapshot then s.takeSnapshot .auto else s.raiseDayRolled .none) := by
  split
  · exact (takeSnapshot_spec s .auto).2.2
  · exact sameBut_mono (by decide) (raise_sameBut _ _)

theorem monitorRollover_sameBut (s : State) : sameBut monitorParts s s.monitorRollover :=
  sameBut_trans (sameBut_mono (by decide) (snapshotAtRollover_sameBut s))
    (sameBut_mono (by decide) (sameBut_foldl decideChronic_sameBut roomNumbers _))

end Sys2Proof.Machine
end

section
/-! SUPPORT. The clock commands (O21): the clock through what is owed, the minute advances and the rollover. -/

namespace Sys2Proof.Machine

/-! ### The clock -/

/-- A clock whose rollover is no longer owed: at horizon minute 1440 of the ending day it shows minute 0 of the next
(R14). -/
def Clock.settled (c : Clock) : Clock :=
  if c.oldDay then { c with day := (c.day + 1) % 7, minute := 0, oldDay := false } else c

/-- A clock one minute on, the rollover not yet made (R13). -/
def Clock.bumped (c : Clock) : Clock := { c with minute := c.minute + 1, oldDay := c.minute + 1 == 1440 }

/-- A settled clock one minute on, the rollover made where it reaches midnight (R13, R14). -/
def Clock.next (c : Clock) : Clock :=
  { c with minute := (c.minute + 1) % 1440, day := if c.minute + 1 < 1440 then c.day else (c.day + 1) % 7 }

theorem clock_of_sameBut {l : List Part} {s t : State} (h : sameBut l s t) (hl : Part.clock ∉ l) : t.clock = s.clock :=
  h .clock hl

theorem clock_drain (s : State) : s.drain.clock = s.clock := clock_of_sameBut (drain_sameBut s) (by decide)

theorem clock_rolloverChanges (s : State) : s.rolloverChanges.clock =
    { s.clock with day := (s.clock.day + 1) % 7, minute := 0, oldDay := false } := by
  have hbook := bookRollover_sameBut s.raiseRollover
  have hserved := sameBut_foldl freeServed_sameBut s.raiseRollover.bookRollover.servedOrders
    s.raiseRollover.bookRollover
  obtain ⟨t, ht⟩ : ∃ t, t = s.raiseRollover.bookRollover.servedOrders.foldl State.freeServed
    s.raiseRollover.bookRollover := ⟨_, rfl⟩
  have hroll : s.rolloverChanges = ((t.renumber.announceAllOver s.overLowered).recomputeAll).monitorRollover := by
    rw [ht]
    rfl
  rw [← ht] at hserved
  have hclock : t.clock = s.raiseRollover.clock :=
    (clock_of_sameBut hserved (by decide)).trans (clock_of_sameBut hbook (by decide))
  rw [hroll, clock_of_sameBut (monitorRollover_sameBut _) (by decide),
    clock_of_sameBut (recomputeAll_sameBut _) (by decide), clock_of_sameBut (announceAllOver_sameBut _ _) (by decide)]
  change { t.clock with oldDay := false } = _
  rw [hclock]
  rfl

theorem clock_rollover (s : State) : s.rollover.clock =
    { s.clock with day := (s.clock.day + 1) % 7, minute := 0, oldDay := false } := by
  unfold State.rollover
  dsimp only
  rw [clock_of_sameBut (advanceEffects_sameBut _) (by decide)]
  split
  · exact clock_rolloverChanges s
  · rw [clock_of_sameBut (promotionScan_sameBut _) (by decide)]
    exact clock_rolloverChanges s

theorem clock_settle (s : State) : s.settle.clock = s.clock.settled := by
  unfold State.settle Clock.settled
  dsimp only
  rw [clock_drain]
  split
  · rw [clock_drain, clock_rollover, clock_drain]
  · exact clock_drain s

theorem clock_advanceMinute {s : State} (hset : s.clock.set = true) :
    s.advanceMinute.clock = s.clock.settled.bumped := by
  unfold State.advanceMinute
  rw [if_pos hset, clock_of_sameBut (advanceEffects_sameBut _) (by decide)]
  change s.settle.clock.bumped = _
  rw [clock_settle]

theorem Clock.settled_of_today {c : Clock} (h : c.oldDay = false) : c.settled = c := by
  unfold Clock.settled
  exact if_neg (by rw [h]; decide)

theorem Clock.settled_bumped {c : Clock} (h : c.minute < 1440) (hold : c.oldDay = false) :
    c.bumped.settled = c.next := by
  unfold Clock.settled Clock.bumped Clock.next
  by_cases hm : c.minute + 1 = 1440
  · have hbeq : (c.minute + 1 == 1440) = true := beq_iff_eq.mpr hm
    dsimp only
    rw [hbeq, if_pos rfl, if_neg (show ¬ c.minute + 1 < 1440 by omega), show (c.minute + 1) % 1440 = 0 by omega, hold]
  · have hbeq : (c.minute + 1 == 1440) = false := beq_eq_false_iff_ne.mpr hm
    dsimp only
    rw [hbeq, if_neg (by decide), if_pos (show c.minute + 1 < 1440 by omega),
      show (c.minute + 1) % 1440 = c.minute + 1 by omega, hold]

/-- The clock some minutes on, less than a day. -/
def Clock.later (c : Clock) (n : Nat) : Clock :=
  { c with minute := (c.minute + n) % 1440, day := if c.minute + n < 1440 then c.day else (c.day + 1) % 7 }

theorem Clock.later_next {c : Clock} {n : Nat} (h : c.minute < 1440) (hn : n < 1440) :
    c.next.later n = c.later (n + 1) := by
  unfold Clock.later Clock.next
  dsimp only
  by_cases h1 : c.minute + 1 < 1440
  · rw [if_pos h1, Nat.mod_eq_of_lt h1, show c.minute + 1 + n = c.minute + (n + 1) by omega]
  · rw [if_neg h1, show (c.minute + 1) % 1440 = 0 by omega, if_pos (show 0 + n < 1440 by omega),
      if_neg (show ¬ c.minute + (n + 1) < 1440 by omega), show (c.minute + (n + 1)) % 1440 = (0 + n) % 1440 by omega]

theorem Clock.next_minute_lt (c : Clock) : c.next.minute < 1440 := Nat.mod_lt _ (by decide)

/-- The settled clock after some minute advances (R13, R14). -/
theorem clock_advanceMinutes (n : Nat) : ∀ s : State, n ≤ 15 → s.clock.set = true → s.clock.settled.minute < 1440 →
    (s.advanceMinutes n).clock.settled = s.clock.settled.later n := by
  induction n with
  | zero =>
    intro s _ _ hm
    unfold Clock.later
    rw [Nat.add_zero, Nat.mod_eq_of_lt hm, if_pos hm]
    rfl
  | succ n ih =>
    intro s hn hset hm
    have hold : s.clock.settled.oldDay = false := by
      unfold Clock.settled
      split
      · rfl
      next h => exact Bool.eq_false_iff.mpr h
    have hadv := clock_advanceMinute hset
    have hset' : s.advanceMinute.clock.set = true := by
      rw [hadv]
      unfold Clock.settled Clock.bumped
      split
      · exact hset
      · exact hset
    have hsettled : s.advanceMinute.clock.settled = s.clock.settled.next := by
      rw [hadv, Clock.settled_bumped hm hold]
    have hrest := ih s.advanceMinute (by omega) hset' (by rw [hsettled]; exact Clock.next_minute_lt _)
    rw [hsettled, Clock.later_next hm (by omega)] at hrest
    exact hrest

/-! ### The commands -/

/-- The state with another clock. -/
def State.withClock (s : State) (c : Clock) : State := { s with clock := c }

theorem withClock_sameBut (s : State) (c : Clock) : sameBut [.clock] s (s.withClock c) := by
  intro q hq
  cases q with
  | clock => exact absurd (by decide) hq
  | _ => first | exact rfl | exact fun _ => rfl | exact ⟨rfl, rfl⟩ | exact fun _ => ⟨rfl, rfl, rfl, rfl⟩

/-- What a replaced clock leaves, after every display is computed again. -/
theorem withClock_of_sameBut {s t u : State} {c : Clock} (h1 : sameBut [.clock] s t) (ht : t.clock = c)
    (h2 : sameBut [.displayRevs, .displays] t u) (hall : allDisplaysFollow t u) :
    u.clock = c ∧ allDisplaysFollow s u ∧ sameBut [.clock, .displayRevs, .displays] s u :=
  ⟨(clock_of_sameBut h2 (by decide)).trans ht,
    fun q hq => (hall q hq).from (State.shownAlike_of_sameBut h1 q (by decide)),
    sameBut_trans (sameBut_mono (by decide) h1) (sameBut_mono (by decide) h2)⟩

/-- What replacing the clock does (R16, R17, R123). -/
theorem withClock_spec (s : State) (c : Clock) : (s.withClock c).recomputeAll.clock = c ∧
    allDisplaysFollow s (s.withClock c).recomputeAll ∧
    sameBut [.clock, .displayRevs, .displays] s (s.withClock c).recomputeAll :=
  withClock_of_sameBut (withClock_sameBut s c) rfl (recomputeAll_sameBut _)
    (allDisplaysFollow_recomputeAll (fun _ => ⟨rfl, rfl⟩))

theorem runSetMinuteSync_of_role {p : Port} {e : Bool} {s : State} (hm : s.mayIssue p .facil = true) :
    runSetMinuteSync p e s = accept (s.withClock { s.clock with syncEnabled := e }) := by
  unfold runSetMinuteSync
  exact if_neg (by rw [hm]; decide)

theorem runSetTime_of_role {p : Port} {d m n : Nat} {s : State} (hm : s.mayIssue p .facil = true) :
    runSetTime p d m n s = if 6 < d ∨ 1439 < m ∨ 59 < n then refuse s .range
      else if s.serving then refuse s .state
      else accept (s.settle.withClock (s.settle.clock.setTo d m n)).recomputeAll := by
  unfold runSetTime
  exact if_neg (by rw [hm]; decide)

theorem runAdjustTimeForward_of_role {p : Port} {n : Nat} {s : State} (hm : s.mayIssue p .facil = true) :
    runAdjustTimeForward p n s = if n = 0 ∨ 15 < n then refuse s .range
      else if !s.clock.set then refuse s .noTime
      else accept (s.advanceMinutes n).settle
        (.time (s.advanceMinutes n).settle.clock.day (s.advanceMinutes n).settle.clock.minute) := by
  unfold runAdjustTimeForward
  exact if_neg (by rw [hm]; decide)

theorem runAdjustTimeBackward_of_role {p : Port} {n : Nat} {s : State} (hm : s.mayIssue p .facil = true) :
    runAdjustTimeBackward p n s = if n = 0 ∨ 15 < n then refuse s .range
      else if !s.clock.set then refuse s .noTime
      else if s.settle.clock.minute < n then refuse s.settle .range
      else accept (s.settle.withClock { s.settle.clock with minute := s.settle.clock.minute - n }).recomputeAll
        (.minute ((s.settle.clock.minute - n : Nat) : Int)) := by
  unfold runAdjustTimeBackward
  rw [hm]
  dsimp only
  rw [if_neg (by decide), clock_of_sameBut (recomputeAll_sameBut _) (by decide)]
  generalize s.settle = t
  unfold State.withClock
  rfl

/-- Settles O21. -/
theorem clockCommands : Obligations.ClockCommands := by
  unfold Obligations.ClockCommands
  refine ⟨fun s ho hold => settle_of_nothing ho hold, fun p tag d m n s hready hout => ?timeOut,
    fun p tag n s hout => ⟨fun hready => ?forwardOut, fun hready => ?backwardOut⟩, fun p tag e s hready => ?sync,
    fun p tag d m n s t hready hd hm hn => ?time, fun p tag n s hready h1 h15 => ?forward,
    fun p tag n s t hready h1 h15 => ?backward⟩
  case timeOut =>
    exact exec_of_run rfl hready.1 ((runSetTime_of_role (s := s.taking p tag (.setTime d m n))
      (mayIssue_of_ready tag hready (fun _ => rfl))).trans (if_pos hout))
  case forwardOut =>
    exact exec_of_run rfl hready.1 ((runAdjustTimeForward_of_role (s := s.taking p tag (.adjustTimeForward n))
      (mayIssue_of_ready tag hready (fun _ => rfl))).trans (if_pos hout))
  case backwardOut =>
    exact exec_of_run rfl hready.1 ((runAdjustTimeBackward_of_role (s := s.taking p tag (.adjustTimeBackward n))
      (mayIssue_of_ready tag hready (fun _ => rfl))).trans (if_pos hout))
  case sync =>
    exact ⟨_, exec_of_run rfl hready.1 (runSetMinuteSync_of_role (s := s.taking p tag (.setMinuteSync e))
      (mayIssue_of_ready tag hready (fun _ => rfl))), rfl, withClock_sameBut _ _⟩
  case time =>
    have hrun := (runSetTime_of_role (s := s.taking p tag (.setTime d m n)) (d := d) (m := m) (n := n)
      (mayIssue_of_ready tag hready (fun _ => rfl))).trans (if_neg (by omega))
    refine ⟨fun hs => exec_of_run rfl hready.1 (hrun.trans (if_pos hs)), fun hs ht => ?_⟩
    have hnot : ¬ (s.taking p tag (.setTime d m n)).serving = true := by
      rw [show (s.taking p tag (.setTime d m n)).serving = false from hs]
      decide
    subst ht
    exact ⟨_, exec_of_run rfl hready.1 (hrun.trans (if_neg hnot)), withClock_spec _ _⟩
  case forward =>
    have hrun := (runAdjustTimeForward_of_role (s := s.taking p tag (.adjustTimeForward n)) (n := n)
      (mayIssue_of_ready tag hready (fun _ => rfl))).trans (if_neg (by omega))
    refine ⟨fun hset => ?_, fun hset hm hold => ?_⟩
    · have hset' : (s.taking p tag (.adjustTimeForward n)).clock.set = false := hset
      rw [hset'] at hrun
      exact exec_of_run rfl hready.1 hrun
    · have hset' : (s.taking p tag (.adjustTimeForward n)).clock.set = true := hset
      rw [hset'] at hrun
      have htoday : (s.taking p tag (.adjustTimeForward n)).clock.settled = s.clock := Clock.settled_of_today hold
      have hclock := clock_advanceMinutes n (s.taking p tag (.adjustTimeForward n)) h15 hset'
        (by rw [htoday]; exact hm)
      rw [htoday] at hclock
      exact ⟨_, rfl, exec_of_run rfl hready.1 hrun, (clock_settle _).trans hclock⟩
  case backward =>
    have hrun := (runAdjustTimeBackward_of_role (s := s.taking p tag (.adjustTimeBackward n)) (n := n)
      (mayIssue_of_ready tag hready (fun _ => rfl))).trans (if_neg (by omega))
    refine ⟨fun hset => ?_, fun hset ht => ⟨fun hlt => ?_, fun hle => ?_⟩⟩
    · have hset' : (s.taking p tag (.adjustTimeBackward n)).clock.set = false := hset
      rw [hset'] at hrun
      exact exec_of_run rfl hready.1 hrun
    all_goals
      have hset' : (s.taking p tag (.adjustTimeBackward n)).clock.set = true := hset
      rw [hset', if_neg (by decide), ← ht] at hrun
    · exact exec_of_run rfl hready.1 (hrun.trans (if_pos hlt))
    · obtain ⟨hclock, hall, hsame⟩ := withClock_spec t { t.clock with minute := t.clock.minute - n }
      exact ⟨_, exec_of_run rfl hready.1 (hrun.trans (if_neg (Nat.not_lt.mpr hle))), hclock, hall, hsame⟩

end Sys2Proof.Machine
end

section
/-! SUPPORT. A reply of the roll call taken in full (O44): each step changes one position of one chain. -/

namespace Sys2Proof.Machine

/-! ### A step at one position -/

/-- Two states differ, in their chains, at most in the record of one position of one chain, which is given. -/
structure PositionStep (c p : Nat) (s t : State) (v : Position) : Prop where
  own : t.position c p = v
  others : ∀ k, k ≠ p → t.position c k = s.position c k
  chain : { t.chain c with positions := [] } = { s.chain c with positions := [] }
  otherChains : sameOtherChains c s t

theorem PositionStep.refl (c p : Nat) (s : State) : PositionStep c p s s (s.position c p) :=
  ⟨rfl, fun _ _ => rfl, rfl, fun _ _ => rfl⟩

theorem PositionStep.trans {c p : Nat} {s t u : State} {v w : Position} (h : PositionStep c p s t v)
    (k : PositionStep c p t u w) : PositionStep c p s u w :=
  ⟨k.own, fun q hq => (k.others q hq).trans (h.others q hq), k.chain.trans h.chain,
    fun d hd => (k.otherChains d hd).trans (h.otherChains d hd)⟩

theorem PositionStep.after {c p : Nat} {l : List Part} {s t u : State} {v : Position} (h : PositionStep c p s t v)
    (hu : sameBut l t u) (hl : Part.chains ∉ l) : PositionStep c p s u v := by
  have hchain := State.chain_of_sameBut hu hl
  refine ⟨(State.position_of_sameBut hu hl c p).trans h.own,
    fun k hk => (State.position_of_sameBut hu hl c k).trans (h.others k hk), ?_, h.otherChains.sameBut hu hl⟩
  rw [hchain]
  exact h.chain

theorem positionStep_setPosition (s : State) (c p : Nat) (v : Position) : PositionStep c p s (s.setPosition c p v) v := by
  refine ⟨?_, fun k hk => ?_, ?_, setChain_sameOtherChains s c _⟩
  · rw [State.position_setPosition, if_pos ⟨rfl, rfl⟩]
  · rw [State.position_setPosition, if_neg fun h => hk h.2]
  · unfold State.setPosition
    rw [State.chain_setChain_same]
    rfl

theorem State.boundRoom_of_sameBut {l : List Part} {s t : State} (h : sameBut l s t) (hl : Part.locations ∉ l)
    (c p : Nat) : t.boundRoom c p = s.boundRoom c p := by
  have hloc : t.link.locations = s.link.locations := h .locations hl
  unfold State.boundRoom
  rw [hloc]

/-! ### Presence -/

theorem updatePresence_spec (s : State) (c p : Nat) (faults : PanelFaults) :
    PositionStep c p s (s.updatePresence c p faults) (answeredPosition (s.position c p) faults) ∧
    (presenceAfterGood (s.position c p) = (s.position c p).presence →
      sameBut [.chains] s (s.updatePresence c p faults)) ∧
    (s.boundRoom c p = none → sameBut ([.chains] ++ noticeParts) s (s.updatePresence c p faults)) ∧
    sameBut ([.chains] ++ actParts) s (s.updatePresence c p faults) := by
  have hset := setPosition_sameBut s c p (answeredPosition (s.position c p) faults)
  have hstep := positionStep_setPosition s c p (answeredPosition (s.position c p) faults)
  by_cases hp : (s.position c p).presence = presenceAfterGood (s.position c p)
  · have heq : s.updatePresence c p faults = s.setPosition c p (answeredPosition (s.position c p) faults) := if_pos hp
    rw [heq]
    exact ⟨hstep, fun _ => hset, fun _ => sameBut_mono (by decide) hset, sameBut_mono (by decide) hset⟩
  · obtain ⟨u, hu⟩ : ∃ u, u = (s.setPosition c p (answeredPosition (s.position c p) faults)).raisePanelState c
        ((s.setPosition c p (answeredPosition (s.position c p) faults)).boundRoom c p) p := ⟨_, rfl⟩
    have hraise : sameBut noticeParts (s.setPosition c p (answeredPosition (s.position c p) faults)) u := by
      rw [hu]
      exact raisePanelState_sameBut _ _ _ _
    have hbound : u.boundRoom c p = s.boundRoom c p :=
      (State.boundRoom_of_sameBut hraise (by decide) c p).trans (State.boundRoom_of_sameBut hset (by decide) c p)
    have heq : s.updatePresence c p faults = match u.boundRoom c p with
        | none => u
        | some room => (u.sensorTest room).recompute room := by
      rw [hu]
      exact if_neg hp
    have hfrom : sameBut ([.chains] ++ noticeParts) s u :=
      sameBut_trans (sameBut_mono (by decide) hset) (sameBut_mono (by decide) hraise)
    rw [hbound] at heq
    cases hb : s.boundRoom c p with
    | none =>
      rw [hb] at heq
      rw [heq]
      exact ⟨hstep.after hraise (by decide), fun h => absurd h.symm hp, fun _ => hfrom, sameBut_mono (by decide) hfrom⟩
    | some room =>
      rw [hb] at heq
      have hact : sameBut actParts u ((u.sensorTest room).recompute room) :=
        sameBut_trans (sameBut_mono (by decide) (sensorTest_sameBut u room)) (sameBut_mono (by decide)
          (recompute_sameBut _ room))
      rw [heq]
      exact ⟨(hstep.after hraise (by decide)).after hact (by decide), fun h => absurd h.symm hp, fun h => (by cases h),
        sameBut_trans (sameBut_mono (by decide) hfrom) (sameBut_mono (by decide) hact)⟩

/-! ### The sensor -/

theorem reportOccupied_sameBut (s : State) (room : Nat) : sameBut actParts s (s.reportOccupied room) := by
  unfold State.reportOccupied
  split
  · exact sameBut_trans (sameBut_mono (by decide) (setVacancy_sameBut _ _ _)) (sameBut_mono (by decide)
      (sensorTest_sameBut _ room))
  · exact sameBut_refl _ s

theorem takeSensor_spec (s : State) (c p : Nat) (raw : SensorRaw) :
    PositionStep c p s (s.takeSensor c p raw) (debounce (s.position c p) raw) ∧
    (¬ ((debounce (s.position c p) raw).debounced = some .occupied ∧ (s.position c p).debounced ≠ some .occupied) →
      sameBut [.chains] s (s.takeSensor c p raw)) ∧
    (s.boundRoom c p = none → sameBut [.chains] s (s.takeSensor c p raw)) ∧
    sameBut ([.chains] ++ actParts) s (s.takeSensor c p raw) := by
  have hset := setPosition_sameBut s c p (debounce (s.position c p) raw)
  have hstep := positionStep_setPosition s c p (debounce (s.position c p) raw)
  have hbound := State.boundRoom_of_sameBut hset (by decide) c p
  by_cases ho : (debounce (s.position c p) raw).debounced = some .occupied ∧ (s.position c p).debounced ≠ some .occupied
  · have heq : s.takeSensor c p raw = match (s.setPosition c p (debounce (s.position c p) raw)).boundRoom c p with
        | none => s.setPosition c p (debounce (s.position c p) raw)
        | some room => (s.setPosition c p (debounce (s.position c p) raw)).reportOccupied room := if_pos ho
    rw [hbound] at heq
    cases hb : s.boundRoom c p with
    | none =>
      rw [hb] at heq
      rw [heq]
      exact ⟨hstep, fun h => absurd ho h, fun _ => hset, sameBut_mono (by decide) hset⟩
    | some room =>
      rw [hb] at heq
      have hact := reportOccupied_sameBut (s.setPosition c p (debounce (s.position c p) raw)) room
      rw [heq]
      exact ⟨hstep.after hact (by decide), fun h => absurd ho h, fun h => (by cases h),
        sameBut_trans (sameBut_mono (by decide) hset) (sameBut_mono (by decide) hact)⟩
  · have heq : s.takeSensor c p raw = s.setPosition c p (debounce (s.position c p) raw) := if_neg ho
    rw [heq]
    exact ⟨hstep, fun _ => hset, fun _ => hset, sameBut_mono (by decide) hset⟩

/-! ### The key -/

/-- A position after the key of a reply (R128). -/
def keyedPosition (q : Position) (key : KeyCode) (seq : BitVec 4) : Position :=
  { q with lastSeq := if key = .none then q.lastSeq else some seq }

/-- What the key of a reply leaves: its position, and the press it makes where it is new, from a LINKED panel bound to a
room of a SERVING device (R95, R128, R129). -/
theorem takeKey_spec (s : State) (c p : Nat) (key : KeyCode) (seq : BitVec 4) :
    PositionStep c p s (s.takeKey c p key seq) (keyedPosition (s.position c p) key seq) ∧
    (key = .none ∨ (s.position c p).lastSeq = none ∨ (s.position c p).lastSeq = some seq ∨ s.boundRoom c p = none ∨
      s.serving = false ∨ (s.position c p).presence ≠ .linked → sameBut [.chains] s (s.takeKey c p key seq)) ∧
    (∀ room k, key ≠ .none → (s.position c p).lastSeq = some k → k ≠ seq → s.boundRoom c p = some room →
      s.serving = true → (s.position c p).presence = .linked →
      ∃ t, sameBut [.chains] s t ∧ s.takeKey c p key seq = t.press room key) ∧
    sameBut ([.chains] ++ actParts) s (s.takeKey c p key seq) := by
  by_cases hkey : key = .none
  · have heq : s.takeKey c p key seq = s := if_pos hkey
    have hkeyed : keyedPosition (s.position c p) key seq = s.position c p := by
      unfold keyedPosition
      rw [if_pos hkey]
    rw [heq, hkeyed]
    exact ⟨PositionStep.refl c p s, fun _ => sameBut_refl _ s, fun _ _ h => absurd hkey h, sameBut_refl _ s⟩
  · have hkeyed : keyedPosition (s.position c p) key seq = { s.position c p with lastSeq := some seq } := by
      unfold keyedPosition
      rw [if_neg hkey]
    obtain ⟨t, ht⟩ : ∃ t, t = s.setPosition c p { s.position c p with lastSeq := some seq } := ⟨_, rfl⟩
    have hset : sameBut [.chains] s t := by rw [ht]; exact setPosition_sameBut _ _ _ _
    have hstep : PositionStep c p s t (keyedPosition (s.position c p) key seq) := by
      rw [hkeyed, ht]
      exact positionStep_setPosition _ _ _ _
    have hbound := State.boundRoom_of_sameBut hset (by decide) c p
    have hserving : t.serving = s.serving := by rw [ht]; rfl
    have heq : s.takeKey c p key seq = match t.boundRoom c p with
        | none => t
        | some room => if newPress (s.position c p) key seq && t.serving && decide ((s.position c p).presence = .linked)
          then t.press room key else t := by
      rw [ht]
      exact if_neg hkey
    rw [hbound, hserving] at heq
    cases hb : s.boundRoom c p with
    | none =>
      rw [hb] at heq
      rw [heq]
      exact ⟨hstep, fun _ => hset, fun _ _ _ _ _ h => (by cases h), sameBut_mono (by decide) hset⟩
    | some room =>
      rw [hb] at heq
      have hpress : (newPress (s.position c p) key seq && s.serving && decide ((s.position c p).presence = .linked)) = true ↔
          (∃ k, (s.position c p).lastSeq = some k ∧ k ≠ seq) ∧ s.serving = true ∧ (s.position c p).presence = .linked := by
        unfold newPress
        simp [Option.any_eq_true, hkey, and_assoc]
      by_cases hnew : (newPress (s.position c p) key seq && s.serving && decide ((s.position c p).presence = .linked)) = true
      · have heq' := heq.trans (if_pos hnew)
        obtain ⟨⟨k, hk, hkseq⟩, hs, hl⟩ := hpress.mp hnew
        have hact := press_sameBut t room key
        rw [heq']
        refine ⟨hstep.after hact (by decide), fun h => ?_, fun room' k' _ _ _ hroom _ _ => ?_,
          sameBut_trans (sameBut_mono (by decide) hset) (sameBut_mono (by decide) hact)⟩
        · rcases h with h | h | h | h | h | h
          · exact absurd h hkey
          · rw [hk] at h; cases h
          · rw [hk] at h; exact absurd (Option.some.inj h) hkseq
          · cases h
          · rw [hs] at h; cases h
          · exact absurd hl h
        · rw [← Option.some.inj hroom]
          exact ⟨t, hset, rfl⟩
      · have heq' := heq.trans (if_neg hnew)
        rw [heq']
        exact ⟨hstep, fun _ => hset, fun room' k' _ hk hkseq _ hs hl => absurd (hpress.mpr ⟨⟨k', hk, hkseq⟩, hs, hl⟩) hnew,
          sameBut_mono (by decide) hset⟩

end Sys2Proof.Machine
end

section
/-! SUPPORT. A reply of the roll call as a whole, and the judging of an upstream frame (O43, O44). -/

namespace Sys2Proof.Machine

/-! ### The judging of a frame -/

theorem UpFrame.malformed_eq_false (f : UpFrame) : (UpFrame.malformed f) = false ↔
    f.cut = false ∧ f.payload.length = f.length.toNat ∧ f.kind ≠ none ∧ f.address.toNat ≤ 40 ∧ f.length.toNat ≤ 48 ∧
    (f.kind = some .enumReply → f.length = 4) ∧ (f.kind = some .rollReply → f.length = 6) := by
  unfold UpFrame.malformed
  simp only [Bool.or_eq_false_iff, Bool.and_eq_false_iff, Bool.not_eq_false', beq_iff_eq, beq_eq_false_iff_ne,
    decide_eq_false_iff_not, Nat.not_lt, Option.isNone_eq_false_iff, Option.isSome_iff_ne_none, ne_eq, imp_iff_not_or,
    and_assoc]

/-- A frame that passes the checks that do not look at the chain is judged by its kind and its turn (R99). -/
theorem Chain.judge_of_good (ch : Chain) {f : UpFrame} (h : frameGood f) : ch.judge f =
    match f.kind with
    | some .enumReply => if ch.enumDue f then .enumReply else .discard
    | some .rollReply => if !ch.rollDue f then .discard else if UpFrame.byte f 0 = ch.roundNow then .rollReply else .discard
    | _ => .discard := by
  obtain ⟨hcut, hlength, hkind, haddress, hmax, henum, hroll, hcheck, hrerr⟩ := h
  have hmalformed : (UpFrame.malformed f) = false := (UpFrame.malformed_eq_false f).mpr ⟨hcut, hlength, hkind, haddress, hmax, henum, hroll⟩
  have hmatches : (UpFrame.checkMatches f) = true := decide_eq_true hcheck
  unfold Chain.judge
  rw [hmalformed, hmatches, hrerr]
  rfl

theorem Chain.judge_of_not_good (ch : Chain) {f : UpFrame} (h : ¬ frameGood f) : ch.judge f = .discard := by
  unfold Chain.judge
  split
  · rfl
  next hmalformed =>
  split
  · rfl
  next hcheck =>
  split
  · rfl
  next hrerr =>
  have hm := (UpFrame.malformed_eq_false f).mp (Bool.eq_false_iff.mpr hmalformed)
  obtain ⟨hcut, hlength, hkind, haddress, hmax, henum, hroll⟩ := hm
  have hmatches : (UpFrame.checkMatches f) = true := by simpa using hcheck
  exact absurd ⟨hcut, hlength, hkind, haddress, hmax, henum, hroll, of_decide_eq_true hmatches,
    Bool.eq_false_iff.mpr hrerr⟩ h

theorem Chain.enumDue_iff (ch : Chain) (f : UpFrame) :
    ch.enumDue f = true ↔ ch.activity = .enumerating ∧ ch.highest < f.address.toNat := by
  unfold Chain.enumDue
  rw [Bool.and_eq_true, decide_eq_true_iff, decide_eq_true_iff]

theorem Chain.rollDue_iff (ch : Chain) (f : UpFrame) : ch.rollDue f = true ↔
    ch.activity = .rollcall ∧ ch.lastAnswered < f.address.toNat ∧ f.address.toNat ≤ ch.count := by
  unfold Chain.rollDue
  rw [Bool.and_eq_true, Bool.and_eq_true, decide_eq_true_iff, decide_eq_true_iff, decide_eq_true_iff, and_assoc]

theorem UpFrame.byte_zero {f : UpFrame} (h : f.payload ≠ []) (b : Byte) :
    UpFrame.byte f 0 = b ↔ f.payload.head? = some b := by
  unfold UpFrame.byte
  cases hp : f.payload with
  | nil => exact absurd hp h
  | cons x l => exact (Option.some_inj (a := x)).symm

theorem payload_ne_nil {f : UpFrame} (h : frameGood f) (hk : f.kind = some .rollReply) : f.payload ≠ [] := by
  obtain ⟨-, hlength, -, -, -, -, hroll, -, -⟩ := h
  intro hnil
  rw [hnil, hroll hk] at hlength
  cases hlength

theorem Chain.judge_enumReply {ch : Chain} {f : UpFrame} (hg : frameGood f) (hk : f.kind = some .enumReply)
    (hd : frameDue ch f) : ch.judge f = .enumReply := by
  rw [ch.judge_of_good hg, hk]
  rcases hd with ⟨-, hdue⟩ | ⟨hk', -⟩
  · exact if_pos ((ch.enumDue_iff f).mpr hdue)
  · rw [hk] at hk'; cases hk'

theorem Chain.judge_rollReply {ch : Chain} {f : UpFrame} (hg : frameGood f) (hk : f.kind = some .rollReply)
    (hd : frameDue ch f) : ch.judge f = .rollReply := by
  rw [ch.judge_of_good hg, hk]
  rcases hd with ⟨hk', -⟩ | ⟨-, hact, hlast, hcount, hround⟩
  · rw [hk] at hk'; cases hk'
  · dsimp only
    rw [(ch.rollDue_iff f).mpr ⟨hact, hlast, hcount⟩]
    exact if_pos ((UpFrame.byte_zero (payload_ne_nil hg hk) _).mpr hround)

/-- A frame that is not good and due is discarded (R99). -/
theorem Chain.judge_discard {ch : Chain} {f : UpFrame} (h : ¬ (frameGood f ∧ frameDue ch f)) :
    ch.judge f = .discard := by
  by_cases hg : frameGood f
  · have hd : ¬ frameDue ch f := fun hd => h ⟨hg, hd⟩
    rw [ch.judge_of_good hg]
    split
    next hk => exact if_neg fun hdue => hd (.inl ⟨hk, (ch.enumDue_iff f).mp hdue⟩)
    next hk =>
      split
      · rfl
      next hdue =>
      obtain ⟨hact, hlast, hcount⟩ := (ch.rollDue_iff f).mp (by simpa using hdue)
      exact if_neg fun hround => hd
        (.inr ⟨hk, hact, hlast, hcount, (UpFrame.byte_zero (payload_ne_nil hg hk) _).mp hround⟩)
    · rfl
  · exact ch.judge_of_not_good hg

/-! ### An event of a chain after time has passed -/

/-- Two states differ at most in the chain record `c`, which is given. -/
theorem setChain_setChain_spec (s : State) (c : Nat) (v w : Chain) :
    ((s.setChain c v).setChain c w).chain c = w ∧ sameOtherChains c s ((s.setChain c v).setChain c w) ∧
    sameBut [.chains] s ((s.setChain c v).setChain c w) :=
  ⟨State.chain_setChain_same _ _ _,
    fun d hd => (setChain_sameOtherChains _ c w d hd).trans (setChain_sameOtherChains s c v d hd),
    sameBut_trans (setChain_sameBut s c v) (setChain_sameBut _ c w)⟩

/-- The judging of a frame does not look at the chain's timer. -/
theorem Chain.judge_passTime (ch : Chain) (elapsed : Nat) (f : UpFrame) :
    (ch.passTime elapsed).judge f = ch.judge f := rfl

/-- What an upstream frame comes to, by its judgement (R99). -/
def State.judged (t : State) (c : Nat) (f : UpFrame) : Judgement → State
  | .discard => t.setChain c (t.chain c).countDiscard
  | .enumReply => t.takeEnumReply c f
  | .rollReply => t.takeRollReply c f

theorem takeUpFrame_eq (t : State) (c : Nat) (f : UpFrame) : t.takeUpFrame c f = t.judged c f ((t.chain c).judge f) := by
  unfold State.takeUpFrame State.judged
  cases (t.chain c).judge f <;> rfl

/-- An upstream frame, judged against its chain (R99). -/
theorem exec_upstreamFrame {c elapsed : Nat} {f : UpFrame} {s : State} {j : Judgement} (hc : c < 4)
    (hj : (s.chain c).judge f = j) : exec (.upstreamFrame c elapsed f) s =
      .next ((s.setChain c ((s.chain c).passTime elapsed)).judged c f j) := by
  have hj' : ((s.setChain c ((s.chain c).passTime elapsed)).chain c).judge f = j := by
    rw [State.chain_setChain_same, Chain.judge_passTime]
    exact hj
  exact (exec_onChain hc s _).trans (congrArg _ ((takeUpFrame_eq _ c f).trans (by rw [hj'])))

/-! ### A reply from a position that holds a unit id -/

/-- A position after a shown revision has been reported, `target` being the display revision of its room (R125). -/
def shownPosition (q : Position) (shown target : BitVec 8) : Position :=
  { q with shown := shown, due := q.due || !(shown == target) }

theorem debounce_presence (q : Position) (raw : SensorRaw) : (debounce q raw).presence = q.presence := by
  unfold debounce
  repeat' split
  all_goals rfl

theorem debounce_due (q : Position) (raw : SensorRaw) : (debounce q raw).due = q.due := by
  unfold debounce
  repeat' split
  all_goals rfl

/-- The value a reply's sensor gives, nothing under a sensor fault (R110). -/
def UpFrame.sensorValue (f : UpFrame) : Option Occupancy :=
  if f.faults.sensor then none else SensorRaw.value f.sensor

theorem handedSensor_value (f : UpFrame) : SensorRaw.value (UpFrame.handedSensor f) = (UpFrame.sensorValue f) := by
  unfold UpFrame.handedSensor UpFrame.sensorValue
  split <;> rfl

/-- The two-reply debounce, its two fields written out (R130). -/
theorem debounce_eq (q : Position) (raw : SensorRaw) : debounce q raw = { q with
    debounced := if SensorRaw.value raw ≠ none ∧ q.pendingSensor = SensorRaw.value raw ∧ q.debounced ≠ SensorRaw.value raw then SensorRaw.value raw else q.debounced
    pendingSensor := if SensorRaw.value raw = none ∨ q.debounced = SensorRaw.value raw ∨ q.pendingSensor = SensorRaw.value raw then none
      else SensorRaw.value raw } := by
  unfold debounce
  cases hv : SensorRaw.value raw with
  | none => simp
  | some v =>
    by_cases hd : q.debounced = some v
    · simp [hd]
    · by_cases hp : q.pendingSensor = some v <;> simp [hd, hp]

/-- The four steps at a position that replies come to `repliedPosition`, its due mark apart (R110, R127, R128, R130). -/
theorem repliedPosition_eq (q : Position) (f : UpFrame) (seq : BitVec 4) (shown target : Byte) :
    { shownPosition (keyedPosition (debounce (answeredPosition q f.faults) (UpFrame.handedSensor f)) f.key seq) shown target with
      due := false } = repliedPosition q f seq shown := by
  rw [debounce_eq, handedSensor_value]
  rfl

/-- What a reply leaves (R110, R125 to R131). -/
theorem takeReply_spec {s : State} {c p : Nat} {f : UpFrame} {seq : BitVec 4} {shown : Byte}
    (hp : p = f.address.toNat) (hseq : (UpFrame.byte f 3).setWidth 4 = seq) (hshown : UpFrame.byte f 4 = shown) :
    (∃ target, PositionStep c p s (s.takeReply c f) (shownPosition
        (keyedPosition (debounce (answeredPosition (s.position c p) f.faults) (UpFrame.handedSensor f)) f.key seq) shown target) ∧
      target = match s.boundRoom c p with
        | none => 0
        | some room => ((s.takeReply c f).room room).displayRev) ∧
    (s.boundRoom c p = none → sameBut ([.chains] ++ noticeParts) s (s.takeReply c f)) ∧
    (presenceAfterGood (s.position c p) = (s.position c p).presence →
      ¬ ((debounce (answeredPosition (s.position c p) f.faults) (UpFrame.handedSensor f)).debounced = some .occupied ∧
        (s.position c p).debounced ≠ some .occupied) →
      (f.key = .none ∨ (s.position c p).lastSeq = none ∨ (s.position c p).lastSeq = some seq ∨
        s.boundRoom c p = none ∨ s.serving = false ∨ (s.position c p).presence ≠ .linked →
        sameBut [.chains] s (s.takeReply c f)) ∧
      (∀ room k, f.key ≠ .none → (s.position c p).lastSeq = some k → k ≠ seq → s.boundRoom c p = some room →
        s.serving = true → (s.position c p).presence = .linked →
        ∃ t, sameBut [.chains] s t ∧ sameBut [.chains] (t.press room f.key) (s.takeReply c f))) := by
  obtain ⟨s1, h1⟩ : ∃ s1, s1 = s.updatePresence c p f.faults := ⟨_, rfl⟩
  obtain ⟨s2, h2⟩ : ∃ s2, s2 = s1.takeSensor c p (UpFrame.handedSensor f) := ⟨_, rfl⟩
  obtain ⟨s3, h3⟩ : ∃ s3, s3 = s2.takeKey c p f.key seq := ⟨_, rfl⟩
  have hreply : s.takeReply c f = s3.setPosition c p (shownPosition (s3.position c p) shown (s3.targetRevision c p)) := by
    rw [h3, h2, h1, hp, ← hseq, ← hshown]
    rfl
  obtain ⟨step1, quiet1, unbound1, frame1⟩ := updatePresence_spec s c p f.faults
  obtain ⟨step2, quiet2, unbound2, frame2⟩ := takeSensor_spec s1 c p (UpFrame.handedSensor f)
  obtain ⟨step3, quiet3, pressed3, frame3⟩ := takeKey_spec s2 c p f.key seq
  rw [← h1] at step1 quiet1 unbound1 frame1
  rw [← h2] at step2 quiet2 unbound2 frame2
  rw [← h3] at step3 quiet3 pressed3 frame3
  have hbound1 := State.boundRoom_of_sameBut frame1 (by decide) c p
  have hbound2 := (State.boundRoom_of_sameBut frame2 (by decide) c p).trans hbound1
  have hbound3 := (State.boundRoom_of_sameBut frame3 (by decide) c p).trans hbound2
  rw [step1.own] at step2 quiet2
  rw [step2.own] at step3 quiet3 pressed3
  have hset := setPosition_sameBut s3 c p (shownPosition (s3.position c p) shown (s3.targetRevision c p))
  rw [hreply]
  refine ⟨⟨s3.targetRevision c p, ?_, ?_⟩, fun hnone => ?_, fun hpresence hocc => ?_⟩
  · have hlast := positionStep_setPosition s3 c p (shownPosition (s3.position c p) shown (s3.targetRevision c p))
    have hall := ((step1.trans step2).trans step3).trans hlast
    rw [step3.own] at hall ⊢
    exact hall
  · unfold State.targetRevision
    rw [hbound3]
    rfl
  · refine sameBut_trans (unbound1 hnone) (sameBut_trans (sameBut_mono (by decide) (unbound2 (hbound1.trans hnone))) ?_)
    exact sameBut_mono (by decide) (sameBut_trans (quiet3 (.inr (.inr (.inr (.inl (hbound2.trans hnone)))))) hset)
  · have hq1 := quiet1 hpresence
    have hq2 := quiet2 hocc
    have hq12 := sameBut_trans hq1 hq2
    have hserving : s2.serving = s.serving := by
      have hmode : s2.site.mode = s.site.mode := hq12 .mode (by decide)
      unfold State.serving
      rw [hmode]
    have hp2 : (debounce (answeredPosition (s.position c p) f.faults) (UpFrame.handedSensor f)).presence =
        (s.position c p).presence := (debounce_presence _ _).trans hpresence
    have hseq2 : (debounce (answeredPosition (s.position c p) f.faults) (UpFrame.handedSensor f)).lastSeq =
        (s.position c p).lastSeq := by
      rw [debounce_eq]
      rfl
    rw [hp2, hseq2, hbound2, hserving] at quiet3 pressed3
    refine ⟨fun h => sameBut_trans (sameBut_trans hq12 (quiet3 h)) hset, fun room k hkey hk hne hb hs hl => ?_⟩
    obtain ⟨t, hst, hpress⟩ := pressed3 room k hkey hk hne hb hs hl
    refine ⟨t, sameBut_trans hq12 hst, ?_⟩
    rw [← hpress]
    exact hset

/-- The chain's own part of a good, due ROLL_REPLY (R99, R109). -/
def Chain.turned (ch : Chain) (p : Nat) : Chain := { ch.countValid with lastAnswered := p }

theorem Chain.turned_passTime (ch : Chain) (elapsed p : Nat) : (ch.passTime elapsed).turned p =
    { ch with time := ch.time + elapsed, valid := min (ch.valid + 1) 65535, lastAnswered := p } := by
  unfold Chain.turned Chain.countValid Chain.passTime satAdd
  rfl

/-- A good, due ROLL_REPLY with its turn taken (R109, R110). -/
theorem takeRollReply_eq (s : State) (c elapsed p : Nat) (f : UpFrame) (hp : p = f.address.toNat) :
    ∃ t, t = (s.setChain c ((s.chain c).passTime elapsed)).setChain c (((s.chain c).passTime elapsed).turned p) ∧
      (s.setChain c ((s.chain c).passTime elapsed)).takeRollReply c f =
        if p = (s.chain c).count then (if (s.position c p).unitId.isSome then t.takeReply c f else t).endRound c
        else if (s.position c p).unitId.isSome then t.takeReply c f else t := by
  refine ⟨_, rfl, ?_⟩
  subst hp
  have hchain := State.chain_setChain_same s c ((s.chain c).passTime elapsed)
  have hpos : ((s.setChain c ((s.chain c).passTime elapsed)).setChain c
      (((s.chain c).passTime elapsed).turned f.address.toNat)).position c f.address.toNat = s.position c f.address.toNat := by
    unfold State.position
    rw [State.chain_setChain_same]
    rfl
  unfold State.takeRollReply
  rw [hchain]
  dsimp only
  have hturn : (((s.setChain c ((s.chain c).passTime elapsed)).setChain c
      { ((s.chain c).passTime elapsed).countValid with lastAnswered := f.address.toNat }).position c f.address.toNat) =
      s.position c f.address.toNat := hpos
  rw [hturn]
  rfl

/-- The sequence number and shown revision a ROLL_REPLY carries (R127). -/
theorem rollReply_bytes {s : State} {c : Nat} {f : UpFrame} {seq : BitVec 4} {shown : Byte}
    (h : rollReply s c f seq shown) : (UpFrame.byte f 3).setWidth 4 = seq ∧ UpFrame.byte f 4 = shown := by
  obtain ⟨-, -, -, -, hseq, hshown⟩ := h
  unfold UpFrame.byte
  rw [hshown]
  obtain ⟨b, hb, hbs⟩ := Option.map_eq_some_iff.mp hseq
  rw [hb]
  exact ⟨hbs, rfl⟩

/-- R109, R110, R125 to R131: a good reply, taken in full. -/
theorem exec_upstreamFrame_rollReply {s : State} {c elapsed p : Nat} {f : UpFrame} {seq : BitVec 4} {shown : Byte}
    (h : rollReply s c f seq shown) (hp : p = f.address.toNat) (hu : (s.position c p).unitId ≠ none) :
    ∃ u, replyTaken s u c elapsed p f seq shown ∧
      exec (.upstreamFrame c elapsed f) s = .next (if p = (s.chain c).count then u.endRound c else u) := by
  obtain ⟨hseq, hshown⟩ := rollReply_bytes h
  obtain ⟨hc, hg, hk, hd, -, -⟩ := h
  obtain ⟨t, ht, htake⟩ := takeRollReply_eq s c elapsed p f hp
  rw [if_pos (Option.isSome_iff_ne_none.mpr hu)] at htake
  refine ⟨t.takeReply c f, ?_, (exec_upstreamFrame hc (Chain.judge_rollReply hg hk hd)).trans (congrArg _ htake)⟩
  obtain ⟨hchain, hothers, hsame⟩ := setChain_setChain_spec s c ((s.chain c).passTime elapsed)
    (((s.chain c).passTime elapsed).turned p)
  rw [← ht] at hchain hothers hsame
  have hpos : ∀ k, t.position c k = s.position c k := by
    intro k
    unfold State.position
    rw [hchain]
    rfl
  have hbound := State.boundRoom_of_sameBut hsame (by decide) c p
  have hserving : t.serving = s.serving := by
    have hmode : t.site.mode = s.site.mode := hsame .mode (by decide)
    unfold State.serving
    rw [hmode]
  obtain ⟨⟨target, hstep, htarget⟩, hunbound, hquiet⟩ := takeReply_spec (s := t) (c := c) hp hseq hshown
  rw [hpos, hbound] at hquiet
  rw [hserving] at hquiet
  rw [hpos] at hstep
  rw [hbound] at htarget hunbound
  have hpresence : ((t.takeReply c f).position c p).presence = presenceAfterGood (s.position c p) := by
    rw [hstep.own]
    exact debounce_presence _ _
  have hdebounced : ((t.takeReply c f).position c p).debounced =
      (debounce (answeredPosition (s.position c p) f.faults) (UpFrame.handedSensor f)).debounced := by
    rw [hstep.own]
    rfl
  refine ⟨?_, fun k hk => (hstep.others k hk).trans (hpos k), ?_, fun d hd => (hstep.otherChains d hd).trans (hothers d hd),
    ?_, fun hb => sameBut_trans (sameBut_mono (by decide) hsame) (hunbound hb), fun hsamePresence hocc => ?_⟩
  · rw [hstep.own]
    exact repliedPosition_eq _ f seq shown target
  · rw [hstep.chain, hchain, Chain.turned_passTime]
  · rw [hstep.own]
    exact congrArg₂ or (debounce_due _ _) (congrArg (fun v => !(shown == v)) (htarget.trans rfl))
  · rw [hpresence] at hsamePresence
    rw [hdebounced] at hocc
    obtain ⟨hnone, hpress⟩ := hquiet hsamePresence hocc
    rw [hpresence, hsamePresence]
    refine ⟨fun h => sameBut_trans hsame (hnone h), fun room k hkey hk hne hb hs hl => ?_⟩
    obtain ⟨v, hv, hpressed⟩ := hpress room k hkey hk hne hb hs hl
    exact ⟨v, sameBut_trans hsame hv, hpressed⟩

/-- R110: a reply from a gap position only advances the turn. -/
theorem exec_upstreamFrame_gapReply {s : State} {c elapsed p : Nat} {f : UpFrame} {seq : BitVec 4} {shown : Byte}
    (h : rollReply s c f seq shown) (hp : p = f.address.toNat) (hu : (s.position c p).unitId = none) :
    ∃ u, gapReplyTaken s u c elapsed p ∧
      exec (.upstreamFrame c elapsed f) s = .next (if p = (s.chain c).count then u.endRound c else u) := by
  obtain ⟨hc, hg, hk, hd, -, -⟩ := h
  obtain ⟨t, ht, htake⟩ := takeRollReply_eq s c elapsed p f hp
  rw [hu] at htake
  refine ⟨t, ?_, (exec_upstreamFrame hc (Chain.judge_rollReply hg hk hd)).trans (congrArg _ htake)⟩
  unfold gapReplyTaken
  rw [ht, ← Chain.turned_passTime]
  exact setChain_setChain_spec s c _ _

end Sys2Proof.Machine
end

section
/-! SUPPORT. Rounds: how one begins and ends, the sending of the due displays, and the frames' bytes (O44). -/

namespace Sys2Proof.Machine

theorem Does.tablesOk {i : Instr} {s t : State} (h : Does i s t) (hs : s.tablesOk) : t.tablesOk := by
  induction h with
  | refl => exact hs
  | tail _ hact ih => exact Move.tablesOk (.act hact) ih

/-! ### The start of a round -/

theorem Chain.position_beginRound {ch : Chain} (h : Table.wf Position.cold ch.positions = true) (k : Nat) :
    ch.beginRound.position k = { ch.position k with answered := false } := position_clearAnswered h k

/-- A round may start exactly where it need not wait (R101, R108). -/
theorem Chain.roundReached_iff (ch : Chain) : ch.roundReached = true ↔ ¬ ch.mustWait ch.time := by
  unfold Chain.roundReached Chain.mustWait
  simp only [Bool.and_eq_true, Bool.not_eq_true', decide_eq_true_iff, Option.any_eq_true, not_or, not_forall, Nat.not_lt,
    Bool.not_eq_true, Nat.pos_iff_ne_zero, exists_prop, and_assoc]

theorem Chain.enterWait_of_mustWait {ch : Chain} (h : ch.mustWait ch.time) :
    ch.enterWait = { ch with activity := .wait } :=
  if_neg (fun hr => (ch.roundReached_iff.mp hr) h)

theorem Chain.enterWait_of_not_mustWait {ch : Chain} (h : ¬ ch.mustWait ch.time) : ch.enterWait = ch.beginRound :=
  if_pos (ch.roundReached_iff.mpr h)

theorem roundStart_of_empty {s : State} {c t : Nat} (hw : (s.chain c).activity = .wait)
    (hp : (s.chain c).enumPending = false) (hn : (s.chain c).nextRoundStart = some t) (h0 : (s.chain c).count = 0) :
    s.roundStart c = s.setChain c { (s.chain c).reach t with nextRoundStart := some (t + (s.chain c).period) } := by
  have hgo : ¬ ((s.chain c).activity ≠ .wait ∨ (s.chain c).enumPending = true) := by simp [hw, hp]
  unfold State.roundStart
  dsimp only
  rw [hn]
  exact (if_neg hgo).trans (if_pos h0)

theorem roundStart_of_panels {s : State} {c t : Nat} (hw : (s.chain c).activity = .wait)
    (hp : (s.chain c).enumPending = false) (hn : (s.chain c).nextRoundStart = some t) (h0 : 0 < (s.chain c).count) :
    s.roundStart c = s.setChain c ((s.chain c).reach t).beginRound := by
  have hgo : ¬ ((s.chain c).activity ≠ .wait ∨ (s.chain c).enumPending = true) := by simp [hw, hp]
  unfold State.roundStart
  dsimp only
  rw [hn]
  exact (if_neg hgo).trans (if_neg (Nat.pos_iff_ne_zero.mp h0))

theorem roundTimeout_of_rollcall {s : State} {c t : Nat} (ha : (s.chain c).activity = .rollcall)
    (ht : (s.chain c).roundTimeoutAt = some t) :
    s.roundTimeout c = (s.setChain c ((s.chain c).reach t)).endRound c := by
  unfold State.roundTimeout
  rw [ha, ht]

theorem roundTimeout_of_not_rollcall {s : State} {c : Nat} (ha : (s.chain c).activity ≠ .rollcall) :
    s.roundTimeout c = s := by
  unfold State.roundTimeout
  split
  next hr _ => exact absurd hr ha
  next => rfl

/-- A position of a state whose chain record has just been set. -/
theorem State.position_setChain_same (s : State) (c : Nat) (v : Chain) (k : Nat) :
    (s.setChain c v).position c k = v.position k := by
  unfold State.position
  rw [State.chain_setChain_same]

/-! ### The misses of a round -/

/-- A position's record at the end of a round: a miss where it holds a unit id and has not answered (R111). -/
def roundEndPosition (q : Position) : Position :=
  if q.unitId.isNone || q.answered then q else missedPosition q

theorem roundEndPosition_due (q : Position) : (roundEndPosition q).due = q.due := by
  unfold roundEndPosition
  split <;> rfl

/-- A position that is not LINKED, has answered or has missed fewer than two rounds keeps its presence (R111). -/
theorem roundEndPosition_presence {q : Position} (h : q.presence = .linked → q.miss < 2 ∨ q.answered = true) :
    (roundEndPosition q).presence = q.presence := by
  unfold roundEndPosition
  split
  · rfl
  next hmiss =>
    have hanswered : q.answered = false := by
      simp only [Bool.or_eq_true, not_or, Bool.not_eq_true] at hmiss
      exact hmiss.2
    refine if_neg fun hl => ?_
    rcases h hl.1 with hm | ha
    · omega
    · rw [hanswered] at ha; cases ha

theorem missedPosition_eq (q : Position) : missedPosition q = { q with
    good := 0, miss := min (q.miss + 1) 3
    presence := if q.presence = .linked ∧ 2 ≤ q.miss then .lost else q.presence } := by
  have hle : (3 ≤ q.miss + 1) = (2 ≤ q.miss) := propext (by omega)
  unfold missedPosition
  simp only [hle]

theorem takeMiss_spec (s : State) (c p : Nat) :
    PositionStep c p s (State.takeMiss c s p) (roundEndPosition (s.position c p)) ∧
    ((roundEndPosition (s.position c p)).presence = (s.position c p).presence →
      sameBut [.chains] s (State.takeMiss c s p)) ∧
    sameBut ([.chains, .displayRevs, .displays] ++ noticeParts) s (State.takeMiss c s p) := by
  unfold roundEndPosition State.takeMiss
  dsimp only
  by_cases hskip : ((s.position c p).unitId.isNone || (s.position c p).answered) = true
  · rw [if_pos hskip, if_pos hskip]
    exact ⟨PositionStep.refl c p s, fun _ => sameBut_refl _ s, sameBut_refl _ s⟩
  rw [if_neg hskip, if_neg hskip]
  have hset := setPosition_sameBut s c p (missedPosition (s.position c p))
  have hstep := positionStep_setPosition s c p (missedPosition (s.position c p))
  by_cases hp : (missedPosition (s.position c p)).presence = (s.position c p).presence
  · rw [if_pos hp]
    exact ⟨hstep, fun _ => hset, sameBut_mono (by decide) hset⟩
  · rw [if_neg hp]
    have hafter : sameBut ([.displayRevs, .displays] ++ noticeParts) (s.setPosition c p (missedPosition (s.position c p)))
        (((s.setPosition c p (missedPosition (s.position c p))).raisePanelState c
          ((s.setPosition c p (missedPosition (s.position c p))).boundRoom c p) p).recomputeRooms
          ((s.setPosition c p (missedPosition (s.position c p))).boundRoom c p).toList) :=
      sameBut_trans (sameBut_mono (by decide) (raisePanelState_sameBut _ _ _ _))
        (sameBut_mono (by decide) (recomputeRooms_sameBut _ _))
    exact ⟨hstep.after hafter (by decide), fun h => absurd h hp,
      sameBut_trans (sameBut_mono (by decide) hset) (sameBut_mono (by decide) hafter)⟩

/-- The misses of some positions of a chain, each named once. -/
theorem takeMisses_spec (c : Nat) {l : List Nat} (hl : l.Nodup) (s : State) :
    (∀ k, (l.foldl (State.takeMiss c) s).position c k =
      if k ∈ l then roundEndPosition (s.position c k) else s.position c k) ∧
    { (l.foldl (State.takeMiss c) s).chain c with positions := [] } = { s.chain c with positions := [] } ∧
    sameOtherChains c s (l.foldl (State.takeMiss c) s) ∧
    ((∀ k, k ∈ l → (roundEndPosition (s.position c k)).presence = (s.position c k).presence) →
      sameBut [.chains] s (l.foldl (State.takeMiss c) s)) ∧
    sameBut ([.chains, .displayRevs, .displays] ++ noticeParts) s (l.foldl (State.takeMiss c) s) := by
  induction l generalizing s with
  | nil => exact ⟨fun _ => rfl, rfl, fun _ _ => rfl, fun _ => sameBut_refl _ s, sameBut_refl _ s⟩
  | cons p l ih =>
    obtain ⟨hnot, hl⟩ := List.nodup_cons.mp hl
    obtain ⟨hstep, hquiet, hframe⟩ := takeMiss_spec s c p
    obtain ⟨hpos, hchain, hothers, hquiet', hframe'⟩ := ih hl (State.takeMiss c s p)
    rw [List.foldl_cons]
    refine ⟨fun k => ?_, hchain.trans hstep.chain, fun d hd => (hothers d hd).trans (hstep.otherChains d hd),
      fun h => ?_, sameBut_trans hframe hframe'⟩
    · rw [hpos k]
      by_cases hk : k = p
      · subst hk
        rw [if_neg hnot, if_pos List.mem_cons_self]
        exact hstep.own
      · rw [hstep.others k hk]
        exact ite_congr (propext ⟨List.mem_cons_of_mem p, fun h => (List.mem_cons.mp h).resolve_left hk⟩)
          (fun _ => rfl) (fun _ => rfl)
    · refine sameBut_trans (hquiet (h p List.mem_cons_self)) (hquiet' fun k hk => ?_)
      rw [hstep.others k (fun he => hnot (he ▸ hk))]
      exact h k (List.mem_cons_of_mem p hk)

theorem mem_positionsTo {n k : Nat} : k ∈ positionsTo n ↔ 1 ≤ k ∧ k ≤ n := by
  unfold positionsTo
  rw [List.mem_map]
  constructor
  · rintro ⟨i, hi, rfl⟩
    have := List.mem_range.mp hi
    omega
  · rintro ⟨h1, hn⟩
    exact ⟨k - 1, List.mem_range.mpr (by omega), by omega⟩

theorem nodup_positionsTo (n : Nat) : (positionsTo n).Nodup :=
  List.nodup_range.map (fun _ _ h => Nat.succ.inj h)

/-! ### The positions that are due -/

theorem Chain.firstDue_eq_none_iff {ch : Chain} (h : Table.wf Position.cold ch.positions = true) :
    ch.firstDue = none ↔ ∀ k, (ch.position k).due = false := by
  unfold Chain.firstDue
  rw [Option.map_eq_none_iff, List.find?_eq_none]
  constructor
  · intro hall k
    by_contra hdue
    have hcold : ch.position k ≠ Position.cold := fun he => hdue (by rw [he]; rfl)
    exact hall _ (Table.mem_of_read hcold) (Bool.eq_true_of_not_eq_false hdue)
  · intro hall e he hdue
    have hread := Table.read_of_mem (d := Position.cold) ((Table.wf_iff _ _).mp h).1 he
    have hnot := hall e.1
    unfold Chain.position at hnot
    rw [hread, hdue] at hnot
    cases hnot

/-- The lowest due position is the next one a DISPLAY frame is sent to (R114). -/
theorem Chain.firstDue_eq_some {ch : Chain} (h : Table.wf Position.cold ch.positions = true) {p : Nat}
    (hp : (ch.position p).due = true) (hlow : ∀ k, k < p → (ch.position k).due = false) : ch.firstDue = some p := by
  have hrising := ((Table.wf_iff _ _).mp h).1
  have hmem : (p, ch.position p) ∈ ch.positions :=
    Table.mem_of_read (fun he => by rw [show ch.position p = Position.cold from he] at hp; cases hp)
  unfold Chain.firstDue
  cases hf : ch.positions.find? (fun e => e.2.due) with
  | none => exact absurd hp (List.find?_eq_none.mp hf _ hmem)
  | some e =>
    obtain ⟨he, hdue, hbefore⟩ := Table.find?_rising hrising hf
    have hread : ch.position e.1 = e.2 := Table.read_of_mem hrising he
    rcases Nat.lt_trichotomy e.1 p with hlt | heq | hgt
    · have := hlow e.1 hlt
      rw [hread, hdue] at this
      cases this
    · exact congrArg some heq
    · have := hbefore _ hmem hgt
      rw [hp] at this
      cases this

/-! ### After the last DISPLAY frame -/

/-- A chain goes from a round or a DISPLAY frame to the next DISPLAY frame, or to WAIT (R101, R108, R114). -/
def Chain.nextDisplay (ch : Chain) : Chain := if ch.firstDue.isNone then ch.enterWait else ch

/-- What `nextDisplay` leaves: its positions, and the activity that follows. -/
theorem Chain.nextDisplay_spec {ch : Chain} (h : Table.wf Position.cold ch.positions = true)
    (ha : ch.activity = .displaySend) :
    (∀ k, { ch.nextDisplay.position k with answered := false } = { ch.position k with answered := false }) ∧
    ch.nextDisplay.time = ch.time ∧
    ((∃ k, (ch.position k).due = true) → ch.nextDisplay.activity = .displaySend ∧ ch.nextDisplay.sent = ch.sent) ∧
    ((∀ k, (ch.position k).due = false) → ch.mustWait ch.time →
      ch.nextDisplay.activity = .wait ∧ ch.nextDisplay.sent = ch.sent) ∧
    ((∀ k, (ch.position k).due = false) → ¬ ch.mustWait ch.time →
      ch.nextDisplay.activity = .rollcall ∧ ch.nextDisplay.sent = [.rollcall ch.round] ∧
      ch.nextDisplay.round = ch.round + 1) := by
  by_cases hdue : ∀ k, (ch.position k).due = false
  · have hnone : ch.nextDisplay = ch.enterWait :=
      if_pos (Option.isNone_iff_eq_none.mpr ((Chain.firstDue_eq_none_iff h).mpr hdue))
    have hsome : ¬ ∃ k, (ch.position k).due = true := fun ⟨k, hk⟩ => by rw [hdue k] at hk; cases hk
    rw [hnone]
    by_cases hw : ch.mustWait ch.time
    · rw [Chain.enterWait_of_mustWait hw]
      exact ⟨fun _ => rfl, rfl, fun h => absurd h hsome, fun _ _ => ⟨rfl, rfl⟩, fun _ h => absurd hw h⟩
    · rw [Chain.enterWait_of_not_mustWait hw]
      refine ⟨fun k => ?_, rfl, fun h => absurd h hsome, fun _ h => absurd h hw, fun _ _ => ⟨rfl, rfl, rfl⟩⟩
      rw [Chain.position_beginRound h]
  · have hkeep : ch.nextDisplay = ch :=
      if_neg (fun he => hdue ((Chain.firstDue_eq_none_iff h).mp (Option.isNone_iff_eq_none.mp he)))
    rw [hkeep]
    exact ⟨fun _ => rfl, rfl, fun _ => ⟨ha, rfl⟩, fun h => absurd h hdue, fun h => absurd h hdue⟩

theorem Chain.enterDisplaySend_eq (ch : Chain) :
    ch.enterDisplaySend = { ch with activity := .displaySend, roundTimeoutAt := none }.nextDisplay := rfl

/-! ### The end of a round -/

theorem endRound_eq (s : State) (c : Nat) {t : State}
    (ht : t = (positionsTo (s.chain c).count).foldl (State.takeMiss c) s) :
    s.endRound c = t.setChain c { t.chain c with activity := .displaySend, roundTimeoutAt := none }.nextDisplay := by
  rw [ht]
  rfl

/-- R109, R111, R114: the end of a round. -/
theorem endRound_spec (s : State) (c : Nat) (hs : s.tablesOk) :
    (∀ k, { (s.endRound c).position c k with answered := false } =
      if 1 ≤ k ∧ k ≤ (s.chain c).count ∧ (s.position c k).unitId ≠ none ∧ (s.position c k).answered = false then
        { s.position c k with
          good := 0, miss := min ((s.position c k).miss + 1) 3, answered := false
          presence := if (s.position c k).presence = .linked ∧ 2 ≤ (s.position c k).miss then .lost
            else (s.position c k).presence }
      else { s.position c k with answered := false }) ∧
    ((s.endRound c).chain c).time = (s.chain c).time ∧
    ((∃ k, (s.position c k).due = true) → ((s.endRound c).chain c).activity = .displaySend) ∧
    ((∀ k, (s.position c k).due = false) → (s.chain c).mustWait (s.chain c).time →
      ((s.endRound c).chain c).activity = .wait) ∧
    ((∀ k, (s.position c k).due = false) → ¬ (s.chain c).mustWait (s.chain c).time →
      ((s.endRound c).chain c).activity = .rollcall ∧
      ((s.endRound c).chain c).sent = [.rollcall (s.chain c).round] ∧
      ((s.endRound c).chain c).round = (s.chain c).round + 1) ∧
    ((∀ k, (s.position c k).presence = .linked → (s.position c k).miss < 2 ∨ (s.position c k).answered = true) →
      sameBut [.chains] s (s.endRound c)) ∧
    sameOtherChains c s (s.endRound c) ∧
    sameBut ([.chains, .displayRevs, .displays] ++ noticeParts) s (s.endRound c) := by
  obtain ⟨t, ht⟩ : ∃ t, t = (positionsTo (s.chain c).count).foldl (State.takeMiss c) s := ⟨_, rfl⟩
  obtain ⟨hpos, hchain, hothers, hquiet, hframe⟩ := takeMisses_spec c (nodup_positionsTo (s.chain c).count) s
  have hok : t.tablesOk := by
    rw [ht]
    exact (Does.foldl (c := .quietTimer c) (does_takeMiss c) _ s).tablesOk hs
  rw [← ht] at hpos hchain hothers hquiet hframe
  rw [endRound_eq s c ht]
  obtain ⟨ch, hch⟩ : ∃ ch, ch = { t.chain c with activity := .displaySend, roundTimeoutAt := none } := ⟨_, rfl⟩
  have hwf : Table.wf Position.cold ch.positions = true := by
    rw [hch]
    exact (hok.chain c).1
  obtain ⟨hposition, htime, hsend, hwait, hround⟩ := Chain.nextDisplay_spec hwf (by rw [hch])
  have hown : ∀ k, ch.position k = t.position c k := fun k => by rw [hch]; rfl
  have hdue : ∀ k, (ch.position k).due = (s.position c k).due := by
    intro k
    rw [hown, hpos]
    split
    · exact roundEndPosition_due _
    · rfl
  have hchTime : ch.time = (s.chain c).time := by
    rw [hch]
    exact (congrArg Chain.time hchain :)
  have hchRound : ch.round = (s.chain c).round := by
    rw [hch]
    exact (congrArg Chain.round hchain :)
  have hmust : ch.mustWait ch.time ↔ (s.chain c).mustWait (s.chain c).time := by
    have hpending : ch.enumPending = (s.chain c).enumPending := by rw [hch]; exact (congrArg Chain.enumPending hchain :)
    have hcount : ch.count = (s.chain c).count := by rw [hch]; exact (congrArg Chain.count hchain :)
    have hnext : ch.nextRoundStart = (s.chain c).nextRoundStart := by rw [hch]; exact (congrArg Chain.nextRoundStart hchain :)
    unfold Chain.mustWait
    rw [hpending, hcount, hnext, hchTime]
  simp only [hdue, hmust, hchRound] at hsend hwait hround
  rw [← hch]
  have hset := setChain_sameBut t c ch.nextDisplay
  refine ⟨fun k => ?_, ?_, fun h => ?_, fun h hm => ?_, fun h hm => ?_, fun h => ?_, fun d hd => ?_,
    sameBut_trans hframe (sameBut_mono (by decide) hset)⟩
  · rw [State.position_setChain_same, hposition, hown, hpos]
    by_cases hin : k ∈ positionsTo (s.chain c).count
    · rw [if_pos hin]
      obtain ⟨h1, hn⟩ := mem_positionsTo.mp hin
      unfold roundEndPosition
      by_cases hskip : ((s.position c k).unitId.isNone || (s.position c k).answered) = true
      · rw [if_pos hskip, if_neg]
        rintro ⟨-, -, hu, ha⟩
        rcases Bool.or_eq_true_iff.mp hskip with hskip | hskip
        · exact hu (Option.isNone_iff_eq_none.mp hskip)
        · rw [ha] at hskip; cases hskip
      · rw [if_neg hskip, if_pos, missedPosition_eq]
        rw [Bool.or_eq_true_iff, not_or, Bool.not_eq_true, Bool.not_eq_true, Option.isNone_eq_false_iff,
          Option.isSome_iff_ne_none] at hskip
        exact ⟨h1, hn, hskip⟩
    · rw [if_neg hin, if_neg fun ⟨h1, hn, _⟩ => hin (mem_positionsTo.mpr ⟨h1, hn⟩)]
  · rw [State.chain_setChain_same, htime, hchTime]
  · rw [State.chain_setChain_same]
    exact (hsend h).1
  · rw [State.chain_setChain_same]
    exact (hwait h hm).1
  · rw [State.chain_setChain_same]
    exact hround h hm
  · exact sameBut_trans (hquiet fun k _ => roundEndPosition_presence (h k)) hset
  · exact (setChain_sameOtherChains t c _ d hd).trans (hothers d hd)

/-! ### A DISPLAY frame -/

/-- The chain once the display of position `p` has been sent, its next step apart. -/
def Chain.displaySent (ch : Chain) (p : Nat) : Chain :=
  { ch.setPosition p { ch.position p with due := false } with sent := [] }

theorem Chain.position_displaySent (ch : Chain) (p k : Nat) : (ch.displaySent p).position k =
    if k = p then { ch.position p with due := false } else ch.position k := Table.read_write _ _ _ _ _

theorem sendDisplay_of_due {s : State} {c p : Nat} (ha : (s.chain c).activity = .displaySend)
    (hp : (s.chain c).firstDue = some p) : s.sendDisplay c = s.setChain c
      { ((s.chain c).displaySent p).nextDisplay with
        sent := s.displayFrame c p :: ((s.chain c).displaySent p).nextDisplay.sent } := by
  unfold State.sendDisplay
  dsimp only
  rw [ha, hp] <;> rfl

/-- R114, R126: the DISPLAY frame of the lowest due position, and what follows it. -/
theorem sendDisplay_spec {s : State} {c p : Nat} (hs : s.tablesOk) (ha : (s.chain c).activity = .displaySend)
    (hp : (s.position c p).due = true) (hlow : ∀ k, k < p → (s.position c k).due = false) :
    ((s.sendDisplay c).position c p).due = false ∧
    (∀ k, k ≠ p → { (s.sendDisplay c).position c k with answered := false } =
      { s.position c k with answered := false }) ∧
    ((∃ k, k ≠ p ∧ (s.position c k).due = true) → ((s.sendDisplay c).chain c).activity = .displaySend) ∧
    ((∀ k, k ≠ p → (s.position c k).due = false) → (s.chain c).mustWait (s.chain c).time →
      ((s.sendDisplay c).chain c).activity = .wait) ∧
    ((∀ k, k ≠ p → (s.position c k).due = false) → ¬ (s.chain c).mustWait (s.chain c).time →
      ((s.sendDisplay c).chain c).activity = .rollcall) ∧
    ((s.sendDisplay c).chain c).sent = s.displayFrame c p ::
      (if ((s.sendDisplay c).chain c).activity = .rollcall then [.rollcall (s.chain c).round] else []) ∧
    sameOtherChains c s (s.sendDisplay c) ∧ sameBut [.chains] s (s.sendDisplay c) := by
  have hwf := (hs.chain c).1
  rw [sendDisplay_of_due ha (Chain.firstDue_eq_some hwf hp hlow)]
  obtain ⟨ch, hch⟩ : ∃ ch, ch = (s.chain c).displaySent p := ⟨_, rfl⟩
  have hpos : ∀ k, ch.position k = if k = p then { s.position c p with due := false } else s.position c k := by
    rw [hch]
    exact Chain.position_displaySent _ p
  have hchwf : Table.wf Position.cold ch.positions = true := by
    rw [hch]
    exact Table.wf_write _ _ hwf
  have hact : ch.activity = .displaySend := by rw [hch]; exact ha
  have htime : ch.time = (s.chain c).time := by rw [hch]; rfl
  have hmust : ch.mustWait ch.time ↔ (s.chain c).mustWait (s.chain c).time := by rw [hch]; exact Iff.rfl
  have hsent : ch.sent = [] := by rw [hch]; rfl
  have hrnd : ch.round = (s.chain c).round := by rw [hch]; rfl
  obtain ⟨hposition, -, hsend, hwait, hround⟩ := Chain.nextDisplay_spec hchwf hact
  rw [hmust, hsent] at hwait
  rw [hmust, hrnd] at hround
  rw [hsent] at hsend
  have hnone : (∀ k, k ≠ p → (s.position c k).due = false) → ∀ k, (ch.position k).due = false := by
    intro h k
    rw [hpos k]
    split
    · rfl
    next hk => exact h k hk
  have hsome : (∃ k, k ≠ p ∧ (s.position c k).due = true) → ∃ k, (ch.position k).due = true := by
    rintro ⟨k, hk, hd⟩
    refine ⟨k, ?_⟩
    rw [hpos k, if_neg hk]
    exact hd
  rw [← hch]
  refine ⟨?_, fun k hk => ?_, fun h => ?_, fun h hm => ?_, fun h hm => ?_, ?_, setChain_sameOtherChains s c _,
    setChain_sameBut s c _⟩
  · rw [State.position_setChain_same]
    have hdue : (ch.nextDisplay.position p).due = (ch.position p).due :=
      (congrArg Position.due (hposition p) :)
    refine hdue.trans ?_
    rw [hpos p, if_pos rfl]
  · rw [State.position_setChain_same]
    refine (hposition k).trans ?_
    rw [hpos k, if_neg hk]
  · rw [State.chain_setChain_same]
    exact (hsend (hsome h)).1
  · rw [State.chain_setChain_same]
    exact (hwait (hnone h) hm).1
  · rw [State.chain_setChain_same]
    exact (hround (hnone h) hm).1
  · rw [State.chain_setChain_same]
    dsimp only
    refine congrArg _ ?_
    by_cases hd : ∃ k, (ch.position k).due = true
    · obtain ⟨hact', hsent'⟩ := hsend hd
      rw [hact', if_neg (by decide), hsent']
    · have hd' : ∀ k, (ch.position k).due = false := fun k => Bool.eq_false_iff.mpr fun hk => hd ⟨k, hk⟩
      by_cases hm : (s.chain c).mustWait (s.chain c).time
      · obtain ⟨hact', hsent'⟩ := hwait hd' hm
        rw [hact', if_neg (by decide), hsent']
      · obtain ⟨hact', hsent', -⟩ := hround hd' hm
        rw [hact', if_pos rfl, hsent']

theorem position_passTime (s : State) (c elapsed k : Nat) :
    (s.setChain c ((s.chain c).passTime elapsed)).position c k = s.position c k := State.position_setChain_same s c _ k

theorem displayFrame_passTime (s : State) (c elapsed p : Nat) :
    (s.setChain c ((s.chain c).passTime elapsed)).displayFrame c p = s.displayFrame c p := rfl

theorem exec_displayFrameSent {s : State} {c elapsed p : Nat} (hc : c < 4) (hs : s.tablesOk)
    (ha : (s.chain c).activity = .displaySend) (hp : (s.position c p).due = true)
    (hlow : ∀ k, k < p → (s.position c k).due = false) :
    ∃ u, exec (.displayFrameSent c elapsed) s = .next u ∧ (u.position c p).due = false ∧
      (∀ k, k ≠ p → { u.position c k with answered := false } = { s.position c k with answered := false }) ∧
      ((∃ k, k ≠ p ∧ (s.position c k).due = true) → (u.chain c).activity = .displaySend) ∧
      ((∀ k, k ≠ p → (s.position c k).due = false) → (s.chain c).mustWait ((s.chain c).time + elapsed) →
        (u.chain c).activity = .wait) ∧
      ((∀ k, k ≠ p → (s.position c k).due = false) → ¬ (s.chain c).mustWait ((s.chain c).time + elapsed) →
        (u.chain c).activity = .rollcall) ∧
      (u.chain c).sent = s.displayFrame c p ::
        (if (u.chain c).activity = .rollcall then [.rollcall (s.chain c).round] else []) ∧
      sameOtherChains c s u ∧ sameBut [.chains] s u := by
  obtain ⟨t, ht⟩ : ∃ t, t = s.setChain c ((s.chain c).passTime elapsed) := ⟨_, rfl⟩
  have hchain : t.chain c = (s.chain c).passTime elapsed := by rw [ht, State.chain_setChain_same]
  have hpos : ∀ k, t.position c k = s.position c k := fun k => by rw [ht]; exact position_passTime s c elapsed k
  have hok : t.tablesOk := by
    rw [ht]
    exact (does_setChain (c := .quietTimer c) s c (v := (s.chain c).passTime elapsed) ⟨id, id⟩).tablesOk hs
  have hframe : t.displayFrame c p = s.displayFrame c p := by rw [ht]; exact displayFrame_passTime s c elapsed p
  have hspec := sendDisplay_spec (s := t) (c := c) (p := p) hok (by rw [hchain]; exact ha) (by rw [hpos]; exact hp)
    (fun k hk => by rw [hpos]; exact hlow k hk)
  simp only [hpos, hframe, hchain] at hspec
  obtain ⟨hdue, hothers, hsend, hwait, hround, hsent, hchains, hsame⟩ := hspec
  refine ⟨t.sendDisplay c, (exec_onChain hc s _).trans (by rw [ht]), hdue, hothers, hsend, hwait, hround, hsent,
    fun d hd => (hchains d hd).trans ?_, sameBut_trans ?_ hsame⟩
  · rw [ht]
    exact setChain_sameOtherChains s c _ d hd
  · rw [ht]
    exact setChain_sameBut s c _

/-! ### The bytes of a downstream frame -/

theorem currentItemBytes_length (x : Option CurrentItem) : (currentItemBytes x).length = 8 := by
  cases x <;> rfl

theorem nextItemBytes_length (x : Option NextItem) : (nextItemBytes x).length = 5 := by
  cases x <;> rfl

theorem DownFrame.payload_display_length (a : Nat) (n : BitVec 8) (x : Content) :
    (DownFrame.payload (.display a n x)).length = 17 := by
  show (_ ++ currentItemBytes x.current ++ nextItemBytes x.next ++ _).length = 17
  simp only [List.length_append, currentItemBytes_length, nextItemBytes_length, List.length_cons, List.length_nil]

/-- 6.2, R126: a downstream frame's bytes. -/
theorem DownFrame.bytes_eq (f : DownFrame) (head : List Byte) (hhead : head = (match f with
      | .enumerate _ => [Config.downHeader .enumerate, 0, 1]
      | .rollcall _ => [Config.downHeader .rollcall, 0, 1]
      | .display a _ _ => [Config.downHeader .display, BitVec.ofNat 8 a, 17])) :
    DownFrame.bytes f = (head ++ DownFrame.payload f) ++ [(crc16 (head ++ DownFrame.payload f)).extractLsb' 8 8,
      (crc16 (head ++ DownFrame.payload f)).extractLsb' 0 8] := by
  have hbody : DownFrame.body f = head ++ DownFrame.payload f := by
    rw [hhead]
    cases f with
    | enumerate a => rfl
    | rollcall n => rfl
    | display a n x =>
      unfold DownFrame.body
      rw [DownFrame.payload_display_length]
      rfl
  unfold DownFrame.bytes
  rw [hbody]
  rfl

/-- Settles O44: a reply by its four steps at one position, the round by the misses of its positions, and the DISPLAY
frames by the lowest due position. -/
theorem roundsAndReplies : Obligations.RoundsAndReplies := by
  unfold Obligations.RoundsAndReplies
  refine ⟨?_, ?_, ?_, ?_, ?_, ?_, ?_⟩
  · intro c t s hc hs hw hp hn
    refine ⟨fun h0 => ?_, fun h0 => ?_⟩
    · refine ⟨_, (exec_onChain hc s _).trans (congrArg _ (roundStart_of_empty hw hp hn h0)), ?_,
        setChain_sameOtherChains s c _, setChain_sameBut s c _⟩
      rw [State.chain_setChain_same]
      rfl
    · refine ⟨_, (exec_onChain hc s _).trans (congrArg _ (roundStart_of_panels hw hp hn h0)), ?_, fun k => ?_,
        setChain_sameOtherChains s c _, setChain_sameBut s c _⟩
      · rw [State.chain_setChain_same]
        rfl
      · rw [State.position_setChain_same]
        exact Chain.position_beginRound (hs.chain c).1 k
  · intro c elapsed p f seq shown s h hp
    exact ⟨exec_upstreamFrame_rollReply h hp, exec_upstreamFrame_gapReply h hp⟩
  · intro c t s hc ha ht
    exact (exec_onChain hc s _).trans (congrArg _ (roundTimeout_of_rollcall ha ht))
  · intro c s _ hs
    exact endRound_spec s c hs
  · intro c elapsed p s hc hs ha hp hlow
    exact exec_displayFrameSent hc hs ha hp hlow
  · intro c s ha
    refine congrArg Host.Outcome.next ?_
    unfold State.onChain
    rw [roundTimeout_of_not_rollcall ha]
    exact ite_self s
  · intro f head body payload hpayload hhead hbody
    have hpl : payload = DownFrame.payload f := by
      rw [hpayload]
      cases f with
      | enumerate a => rfl
      | rollcall n => rfl
      | display a n x => rfl
    rw [hbody, hpl]
    exact DownFrame.bytes_eq f head hhead

end Sys2Proof.Machine
end

section
/-! SUPPORT. The promotion scan: the first placement that fits, and what a promotion leaves (O39). -/

namespace Sys2Proof.Machine

/-! ### The first placement that fits -/

/-- The first pair found, the rooms in their order and the starts of each ascending. -/
theorem find?_placements (f : Nat × Nat → Bool) (first n : Nat) (rooms : List Nat) (room start : Nat) :
    (rooms.flatMap (fun r => (List.range n).map (fun k => (r, first + k)))).find? f = some (room, start) ↔
    ∃ (j k : Nat), rooms[j]? = some room ∧ k < n ∧ start = first + k ∧ f (room, start) = true ∧
      (∀ k', k' < k → f (room, first + k') ≠ true) ∧
      ∀ (j' r k' : Nat), j' < j → rooms[j']? = some r → k' < n → f (r, first + k') ≠ true := by
  induction rooms with
  | nil => simp
  | cons r rooms ih =>
    rw [List.flatMap_cons, List.find?_append, List.find?_map]
    constructor
    · intro h
      cases hr : (List.range n).find? (f ∘ fun k => (r, first + k)) with
      | some k =>
        rw [hr] at h
        obtain ⟨hf, hk, hmin⟩ := List.find?_range_eq_some.mp hr
        obtain ⟨rfl, rfl⟩ := Prod.mk.inj (Option.some.inj h)
        refine ⟨0, k, rfl, List.mem_range.mp hk, rfl, hf, fun k' hk' => ?_, fun j' _ _ hj' => absurd hj' (Nat.not_lt_zero _)⟩
        have hnot := hmin k' hk'
        simpa using hnot
      | none =>
        rw [hr] at h
        obtain ⟨j, k, hj, hk, hs, hf, hmin, hbefore⟩ := ih.mp h
        have hnone := List.find?_range_eq_none.mp hr
        refine ⟨j + 1, k, hj, hk, hs, hf, hmin, fun j' r' k' hj' hr' hk' => ?_⟩
        cases j' with
        | zero =>
          rw [← Option.some.inj hr']
          have hnot := hnone k' hk'
          simpa using hnot
        | succ j' => exact hbefore j' r' k' (Nat.lt_of_succ_lt_succ hj') hr' hk'
    · rintro ⟨j, k, hj, hk, rfl, hf, hmin, hbefore⟩
      cases j with
      | zero =>
        obtain rfl := Option.some.inj hj
        have hr : (List.range n).find? (f ∘ fun k => (r, first + k)) = some k :=
          List.find?_range_eq_some.mpr ⟨hf, List.mem_range.mpr hk, fun k' hk' => by
            have hnot := hmin k' hk'
            simpa using hnot⟩
        rw [hr]
        rfl
      | succ j =>
        have hr : (List.range n).find? (f ∘ fun k => (r, first + k)) = none :=
          List.find?_range_eq_none.mpr fun k' hk' => by
            have hnot := hbefore 0 r k' (Nat.succ_pos j) rfl hk'
            simpa using hnot
        rw [hr]
        exact ih.mpr ⟨j, k, hj, hk, rfl, hf, hmin, fun j' r' k' hj' => hbefore (j' + 1) r' k' (Nat.succ_lt_succ hj')⟩

theorem State.placement_eq_some_iff (s : State) (e : WaitEntry) (room start : Nat) :
    s.placement e = some (room, start) ↔
    ∃ (j k : Nat), e.rooms[j]? = some room ∧ k ≤ e.flex ∧ start = e.earliest + k ∧ placementFits s e room start ∧
      (∀ k' : Nat, k' < k → ¬ placementFits s e room (e.earliest + k')) ∧
      ∀ (j' r k' : Nat), j' < j → e.rooms[j']? = some r → k' ≤ e.flex → ¬ placementFits s e r (e.earliest + k') := by
  unfold State.placement
  rw [find?_placements]
  simp only [ne_eq, State.fits_eq_true, Nat.lt_succ_iff]

/-! ### The branches of a scan -/

theorem scan_of_free {s : State} {w : Nat} (h : s.waitEntry? w = none) (l : List Nat) : s.scan (w :: l) = s.scan l := by
  rw [State.scan, h]

theorem scan_of_passed {s : State} {w : Nat} {e : WaitEntry} (h : s.waitEntry? w = some e)
    (hpass : (s.port e.requester).roles.sched = false ∨ s.placement e = none) (l : List Nat) :
    s.scan (w :: l) = s.scan l := by
  rw [State.scan, h]
  dsimp only
  by_cases hrole : (!s.holds e.requester .sched) = true
  · exact if_pos hrole
  · rw [if_neg hrole]
    rcases hpass with hp | hp
    · exact absurd (congrArg not hp) hrole
    · rw [hp]

theorem scan_of_placed {s : State} {w : Nat} {e : WaitEntry} {room start : Nat} (h : s.waitEntry? w = some e)
    (hrole : (s.port e.requester).roles.sched = true) (hp : s.placement e = some (room, start)) (l : List Nat) :
    s.scan (w :: l) = match Pool.lowestFree s.book.pool Config.bookCap with
      | none => s
      | some i => (s.promote w e room start i).scan l := by
  have hholds : ¬ (!s.holds e.requester .sched) = true := by
    have hsched : s.holds e.requester .sched = true := hrole
    rw [hsched]
    decide
  rw [State.scan, h]
  dsimp only
  rw [if_neg hholds, hp] <;> rfl

theorem scan_of_full {s : State} {w : Nat} {e : WaitEntry} {room start : Nat} (h : s.waitEntry? w = some e)
    (hrole : (s.port e.requester).roles.sched = true) (hp : s.placement e = some (room, start))
    (hfull : ∀ i, i < 2048 → s.rec? i ≠ none) (l : List Nat) : s.scan (w :: l) = s := by
  rw [scan_of_placed h hrole hp, (Pool.lowestFree_eq_none (cap := Config.bookCap)).mpr hfull]

theorem scan_of_promote {s : State} {w : Nat} {e : WaitEntry} {room start i : Nat} (h : s.waitEntry? w = some e)
    (hrole : (s.port e.requester).roles.sched = true) (hp : s.placement e = some (room, start))
    (hfree : isLowestFree s.book.pool 2048 i) (l : List Nat) :
    s.scan (w :: l) = (s.promote w e room start i).scan l := by
  rw [scan_of_placed h hrole hp, (Pool.lowestFree_iff s.book.pool Config.bookCap i).mpr hfree]

/-! ### The creation of an order -/

theorem orderHandle_changeOrder (s : State) (j i : Nat) (o : Order) :
    Pool.handle (s.changeOrder j o).plan.orders i = Pool.handle s.plan.orders i := by
  unfold Pool.handle
  rw [entry_changeOrder]
  split
  next h => rw [h]
  next => rfl

theorem loadEntry_of_sameBut {l : List Part} {s t : State} (h : sameBut l s t) (hl : Part.load ∉ l) (k g : Nat) :
    t.loadEntry k g = s.loadEntry k g := by
  have hload : t.plan.load = s.plan.load := h .load hl
  unfold State.loadEntry
  rw [hload]

/-- An order created in an entry, with its load (R145, R157). -/
theorem createOrder_spec (s : State) (j : Nat) (p : Port) (b : Handle) (q : CaterRequest) (m : Admission) :
    OrderChanged s (s.createOrder j p b q m) j (newOrder p b q m) ∧
    (∀ i, Pool.handle (s.createOrder j p b q m).plan.orders i = Pool.handle s.plan.orders i) ∧
    loadAdded s (s.createOrder j p b q m) (newOrder p b q m) := by
  have hcommit := commitShares_sameBut s m.kitchen (sharesOf m.load m.lead m.last)
  have horders : (s.commitShares m.kitchen (sharesOf m.load m.lead m.last)).plan.orders = s.plan.orders :=
    orders_of_sameBut hcommit (by decide)
  obtain ⟨horder, hothers, hrev⟩ := orderChanged_changeOrder
    (s.commitShares m.kitchen (sharesOf m.load m.lead m.last)) j (newOrder p b q m)
  have hrev0 := rev_of_sameBut hcommit (by decide)
  rw [hrev0] at horder hrev
  refine ⟨⟨horder, fun i hi => ?_, hrev⟩, fun i => ?_, fun k g hg => ?_⟩
  · rw [← horders]
    exact hothers i hi
  · rw [← horders]
    exact orderHandle_changeOrder _ _ _ _
  · exact loadEntry_commitShares (sharesOf m.load m.lead m.last) s m.kitchen (k' := k) hg

/-! ### What a promotion leaves -/

/-- The state of a promotion once the booking is created and the entry freed (R72). -/
def State.promoteEntry (s : State) (w i : Nat) (r : Rec) : State :=
  (s.changeRec i r).freeEntry w (.promoted (s.recHandle i))

theorem promoteEntry_sameBut (s : State) (w i : Nat) (r : Rec) :
    sameBut [.records, .revision, .waitlist] s (s.promoteEntry w i r) :=
  sameBut_trans (sameBut_mono (by decide) (changeRec_sameBut s i r))
    (sameBut_mono (by decide) (freeEntry_sameBut _ w _))

theorem promotedEntry_of_sameBut {l : List Part} {s t u : State} {w i : Nat} (h : promotedEntry s t w i)
    (k : sameBut l t u) (hl : ∀ x ∈ [Part.records, .waitlist], x ∉ l) : promotedEntry s u w i := by
  have hwait : u.wait = t.wait := k .waitlist (hl _ (by decide))
  have hpool := pool_of_sameBut k (hl _ (by decide))
  unfold promotedEntry sameOtherEntries sameOtherRecords State.recHandle at *
  rw [hwait, hpool]
  exact h

/-- A promotion's booking and entry, before its order, its notices and the room that follows (R72). -/
theorem promoteEntry_spec (s : State) (w i : Nat) (r : Rec) :
    (s.promoteEntry w i r).rec? i = some { r with rev := satAdd 4294967295 s.book.rev 1 } ∧
    promotedEntry s (s.promoteEntry w i r) w i ∧ (s.promoteEntry w i r).book.rev = satAdd 4294967295 s.book.rev 1 := by
  have hfree := freeEntry_sameBut (s.changeRec i r) w (.promoted (s.recHandle i))
  have hwait : (s.changeRec i r).wait = s.wait := changeRec_sameBut s i r .waitlist (by decide)
  have hpool := pool_of_sameBut hfree (by decide)
  obtain ⟨hentry, hothers, horder, hfate, -⟩ := freeEntry_spec (s.changeRec i r) w (.promoted (s.recHandle i))
  unfold sameOtherEntries at hothers
  rw [hwait] at hentry hothers horder hfate
  refine ⟨?_, ⟨hentry, hothers, horder, hfate, ?_, fun j hj => ?_⟩, rfl⟩
  · unfold State.rec? State.promoteEntry
    rw [hpool]
    exact (rec?_changeRec s i i r).trans (if_pos rfl)
  · unfold State.recHandle State.promoteEntry
    rw [hpool]
    exact recHandle_changeRec s i i r
  · unfold State.promoteEntry
    rw [hpool]
    exact changeRec_sameOtherRecords s i r j hj

/-- A promotion ends with its room following; what comes between keeps the booking and the waitlist (R72, R123). -/
theorem promoted_roomChanged {l : List Part} {s u : State} {w i room : Nat} {r : Rec}
    (hu : sameBut l (s.promoteEntry w i r) u)
    (hl : l ⊆ [.revision, .orders, .load] ++ noticeParts) :
    (u.roomChanged room).rec? i = some { r with rev := satAdd 4294967295 s.book.rev 1 } ∧
    promotedEntry s (u.roomChanged room) w i ∧ (u.roomChanged room).book.rev = u.book.rev ∧
    roomFollows s (u.roomChanged room) room ∧ (u.roomChanged room).ports = u.ports ∧
    sameBut ([.records, .revision, .waitlist] ++ l ++ displayParts) s (u.roomChanged room) := by
  obtain ⟨hrec, hentry, -⟩ := promoteEntry_spec s w i r
  have hroom := roomChanged_sameBut u room
  have hfrom : sameBut ([.records, .revision, .waitlist] ++ l) s u :=
    sameBut_trans (sameBut_mono (List.subset_append_left _ _) (promoteEntry_sameBut s w i r))
      (sameBut_mono (List.subset_append_right _ _) hu)
  refine ⟨?_, ?_, rev_of_sameBut hroom (by decide), roomFollows_roomChanged room hfrom fun x hx => ?_,
    roomChanged_ports u room, sameBut_trans (sameBut_mono (List.subset_append_left _ _) hfrom)
      (sameBut_mono (List.subset_append_right _ _) hroom)⟩
  · rw [rec?_of_sameBut hroom (by decide), rec?_of_sameBut hu (not_mem_of_subset hl (by decide))]
    exact hrec
  · refine promotedEntry_of_sameBut (promotedEntry_of_sameBut hentry hu fun x hx => ?_) hroom (by decide)
    exact not_mem_of_subset hl (by revert x; decide)
  · exact not_mem_of_subset (m := [.records, .revision, .waitlist] ++ ([.revision, .orders, .load] ++ noticeParts))
      (List.append_subset.mpr ⟨by simp, fun y hy => List.mem_append_right _ (hl hy)⟩) (by revert x; decide)

theorem promote_plain {s : State} {w i room start : Nat} {e : WaitEntry} (hc : e.cater = none) :
    s.promote w e room start i = (((s.promoteEntry w i (promotedRec s e room start none false)).raise
      (promotedNotice (s.recHandle i) (Pool.handle s.wait.pool w) e none (satAdd 4294967295 s.book.rev 1))).roomChanged
        room) := by
  unfold State.promote State.promotionAdmission
  rw [hc]
  rfl

theorem promote_lost {s : State} {w i room start : Nat} {e : WaitEntry} {q : CaterRequest} {f : AdmissionFailure}
    (hc : e.cater = some q) (ha : s.admission true room (slotMinute e.plane start) q = .error f) :
    s.promote w e room start i = ((((s.promoteEntry w i (promotedRec s e room start none true)).raise
      (promotedNotice (s.recHandle i) (Pool.handle s.wait.pool w) e none (satAdd 4294967295 s.book.rev 1))).raise
        (promotionLostNotice (s.recHandle i) e f)).roomChanged room) := by
  unfold State.promote State.promotionAdmission
  rw [hc]
  dsimp only [Option.map_some]
  rw [ha] <;> rfl

theorem promote_ordered {s : State} {w i j room start : Nat} {e : WaitEntry} {q : CaterRequest} {m : Admission}
    (hc : e.cater = some q) (ha : s.admission true room (slotMinute e.plane start) q = .ok m)
    (hj : Pool.lowestFree s.plan.orders Config.orderCap = some j) :
    s.promote w e room start i =
      ((((s.promoteEntry w i (promotedRec s e room start (some (Pool.handle s.plan.orders j)) false)).createOrder j
        e.requester (s.recHandle i) q m).raise (promotedNotice (s.recHandle i) (Pool.handle s.wait.pool w) e
          (some (Pool.handle s.plan.orders j)) (satAdd 4294967295 s.book.rev 1))).roomChanged room) := by
  unfold State.promote State.promotionAdmission
  rw [hc]
  dsimp only [Option.map_some]
  rw [ha]
  dsimp only
  rw [hj] <;> rfl

/-- R72: a promotion without catering. -/
theorem promote_plain_spec (s : State) (w i room start : Nat) {e : WaitEntry} (hc : e.cater = none) :
    (s.promote w e room start i).rec? i = some (promotedBooking s e room start none false) ∧
    promotedEntry s (s.promote w e room start i) w i ∧
    (s.promote w e room start i).book.rev = satAdd 4294967295 s.book.rev 1 ∧
    roomFollows s (s.promote w e room start i) room ∧
    (s.promote w e room start i).ports = s.portsAfter (satAdd 4294967295 s.book.rev 1)
      { kind := .promoted, subject := .booking (s.recHandle i), owner := some e.requester, tag := some e.tag
        data := [.wait (Pool.handle s.wait.pool w)], rev := some (satAdd 4294967295 s.book.rev 1) } ∧
    sameBut ([.records, .revision, .waitlist] ++ displayParts ++ noticeParts) s (s.promote w e room start i) := by
  rw [promote_plain hc]
  obtain ⟨hrec, hentry, hrev, hroom, hports, hframe⟩ := promoted_roomChanged (room := room)
    (raise_sameBut (s.promoteEntry w i (promotedRec s e room start none false)) (promotedNotice (s.recHandle i)
      (Pool.handle s.wait.pool w) e none (satAdd 4294967295 s.book.rev 1))) (by decide)
  refine ⟨hrec, hentry, hrev.trans (rev_of_sameBut (raise_sameBut _ _) (by decide)), hroom, hports.trans ?_,
    sameBut_mono (by decide) hframe⟩
  exact ports_raise (s := s) (t := s.promoteEntry w i (promotedRec s e room start none false)) rfl rfl rfl rfl _

/-- R73: a promotion whose catering request is not admitted. -/
theorem promote_lost_spec (s : State) (w i room start : Nat) {e : WaitEntry} {q : CaterRequest} {f : AdmissionFailure}
    (hc : e.cater = some q) (ha : s.admission true room (slotMinute e.plane start) q = .error f) :
    (s.promote w e room start i).rec? i = some (promotedBooking s e room start none true) ∧
    promotedEntry s (s.promote w e room start i) w i ∧
    (s.promote w e room start i).book.rev = satAdd 4294967295 s.book.rev 1 ∧
    roomFollows s (s.promote w e room start i) room ∧
    sameBut ([.records, .revision, .waitlist] ++ displayParts ++ noticeParts) s (s.promote w e room start i) := by
  rw [promote_lost hc ha]
  have hraised := sameBut_trans (raise_sameBut (s.promoteEntry w i (promotedRec s e room start none true))
    (promotedNotice (s.recHandle i) (Pool.handle s.wait.pool w) e none (satAdd 4294967295 s.book.rev 1)))
    (raise_sameBut _ (promotionLostNotice (s.recHandle i) e f))
  obtain ⟨hrec, hentry, hrev, hroom, -, hframe⟩ := promoted_roomChanged (room := room) hraised (by decide)
  exact ⟨hrec, hentry, hrev.trans (rev_of_sameBut hraised (by decide)), hroom, sameBut_mono (by decide) hframe⟩

/-- R73: a promotion whose catering request is admitted. -/
theorem promote_ordered_spec (s : State) (w i j room start : Nat) {e : WaitEntry} {q : CaterRequest} {m : Admission}
    (hc : e.cater = some q) (ha : s.admission true room (slotMinute e.plane start) q = .ok m)
    (hj : isLowestFree s.plan.orders 512 j) :
    (s.promote w e room start i).rec? i =
      some (promotedBooking s e room start (some (Pool.handle s.plan.orders j)) false) ∧
    promotedEntry s (s.promote w e room start i) w i ∧
    (s.promote w e room start i).order? j =
      some { newOrder e.requester (s.recHandle i) q m with rev := satAdd 4294967295 s.book.rev 2 } ∧
    Pool.handle (s.promote w e room start i).plan.orders j = Pool.handle s.plan.orders j ∧
    sameOtherOrders j s (s.promote w e room start i) ∧
    loadAdded s (s.promote w e room start i) (newOrder e.requester (s.recHandle i) q m) ∧
    (s.promote w e room start i).book.rev = satAdd 4294967295 s.book.rev 2 ∧
    roomFollows s (s.promote w e room start i) room ∧
    (s.promote w e room start i).ports = s.portsAfter (satAdd 4294967295 s.book.rev 2)
      { kind := .promoted, subject := .booking (s.recHandle i), owner := some e.requester, tag := some e.tag
        data := [.wait (Pool.handle s.wait.pool w), .order (Pool.handle s.plan.orders j)]
        rev := some (satAdd 4294967295 s.book.rev 1) } ∧
    sameBut ([.records, .revision, .waitlist, .orders, .load] ++ displayParts ++ noticeParts) s
      (s.promote w e room start i) := by
  rw [promote_ordered hc ha ((Pool.lowestFree_iff s.plan.orders Config.orderCap j).mpr hj)]
  obtain ⟨t, ht⟩ : ∃ t, t = s.promoteEntry w i (promotedRec s e room start (some (Pool.handle s.plan.orders j)) false) :=
    ⟨_, rfl⟩
  have hst : sameBut [.records, .revision, .waitlist] s t := by rw [ht]; exact promoteEntry_sameBut _ _ _ _
  have hrevt : t.book.rev = satAdd 4294967295 s.book.rev 1 := by rw [ht]; rfl
  rw [← ht]
  obtain ⟨hchanged, hhandle, hload⟩ := createOrder_spec t j e.requester (s.recHandle i) q m
  obtain ⟨notice, hnotice⟩ : ∃ notice, notice = promotedNotice (s.recHandle i) (Pool.handle s.wait.pool w) e
    (some (Pool.handle s.plan.orders j)) (satAdd 4294967295 s.book.rev 1) := ⟨_, rfl⟩
  rw [← hnotice]
  have hcreate := createOrder_sameBut t j e.requester (s.recHandle i) q m
  have hraise := raise_sameBut (t.createOrder j e.requester (s.recHandle i) q m) notice
  have hroomSame := roomChanged_sameBut ((t.createOrder j e.requester (s.recHandle i) q m).raise notice) room
  have hafter := sameBut_trans (sameBut_mono (m := noticeParts ++ displayParts) (by decide) hraise)
    (sameBut_mono (by decide) hroomSame)
  have hall := sameBut_trans (sameBut_mono (m := [.orders, .revision, .load] ++ noticeParts) (by decide) hcreate)
    (sameBut_mono (by decide) hraise)
  rw [ht] at hall
  obtain ⟨hrec, hentry, hrev, hroom, hports, hframe⟩ := promoted_roomChanged (room := room) hall (by decide)
  rw [← ht] at hrec hentry hrev hroom hports hframe
  obtain ⟨horder, hothers, hrev'⟩ := hchanged.after hafter (by decide)
  have hrev2 : satAdd 4294967295 t.book.rev 1 = satAdd 4294967295 s.book.rev 2 := by rw [hrevt, satAdd_satAdd]
  have horders := orders_of_sameBut hst (by decide)
  refine ⟨hrec, hentry, ?_, ?_, fun k hk => (hothers k hk).trans (by rw [horders]), fun k g hg => ?_,
    hrev'.trans hrev2, hroom, hports.trans ?_, sameBut_mono (by decide) hframe⟩
  · rw [horder, hrev2]
  · rw [orders_of_sameBut hafter (by decide), hhandle, horders]
  · rw [loadEntry_of_sameBut hafter (by decide), hload k g hg, loadEntry_of_sameBut hst (by decide)]
  · have hroutes : (t.createOrder j e.requester (s.recHandle i) q m).routes = s.routes :=
      (hcreate .routes (by decide)).trans (hst .routes (by decide))
    have hclock : (t.createOrder j e.requester (s.recHandle i) q m).clock = s.clock := by
      rw [clock_of_sameBut hcreate (by decide), clock_of_sameBut hst (by decide)]
    rw [ports_raise (s := s) hroutes hclock (hchanged.rev.trans hrev2) (by rw [ht]; exact addFold_ports _ _ _) notice, hnotice]
    rfl

/-- Settles O39: a scan by the branches of its first entry, and a promotion by its record, its entry, its order and its
room. -/
theorem promotionTakesFirstFit : Obligations.PromotionTakesFirstFit := by
  unfold Obligations.PromotionTakesFirstFit
  refine ⟨fun s => ⟨rfl, rfl⟩, State.placement_eq_some_iff, fun s w l h => scan_of_free h l,
    fun s w l e h hpass => scan_of_passed h hpass l, fun s w l e room start h hrole hp => ⟨fun hfull =>
      scan_of_full h hrole hp hfull l, fun i hfree => ?_⟩⟩
  have hscan := scan_of_promote h hrole hp hfree l
  refine ⟨fun hc => ?_, fun q f hc ha => ?_, fun q m j o hc ha hj ho => ?_⟩
  · obtain ⟨hrec, hentry, hrev, hroom, hports, hframe⟩ := promote_plain_spec s w i room start hc
    exact ⟨_, hscan, hrec, hentry, hrev, hroom, hports, hframe⟩
  · exact ⟨_, hscan, promote_lost_spec s w i room start hc ha⟩
  · subst ho
    exact ⟨_, hscan, promote_ordered_spec s w i j room start hc ha hj⟩

end Sys2Proof.Machine
end

section
/-! SUPPORT. Enumerations (O43): the unit ids noted, the rebuild, and the locations of the rooms that follow it. -/

namespace Sys2Proof.Machine

/-! ### A four-byte unit id -/

theorem shiftIn_eq_append {n : Nat} (x : BitVec n) (b : Byte) :
    ((x.setWidth 32 <<< 8) ||| b.setWidth 32) = (x ++ b).setWidth 32 := by
  ext i hi
  simp only [BitVec.getElem_or, BitVec.getElem_shiftLeft, BitVec.getElem_setWidth, BitVec.getLsbD_append]
  by_cases h8 : i < 8
  · simp [h8]
  · have hb : b.getLsbD i = false := BitVec.getLsbD_of_ge b i (by omega)
    simp [h8, hb]

theorem word32_eq (b0 b1 b2 b3 : Byte) : word32 [b0, b1, b2, b3] = b0 ++ b1 ++ b2 ++ b3 := by
  have h0 : ((0#32 <<< 8) ||| b0.setWidth 32) = b0.setWidth 32 := by simp
  show (((((((0#32 <<< 8) ||| b0.setWidth 32) <<< 8) ||| b1.setWidth 32) <<< 8) ||| b2.setWidth 32) <<< 8) |||
    b3.setWidth 32 = _
  rw [h0, shiftIn_eq_append, shiftIn_eq_append, shiftIn_eq_append]
  exact BitVec.setWidth_eq _

/-! ### States whose chains differ in due marks only -/

/-- Two states agree in every chain but for its positions, and in every position but for its due mark. -/
structure OnlyDue (s t : State) : Prop where
  chain : ∀ d, { t.chain d with positions := [] } = { s.chain d with positions := [] }
  position : ∀ d p, { t.position d p with due := false } = { s.position d p with due := false }

theorem OnlyDue.refl (s : State) : OnlyDue s s := ⟨fun _ => rfl, fun _ _ => rfl⟩

theorem OnlyDue.trans {s t u : State} (h : OnlyDue s t) (k : OnlyDue t u) : OnlyDue s u :=
  ⟨fun d => (k.chain d).trans (h.chain d), fun d p => (k.position d p).trans (h.position d p)⟩

theorem onlyDue_of_sameBut {l : List Part} {s t : State} (h : sameBut l s t) (hl : Part.chains ∉ l) : OnlyDue s t :=
  ⟨fun d => by rw [State.chain_of_sameBut h hl], fun d p => by rw [State.position_of_sameBut h hl]⟩

theorem OnlyDue.foldl {α : Type} {f : State → α → State} (hf : ∀ s a, OnlyDue s (f s a)) (l : List α) (s : State) :
    OnlyDue s (l.foldl f s) := by
  induction l generalizing s with
  | nil => exact OnlyDue.refl s
  | cons a l ih => exact (hf s a).trans (ih _)

theorem onlyDue_markDisplayDue (s : State) (l : Option Location) : OnlyDue s (s.markDisplayDue l) := by
  refine ⟨fun d => ?_, fun d p => by rw [position_markDisplayDue]⟩
  unfold State.markDisplayDue
  cases l with
  | none => rfl
  | some l =>
    dsimp only
    split
    · unfold State.setPosition
      rw [State.chain_setChain]
      split
      next hd =>
        subst hd
        rfl
      next => rfl
    · rfl

theorem onlyDue_relocate (s : State) (room : Nat) (l : Option Location) : OnlyDue s (s.relocate room l) := by
  unfold State.relocate
  split
  · exact OnlyDue.refl s
  · exact ((onlyDue_of_sameBut (setLocation_sameBut s room l) (by decide)).trans (onlyDue_markDisplayDue _ _)).trans
      (onlyDue_markDisplayDue _ _)

/-! ### A room's location -/

theorem moveLocation_spec (s : State) (room : Nat) (l : Option Location) :
    (∀ q, (s.moveLocation room l).location q = if q = room then l else s.location q) ∧
    OnlyDue s (s.moveLocation room l) ∧ sameBut ([.locations, .chains] ++ noticeParts) s (s.moveLocation room l) := by
  obtain ⟨hloc, -, hsame⟩ := relocate_spec s room l
  by_cases hl : s.location room = l
  · have heq : s.moveLocation room l = s := if_pos hl
    rw [heq]
    refine ⟨fun q => ?_, OnlyDue.refl s, sameBut_refl _ s⟩
    split
    next hq => rw [hq, hl]
    next => rfl
  · obtain ⟨e, heq⟩ : ∃ e, s.moveLocation room l = (s.relocate room l).raise e := ⟨_, if_neg hl⟩
    have hraise := raise_sameBut (s.relocate room l) e
    rw [heq]
    exact ⟨fun q => (State.location_of_sameBut hraise (by decide) q).trans (hloc q),
      (onlyDue_relocate s room l).trans (onlyDue_of_sameBut hraise (by decide)),
      sameBut_trans (sameBut_mono (by decide) hsame) (sameBut_mono (by decide) hraise)⟩

/-- Some rooms' locations moved in turn: `place` gives each its new one. -/
theorem moveLocations_location {α : Type} (room : α → Nat) (place : α → Option Location) (l : List α) (s : State)
    (q : Nat) :
    ((∀ a, a ∈ l → room a ≠ q) → (l.foldl (fun t a => t.moveLocation (room a) (place a)) s).location q = s.location q) ∧
    (∀ v, (∃ a, a ∈ l ∧ room a = q) → (∀ a, a ∈ l → room a = q → place a = v) →
      (l.foldl (fun t a => t.moveLocation (room a) (place a)) s).location q = v) := by
  induction l generalizing s with
  | nil => exact ⟨fun _ => rfl, fun v ⟨a, ha, _⟩ => absurd ha List.not_mem_nil⟩
  | cons a l ih =>
    obtain ⟨hnone, hsome⟩ := ih (s.moveLocation (room a) (place a))
    have hmove := (moveLocation_spec s (room a) (place a)).1 q
    refine ⟨fun h => ?_, fun v hex hall => ?_⟩
    · refine (hnone fun b hb => h b (List.mem_cons_of_mem a hb)).trans (hmove.trans (if_neg ?_))
      exact Ne.symm (h a List.mem_cons_self)
    · by_cases hl : ∃ b, b ∈ l ∧ room b = q
      · exact hsome v hl fun b hb => hall b (List.mem_cons_of_mem a hb)
      · have ha : room a = q := by
          obtain ⟨b, hb, hbq⟩ := hex
          rcases List.mem_cons.mp hb with rfl | hb
          · exact hbq
          · exact absurd ⟨b, hb, hbq⟩ hl
        refine (hnone fun b hb hbq => hl ⟨b, hb, hbq⟩).trans (hmove.trans ((if_pos ha.symm).trans ?_))
        exact hall a List.mem_cons_self ha

/-! ### The rebuilt chain -/

theorem Chain.position_rebuild (ch : Chain) {p : Nat} (hp : p ≤ 40) :
    ch.rebuild.position p = rebuiltPosition (ch.position p) (ch.notedAt p) :=
  Table.read_build _ _ (Nat.lt_succ_of_le hp)

theorem rebuiltPosition_unitId (q : Position) (noted : Option (BitVec 32)) :
    (rebuiltPosition q noted).unitId = noted := by
  unfold rebuiltPosition
  cases noted with
  | none => rfl
  | some u =>
    dsimp only
    split
    next h => exact ((Position.answersFor_iff q u).mp h).1
    next => rfl

theorem rebuiltPosition_eq (q : Position) (noted : Option (BitVec 32)) :
    { rebuiltPosition q noted with due := false } = enumeratedPosition q noted := by
  unfold rebuiltPosition enumeratedPosition
  cases noted with
  | none => rfl
  | some u =>
    dsimp only
    by_cases h : q.answersFor u = true
    · rw [if_pos h, if_pos ((Position.answersFor_iff q u).mp h)]
    · rw [if_neg h, if_neg fun hq => h ((Position.answersFor_iff q u).mpr hq)]
      rfl

theorem enumeratedPosition_answered (q : Position) (noted : Option (BitVec 32)) :
    (enumeratedPosition q noted).answered = false := by
  unfold enumeratedPosition
  cases noted with
  | none => rfl
  | some u =>
    dsimp only
    split <;> rfl

theorem enumeratedPosition_due (q : Position) (noted : Option (BitVec 32)) :
    (enumeratedPosition q noted).due = false := by
  rw [← rebuiltPosition_eq]

theorem Chain.rebuild_gap (ch : Chain) :
    ch.rebuild.gap = true ↔ ∃ p, 1 ≤ p ∧ p ≤ ch.highest ∧ ch.notedAt p = none := by
  refine List.any_eq_true.trans ⟨?_, ?_⟩
  · rintro ⟨p, hp, hn⟩
    obtain ⟨h1, hle⟩ := mem_positionsTo.mp hp
    exact ⟨p, h1, hle, Option.isNone_iff_eq_none.mp hn⟩
  · rintro ⟨p, h1, hle, hn⟩
    exact ⟨p, mem_positionsTo.mpr ⟨h1, hle⟩, Option.isNone_iff_eq_none.mpr hn⟩

/-- The lowest position the rebuilt chain holds a unit id at is the lowest address noted for it (R103, R106). -/
theorem Chain.findUnit_rebuild (ch : Chain) (v : BitVec 32) :
    ch.rebuild.findUnit v = ((List.range 41).filter (fun p => decide (ch.notedAt p = some v))).head? := by
  have hread : ∀ p, (rebuiltPosition (ch.position p) (ch.notedAt p)).unitId = ch.notedAt p :=
    fun p => rebuiltPosition_unitId _ _
  have htest : ∀ p, ((if rebuiltPosition (ch.position p) (ch.notedAt p) = Position.cold then none
      else some (p, rebuiltPosition (ch.position p) (ch.notedAt p))) : Option (Nat × Position)).any
      (fun e => decide (e.2.unitId = some v)) = decide (ch.notedAt p = some v) := by
    intro p
    split
    next hc =>
      have hnone : ch.notedAt p = none := by rw [← hread p, hc]; rfl
      rw [hnone]
      rfl
    next => rw [Option.any_some, hread p]
  unfold Chain.findUnit Chain.rebuild Table.build
  dsimp only
  rw [List.find?_filterMap, List.head?_filter]
  simp only [htest]
  cases hf : (List.range (Config.positionCount + 1)).find? (fun p => decide (ch.notedAt p = some v)) with
  | none => exact hf.symm
  | some p =>
    have hp : ch.notedAt p = some v := of_decide_eq_true (List.find?_some hf :)
    refine Eq.trans ?_ hf.symm
    rw [Option.bind_some, if_neg]
    · rfl
    · intro hc
      have hnone : ch.notedAt p = none := by rw [← hread p, hc]; rfl
      rw [hnone] at hp
      cases hp

/-! ### The rooms found and lost -/

/-- The room a unit id is bound to, where no unit id is bound to two (R3). -/
theorem State.roomOfUnit_iff {s : State} (ht : s.tablesOk) (hd : s.unitsDistinct) (v : BitVec 32) (room : Nat) :
    s.roomOfUnit v = some room ↔ (s.room room).unitId = some v := by
  have hrising := ((Table.wf_iff _ _).mp ht.1).1
  unfold State.roomOfUnit
  constructor
  · intro h
    obtain ⟨e, he, rfl⟩ := Option.map_eq_some_iff.mp h
    have hroom : s.room e.1 = e.2 := Table.read_of_mem hrising (List.mem_of_find?_eq_some he)
    rw [hroom]
    exact of_decide_eq_true (List.find?_some he :)
  · intro h
    have hmem : (room, s.room room) ∈ s.site.rooms := Table.mem_of_read (fun hc => by
      have hcold : s.room room = Room.cold := hc
      rw [hcold] at h
      cases h)
    cases hf : s.site.rooms.find? (fun e => decide (e.2.unitId = some v)) with
    | none => exact absurd (decide_eq_true h) (List.find?_eq_none.mp hf _ hmem)
    | some e =>
      have hroom : s.room e.1 = e.2 := Table.read_of_mem hrising (List.mem_of_find?_eq_some hf)
      have he : (s.room e.1).unitId = some v := by
        rw [hroom]
        exact of_decide_eq_true (List.find?_some hf :)
      exact congrArg some (hd _ _ v he h)

theorem Chain.findUnit_mem {ch : Chain} (h : Table.wf Position.cold ch.positions = true) {v : BitVec 32} {p : Nat}
    (hp : ch.findUnit v = some p) : (p, ch.position p) ∈ ch.positions ∧ (ch.position p).unitId = some v := by
  obtain ⟨e, he, rfl⟩ := Option.map_eq_some_iff.mp hp
  have hmem := List.mem_of_find?_eq_some he
  have hread : ch.position e.1 = e.2 := Table.read_of_mem ((Table.wf_iff _ _).mp h).1 hmem
  rw [hread]
  exact ⟨hmem, of_decide_eq_true (List.find?_some he :)⟩

theorem State.mem_foundRooms {s : State} (ht : s.tablesOk) (hd : s.unitsDistinct) (c room p : Nat) :
    (room, p) ∈ s.foundRooms c ↔ ∃ v, (s.room room).unitId = some v ∧ (s.chain c).findUnit v = some p := by
  unfold State.foundRooms
  rw [List.mem_filterMap]
  constructor
  · rintro ⟨e, -, he⟩
    cases hu : e.2.unitId with
    | none =>
      rw [hu] at he
      cases he
    | some v =>
      rw [hu] at he
      dsimp only at he
      split at he
      next hfind =>
        obtain ⟨q, hq, hpair⟩ := Option.map_eq_some_iff.mp he
        obtain ⟨rfl, rfl⟩ := Prod.mk.inj hpair
        exact ⟨v, (State.roomOfUnit_iff ht hd v q).mp hq, hfind⟩
      next => cases he
  · rintro ⟨v, hroom, hfind⟩
    obtain ⟨hmem, hunit⟩ := Chain.findUnit_mem (ht.chain c).1 hfind
    refine ⟨_, hmem, ?_⟩
    rw [hunit]
    dsimp only
    rw [if_pos hfind, (State.roomOfUnit_iff ht hd v room).mpr hroom]
    rfl

theorem State.mem_lostRooms {s : State} (ht : s.tablesOk) (c room : Nat) :
    room ∈ s.lostRooms c ↔ (s.location room).map Location.chain = some c ∧
      ∀ v, (s.room room).unitId = some v → (s.chain c).findUnit v = none := by
  obtain ⟨-, -, -, -, -, -, hlocs, -⟩ := ht
  have hrising := ((Table.wf_iff _ _).mp hlocs).1
  have hat : ∀ l : Option Location, l.any (fun l => decide (l.chain = c)) = true ↔ l.map Location.chain = some c := by
    intro l
    cases l <;> simp
  have hunit : ∀ u : Option (BitVec 32), (match u with
      | none => true
      | some u => ((s.chain c).findUnit u).isNone) = true ↔ ∀ v, u = some v → (s.chain c).findUnit v = none := by
    intro u
    cases u <;> simp
  unfold State.lostRooms
  simp only [List.mem_map, List.mem_filter, Bool.and_eq_true, hat]
  constructor
  · rintro ⟨e, ⟨hmem, hc, hno⟩, rfl⟩
    have hread : s.location e.1 = e.2 := Table.read_of_mem hrising hmem
    have hno' := (hunit _).mp hno
    rw [hread]
    exact ⟨hc, hno'⟩
  · rintro ⟨hc, hno⟩
    have hmem : (room, s.location room) ∈ s.link.locations := Table.mem_of_read (fun hnone => by
      have hloc : s.location room = none := hnone
      rw [hloc] at hc
      cases hc)
    exact ⟨_, ⟨hmem, hc, (hunit _).mpr hno⟩, rfl⟩

/-- The location of every room after a rebuild (R106). -/
theorem updateLocations_location {s : State} (ht : s.tablesOk) (hd : s.unitsDistinct) (c room : Nat) :
    (s.updateLocations c).location room =
      match ((s.room room).unitId.bind (s.chain c).findUnit) with
      | some p => some ⟨c, p⟩
      | none => if (s.location room).map Location.chain = some c then none else s.location room := by
  obtain ⟨t, hst⟩ : ∃ t, t = (s.foundRooms c).foldl (fun t e => t.moveLocation e.1 (some ⟨c, e.2⟩)) s := ⟨_, rfl⟩
  have hupdate : s.updateLocations c = (s.lostRooms c).foldl (fun t room => t.moveLocation room none) t := by
    rw [hst]
    rfl
  obtain ⟨hkeep, hmove⟩ := moveLocations_location (fun e : Nat × Nat => e.1) (fun e => some ⟨c, e.2⟩) (s.foundRooms c) s
    room
  obtain ⟨hkeep', hmove'⟩ := moveLocations_location (fun r : Nat => r) (fun _ => none) (s.lostRooms c) t room
  rw [← hst] at hkeep hmove
  rw [hupdate]
  cases hf : (s.room room).unitId.bind (s.chain c).findUnit with
  | some p =>
    obtain ⟨v, hv, hp⟩ := Option.bind_eq_some_iff.mp hf
    have hfound := (State.mem_foundRooms ht hd c room p).mpr ⟨v, hv, hp⟩
    have hlost : ∀ r, r ∈ s.lostRooms c → r ≠ room := by
      rintro r hr rfl
      rw [((State.mem_lostRooms ht c r).mp hr).2 v hv] at hp
      cases hp
    refine (hkeep' hlost).trans (hmove (some ⟨c, p⟩) ⟨_, hfound, rfl⟩ fun e he hroom => ?_)
    obtain ⟨v', hv', hp'⟩ := (State.mem_foundRooms ht hd c e.1 e.2).mp he
    rw [hroom, hv] at hv'
    rw [← Option.some.inj hv', hp] at hp'
    rw [Option.some.inj hp']
  | none =>
    have hnone := Option.bind_eq_none_iff.mp hf
    have hfound : ∀ e, e ∈ s.foundRooms c → e.1 ≠ room := by
      intro e he hroom
      obtain ⟨v, hv, hp⟩ := (State.mem_foundRooms ht hd c e.1 e.2).mp he
      rw [hroom] at hv
      rw [hnone v hv] at hp
      cases hp
    have hloc := hkeep hfound
    dsimp only
    by_cases hc : (s.location room).map Location.chain = some c
    · rw [if_pos hc]
      exact hmove' none ⟨room, (State.mem_lostRooms ht c room).mpr ⟨hc, hnone⟩, rfl⟩ fun _ _ _ => rfl
    · rw [if_neg hc]
      refine (hkeep' fun r hr hroom => hc ?_).trans hloc
      rw [← hroom]
      exact ((State.mem_lostRooms ht c r).mp hr).1

theorem updateLocations_onlyDue (s : State) (c : Nat) : OnlyDue s (s.updateLocations c) :=
  (OnlyDue.foldl (fun t (e : Nat × Nat) => (moveLocation_spec t e.1 _).2.1) _ s).trans
    (OnlyDue.foldl (fun t room => (moveLocation_spec t room none).2.1) _ _)

theorem updateLocations_sameBut' (s : State) (c : Nat) :
    sameBut ([.locations, .chains] ++ noticeParts) s (s.updateLocations c) :=
  sameBut_trans (sameBut_foldl (fun t (e : Nat × Nat) => (moveLocation_spec t e.1 _).2.2) _ s)
    (sameBut_foldl (fun t room => (moveLocation_spec t room none).2.2) _ _)

/-! ### The end of an enumeration -/

theorem markUnbound_sameBut (s : State) (c : Nat) : sameBut [.chains] s (s.markUnbound c) :=
  sameBut_foldl (fun t p => markDisplayDue_sameBut t (some ⟨c, p⟩)) _ s

theorem Chain.leaveEnumeration_of_found {ch : Chain} (h : 0 < ch.count) : ch.leaveEnumeration = ch.beginRound := if_pos h

theorem Chain.leaveEnumeration_of_empty {ch : Chain} (h : ¬ 0 < ch.count) : ch.leaveEnumeration =
    { ch with activity := .wait, nextRoundStart := some (ch.time + ch.period) } := if_neg h

theorem Chain.position_leaveEnumeration {ch : Chain} (h : Table.wf Position.cold ch.positions = true) (k : Nat) :
    { ch.leaveEnumeration.position k with answered := false } = { ch.position k with answered := false } := by
  by_cases hc : 0 < ch.count
  · rw [Chain.leaveEnumeration_of_found hc, Chain.position_beginRound h]
  · rw [Chain.leaveEnumeration_of_empty hc]
    rfl

theorem Chain.leaveEnumeration_answered {ch : Chain} (h : Table.wf Position.cold ch.positions = true) (k : Nat)
    (hk : (ch.position k).answered = false) : (ch.leaveEnumeration.position k).answered = false := by
  by_cases hc : 0 < ch.count
  · rw [Chain.leaveEnumeration_of_found hc, Chain.position_beginRound h]
  · rw [Chain.leaveEnumeration_of_empty hc]
    exact hk

/-- A state just before a chain leaves ENUMERATING, and what the rebuild has made of it (R104 to R106). -/
theorem endEnumeration_reached (s : State) (c : Nat) (ht : s.tablesOk) (hd : s.unitsDistinct) :
    ∃ w, s.endEnumeration c = w.setChain c (w.chain c).leaveEnumeration ∧ w.tablesOk ∧
      OnlyDue (s.setChain c (s.chain c).rebuild) w ∧
      (∀ room, w.location room = match ((s.room room).unitId.bind (s.chain c).rebuild.findUnit) with
        | some p => some ⟨c, p⟩
        | none => if (s.location room).map Location.chain = some c then none else s.location room) ∧
      sameBut ([.chains, .locations, .displayRevs, .displays] ++ noticeParts) s w := by
  obtain ⟨t, htdef⟩ : ∃ t, t = s.setChain c (s.chain c).rebuild := ⟨_, rfl⟩
  obtain ⟨u, hudef⟩ : ∃ u, u = (leftLinked (s.chain c) (t.chain c)).foldl
    (fun v p => v.raisePanelState c (s.boundRoom c p) p) t := ⟨_, rfl⟩
  obtain ⟨v, hvdef⟩ : ∃ v, v = (u.updateLocations c).markUnbound c := ⟨_, rfl⟩
  have hdoes : Does (.quietTimer c) s u := by
    rw [hudef, htdef]
    exact (does_setChain s c (Chain.steady_rebuild _)).trans
      (Does.foldl (fun v p => does_raisePanelState c (s.boundRoom c p) v p) _ _)
  have hut := hdoes.tablesOk ht
  have hst : sameBut [.chains] s t := by rw [htdef]; exact setChain_sameBut s c _
  have htu : sameBut noticeParts t u := by
    rw [hudef]
    exact sameBut_foldl (fun v p => raisePanelState_sameBut c (s.boundRoom c p) v p) _ t
  have hroom : ∀ r, (u.room r).unitId = (s.room r).unitId := fun r => unitId_of_settings
    ((settings_of_sameBut htu (by decide) r).trans (settings_of_sameBut hst (by decide) r))
  have hud : u.unitsDistinct := fun r q x hr hq => hd r q x ((hroom r).symm.trans hr) ((hroom q).symm.trans hq)
  have hchain : u.chain c = (s.chain c).rebuild := by
    rw [State.chain_of_sameBut htu (by decide), htdef, State.chain_setChain_same]
  have huv := updateLocations_sameBut' u c
  have hmark := markUnbound_sameBut (u.updateLocations c) c
  have hrecompute := recomputeRooms_sameBut v (v.roomsAfter s c)
  have hvw : sameBut [.displayRevs, .displays] v (v.recomputeRooms (v.roomsAfter s c)) := hrecompute
  rw [← hvdef] at hmark
  refine ⟨v.recomputeRooms (v.roomsAfter s c), ?_, ?_, ?_, fun room => ?_, ?_⟩
  · rw [hvdef, hudef, htdef]
    rfl
  · refine Does.tablesOk (i := .quietTimer c) (Relation.ReflTransGen.trans ?_ (does_recomputeRooms _ _)) hut
    rw [hvdef]
    exact (does_updateLocations u c).trans (does_markUnbound _ c)
  · rw [← htdef]
    refine ((onlyDue_of_sameBut htu (by decide)).trans (updateLocations_onlyDue u c)).trans (OnlyDue.trans ?_
      (onlyDue_of_sameBut hvw (by decide)))
    rw [hvdef]
    exact OnlyDue.foldl (fun t p => onlyDue_markDisplayDue t (some ⟨c, p⟩)) _ _
  · rw [State.location_of_sameBut hvw (by decide), State.location_of_sameBut hmark (by decide),
      updateLocations_location hut hud, hroom, hchain, State.location_of_sameBut htu (by decide),
      State.location_of_sameBut hst (by decide)]
  · refine sameBut_trans (sameBut_mono (by decide) hst) (sameBut_trans (sameBut_mono (by decide) htu) ?_)
    exact sameBut_trans (sameBut_mono (by decide) huv) (sameBut_trans (sameBut_mono (by decide) hmark)
      (sameBut_mono (by decide) hvw))

/-- R104 to R106: what the end of an enumeration leaves. -/
theorem endEnumeration_spec (s : State) (c : Nat) (ht : s.tablesOk) (hd : s.unitsDistinct) :
    enumerationEnded s (s.endEnumeration c) c (s.chain c) := by
  obtain ⟨w, hend, hok, hdue, hloc, hsame⟩ := endEnumeration_reached s c ht hd
  have hset := setChain_sameBut w c (w.chain c).leaveEnumeration
  have hlocation := State.location_of_sameBut hset (by decide)
  have hchain : { w.chain c with positions := [] } = { (s.chain c).rebuild with positions := [] } := by
    rw [hdue.chain c, State.chain_setChain_same]
  have hposition : ∀ p, { w.position c p with due := false } = { (s.chain c).rebuild.position p with due := false } := by
    intro p
    rw [hdue.position c p, State.position_setChain_same]
  have hcount : (w.chain c).count = (s.chain c).highest := (congrArg Chain.count hchain :)
  have hgap : (w.chain c).gap = (s.chain c).rebuild.gap := (congrArg Chain.gap hchain :)
  have hround : (w.chain c).round = (s.chain c).round := (congrArg Chain.round hchain :)
  have hquiet : (w.chain c).quietAt = none := (congrArg Chain.quietAt hchain :)
  have hwf := (hok.chain c).1
  rw [hend]
  refine ⟨fun p hp => ?_, ?_, ?_, ?_, ?_, fun h0 => ?_, fun room v hv => ?_, fun room hv => ?_, fun d hdc => ?_,
    sameBut_trans hsame (sameBut_mono (by decide) hset)⟩
  · have hrebuilt : { w.position c p with due := false } = enumeratedPosition ((s.chain c).position p)
        ((s.chain c).notedAt p) := by
      rw [hposition, Chain.position_rebuild _ hp, rebuiltPosition_eq]
    have hanswered : (w.position c p).answered = false :=
      (congrArg Position.answered hrebuilt :).trans (enumeratedPosition_answered _ _)
    have hkeep := Chain.position_leaveEnumeration hwf p
    have hstill := Chain.leaveEnumeration_answered hwf p hanswered
    have hsamePos : (w.chain c).leaveEnumeration.position p = w.position c p := by
      calc (w.chain c).leaveEnumeration.position p
          = { (w.chain c).leaveEnumeration.position p with answered := false } := by rw [← hstill]
        _ = { w.position c p with answered := false } := hkeep
        _ = w.position c p := by rw [← hanswered]
    rw [State.position_setChain_same, hsamePos]
    exact hrebuilt
  · rw [State.chain_setChain_same, ← hcount]
    by_cases hc : 0 < (w.chain c).count
    · rw [Chain.leaveEnumeration_of_found hc]
      rfl
    · rw [Chain.leaveEnumeration_of_empty hc]
  · rw [State.chain_setChain_same, ← Chain.rebuild_gap, ← hgap]
    by_cases hc : 0 < (w.chain c).count
    · rw [Chain.leaveEnumeration_of_found hc]
      rfl
    · rw [Chain.leaveEnumeration_of_empty hc]
  · rw [State.chain_setChain_same, ← hcount]
    by_cases hc : 0 < (w.chain c).count
    · rw [Chain.leaveEnumeration_of_found hc, if_pos hc]
      rfl
    · rw [Chain.leaveEnumeration_of_empty hc, if_neg hc]
  · rw [State.chain_setChain_same, ← hquiet]
    by_cases hc : 0 < (w.chain c).count
    · rw [Chain.leaveEnumeration_of_found hc]
      rfl
    · rw [Chain.leaveEnumeration_of_empty hc]
  · rw [State.chain_setChain_same, ← hround, Chain.leaveEnumeration_of_found (by rw [hcount]; exact h0)]
    exact ⟨rfl, rfl, rfl, rfl⟩
  · exact (hlocation room).trans ((hloc room).trans (by rw [hv, Option.bind_some, Chain.findUnit_rebuild] <;> rfl))
  · exact (hlocation room).trans ((hloc room).trans (by rw [hv] <;> rfl))
  · have hother := setChain_sameOtherChains w c (w.chain c).leaveEnumeration d hdc
    have hother' := setChain_sameOtherChains s c (s.chain c).rebuild d hdc
    refine ⟨?_, fun p => ?_⟩
    · rw [hother, hdue.chain d, hother']
    · unfold State.position
      rw [hother]
      refine (hdue.position d p).trans ?_
      unfold State.position
      rw [hother']

/-- The end of an enumeration after the chain's own record has been set. -/
theorem enumerationEnded_setChain {s u : State} {c : Nat} {b : Chain} (h : enumerationEnded (s.setChain c b) u c b) :
    enumerationEnded s u c b := by
  obtain ⟨hpos, hcount, hgap, hact, hquiet, hround, hbound, hunbound, hothers, hsame⟩ := h
  refine ⟨hpos, hcount, hgap, hact, hquiet, hround, hbound, hunbound, fun d hd => ?_,
    sameBut_trans (sameBut_mono (by decide) (setChain_sameBut s c b)) hsame⟩
  have hother := setChain_sameOtherChains s c b d hd
  obtain ⟨h1, h2⟩ := hothers d hd
  rw [hother] at h1
  unfold State.position at h2 ⊢
  rw [hother] at h2
  exact ⟨h1, h2⟩

/-- The end of an enumeration of a chain whose timer has moved on is that of the chain before. -/
theorem enumerationEnded_reach {s u : State} {c t : Nat} {b : Chain} (h : enumerationEnded s u c (b.reach t)) :
    enumerationEnded s u c b := h

theorem unitsDistinct_setChain {s : State} (hd : s.unitsDistinct) (c : Nat) (v : Chain) :
    (s.setChain c v).unitsDistinct := hd

/-! ### The events -/

/-- The chain after a good, due ENUM_REPLY (R99, R100, R103). -/
theorem Chain.noteReply_eq (ch : Chain) {f : UpFrame} {b0 b1 b2 b3 : Byte} (hp : f.payload = [b0, b1, b2, b3]) :
    ch.countValid.noteReply f = ch.afterEnumReply f.address.toNat (b0 ++ b1 ++ b2 ++ b3) := by
  unfold Chain.noteReply Chain.afterEnumReply Chain.countValid satAdd
  rw [hp, word32_eq]
  rfl

theorem exec_upstreamFrame_discard {c elapsed : Nat} {f : UpFrame} {s : State} (hc : c < 4)
    (h : ¬ (frameGood f ∧ frameDue (s.chain c) f)) :
    ∃ u, exec (.upstreamFrame c elapsed f) s = .next u ∧
      u.chain c = { s.chain c with
        time := (s.chain c).time + elapsed, discards := min ((s.chain c).discards + 1) 255
        windowDiscards := min ((s.chain c).windowDiscards + 1) 255 } ∧
      sameOtherChains c s u ∧ sameBut [.chains] s u := by
  have hcount : ((s.chain c).passTime elapsed).countDiscard = { s.chain c with
      time := (s.chain c).time + elapsed, discards := min ((s.chain c).discards + 1) 255
      windowDiscards := min ((s.chain c).windowDiscards + 1) 255 } := by
    unfold Chain.countDiscard Chain.passTime satAdd
    rfl
  have hjudged : (s.setChain c ((s.chain c).passTime elapsed)).judged c f .discard =
      (s.setChain c ((s.chain c).passTime elapsed)).setChain c ((s.chain c).passTime elapsed).countDiscard :=
    congrArg (fun v : Chain => (s.setChain c ((s.chain c).passTime elapsed)).setChain c v.countDiscard)
      (State.chain_setChain_same s c _)
  refine ⟨_, (exec_upstreamFrame hc (Chain.judge_discard h)).trans (congrArg _ hjudged), ?_⟩
  rw [hcount]
  exact setChain_setChain_spec s c _ _

/-- A good, due ENUM_REPLY, before the end of the enumeration that address 40 brings. -/
theorem exec_upstreamFrame_enumReply {c elapsed : Nat} {f : UpFrame} {b0 b1 b2 b3 : Byte} {b : Chain} {s : State}
    (hc : c < 4) (hg : frameGood f) (hk : f.kind = some .enumReply) (hd : frameDue (s.chain c) f)
    (hp : f.payload = [b0, b1, b2, b3])
    (hb : b = Chain.afterEnumReply { s.chain c with time := (s.chain c).time + elapsed } f.address.toNat
      (b0 ++ b1 ++ b2 ++ b3)) :
    ∃ t, t = (s.setChain c ((s.chain c).passTime elapsed)).setChain c b ∧
      exec (.upstreamFrame c elapsed f) s = .next (if f.address.toNat = 40 then t.endEnumeration c else t) := by
  refine ⟨_, rfl, (exec_upstreamFrame hc (Chain.judge_enumReply hg hk hd)).trans (congrArg _ ?_)⟩
  unfold State.judged State.takeEnumReply
  dsimp only
  rw [State.chain_setChain_same, Chain.noteReply_eq _ hp, hb]
  rfl

theorem quietTimer_of_enumerating {s : State} {c t : Nat} (ha : (s.chain c).activity = .enumerating)
    (hq : (s.chain c).quietAt = some t) :
    s.quietTimer c = (s.setChain c ((s.chain c).reach t)).endEnumeration c := by
  unfold State.quietTimer
  rw [ha, hq]

theorem quietTimer_of_not_enumerating {s : State} {c : Nat} (ha : (s.chain c).activity ≠ .enumerating) :
    s.quietTimer c = s := by
  unfold State.quietTimer
  split
  next hr _ => exact absurd hr ha
  next => rfl

/-- Settles O43: a frame by its judgement, and the end of an enumeration by the rebuild and the locations. -/
theorem framesAndEnumeration : Obligations.FramesAndEnumeration := by
  unfold Obligations.FramesAndEnumeration
  refine ⟨fun c elapsed f s hc h => exec_upstreamFrame_discard hc h, ?_, ?_, ?_, ?_, ?_⟩
  · intro c elapsed f b0 b1 b2 b3 b s hc hg hk hd hp hb
    obtain ⟨t, ht, hexec⟩ := exec_upstreamFrame_enumReply hc hg hk hd hp hb
    refine ⟨fun h40 => ⟨t, hexec.trans (congrArg _ (if_neg h40)), ?_⟩, fun h40 hok hdis =>
      ⟨_, hexec.trans (congrArg _ (if_pos h40)), ?_⟩⟩
    · rw [ht]
      exact setChain_setChain_spec s c _ b
    · have hwf : Table.wf none b.noted = true := by
        rw [hb]
        exact Table.wf_write (d := none) (t := (s.chain c).noted) _ (some (b0 ++ b1 ++ b2 ++ b3)) (hok.chain c).2
      have hokt : t.tablesOk := by
        have hpositions : Table.wf Position.cold b.positions = true := by
          rw [hb]
          exact (hok.chain c).1
        have hfirst : Does (.quietTimer c) s (s.setChain c ((s.chain c).passTime elapsed)) :=
          does_setChain s c (v := (s.chain c).passTime elapsed) ⟨id, id⟩
        rw [ht]
        exact Does.tablesOk (hfirst.trans (does_setChain _ c ⟨fun _ => hpositions, fun _ => hwf⟩)) hok
      have hchain : t.chain c = b := by rw [ht, State.chain_setChain_same]
      have hend := endEnumeration_spec t c hokt (by rw [ht]; exact hdis)
      rw [hchain] at hend
      obtain ⟨u, hu⟩ : ∃ u, u = t.endEnumeration c := ⟨_, rfl⟩
      rw [← hu] at hend ⊢
      rw [ht] at hend
      have hfirst := enumerationEnded_setChain hend
      obtain ⟨hpos, hcount, hgap, hact, hquiet, hround, hbound, hunbound, hothers, hsame⟩ := hfirst
      refine ⟨hpos, hcount, hgap, hact, hquiet, hround, hbound, hunbound, fun d hd => ?_,
        sameBut_trans (sameBut_mono (by decide) (setChain_sameBut s c _)) hsame⟩
      have hother := setChain_sameOtherChains s c ((s.chain c).passTime elapsed) d hd
      obtain ⟨h1, h2⟩ := hothers d hd
      rw [hother] at h1
      unfold State.position at h2 ⊢
      rw [hother] at h2
      exact ⟨h1, h2⟩
  · intro c t s hc hok hdis ha hq
    refine ⟨_, (exec_onChain hc s _).trans (congrArg _ (quietTimer_of_enumerating ha hq)), ?_⟩
    have hokt : (s.setChain c ((s.chain c).reach t)).tablesOk :=
      (does_setChain (c := .quietTimer c) s c (v := (s.chain c).reach t) ⟨id, id⟩).tablesOk hok
    have hend := endEnumeration_spec (s.setChain c ((s.chain c).reach t)) c hokt hdis
    rw [State.chain_setChain_same] at hend
    exact enumerationEnded_reach (enumerationEnded_setChain hend)
  · intro c s ha
    refine congrArg Host.Outcome.next ?_
    unfold State.onChain
    rw [quietTimer_of_not_enumerating ha]
    exact ite_self s
  · intro c s hc hok ha hp
    have hstart : s.enumerationStart c = s.setChain c (s.chain c).beginEnumeration := if_pos ⟨ha, hp⟩
    refine ⟨_, (exec_onChain hc s _).trans (congrArg _ hstart), ?_, fun k => ?_, setChain_sameOtherChains s c _,
      setChain_sameBut s c _⟩
    · rw [State.chain_setChain_same]
      rfl
    · rw [State.position_setChain_same]
      exact position_clearAnswered (hok.chain c).1 k
  · intro c s hno
    refine congrArg Host.Outcome.next ?_
    have hstay : s.enumerationStart c = s := if_neg hno
    unfold State.onChain
    rw [hstay]
    exact ite_self s

end Sys2Proof.Machine
end

section
/-! SUPPORT. The catering commands (O49): the order they create, change, withdraw, forfeit or deliver, and the booking
it is linked to. -/

namespace Sys2Proof.Machine

/-! ### The admission test does not look at the ports -/

theorem trialOrder_setPort (s : State) (p : Port) (a : AgentPort) (building : Nat) (c : KitchenChoice) :
    (s.setPort p a).trialOrder building c = s.trialOrder building c := by
  have hinsert : ∀ k l, (s.setPort p a).insertByTransit building k l = s.insertByTransit building k l := by
    intro k l
    induction l with
    | nil => rfl
    | cons j l ih =>
      rw [State.insertByTransit, State.insertByTransit, ih]
      rfl
  cases c with
  | kitchen k => rfl
  | any =>
    unfold State.trialOrder
    rw [show (s.setPort p a).insertByTransit building = s.insertByTransit building from
      funext fun k => funext (hinsert k)]

theorem tryKitchens_setPort (s : State) (p : Port) (a : AgentPort) (building lead load : Nat) (delivery : Int)
    (l : List Nat) :
    (s.setPort p a).tryKitchens building lead load delivery l = s.tryKitchens building lead load delivery l := by
  induction l with
  | nil => rfl
  | cons k l ih =>
    rw [State.tryKitchens, State.tryKitchens, ih]
    rfl

theorem admission_setPort (s : State) (p : Port) (a : AgentPort) (isNew : Bool) (room : Nat) (start : Int)
    (q : CaterRequest) : (s.setPort p a).admission isNew room start q = s.admission isNew room start q := by
  have hmenu : (s.setPort p a).menuClass q.cls = s.menuClass q.cls := rfl
  rw [State.admission_eq, State.admission_eq, hmenu]
  cases s.menuClass q.cls with
  | none => rfl
  | some m =>
    dsimp only
    unfold State.trials
    rw [trialOrder_setPort, tryKitchens_setPort]
    rfl

theorem admission_taking (s : State) (p : Port) (tag : Byte) (cmd : Command) (isNew : Bool) (room : Nat) (start : Int)
    (q : CaterRequest) : (s.taking p tag cmd).admission isNew room start q = s.admission isNew room start q :=
  admission_setPort s p _ isNew room start q

/-! ### A changed record, and what comes after it -/

/-- What a changed record leaves, under what does not touch the records. -/
theorem changeRec_after {l : List Part} {s u : State} {i : Nat} {n : Rec} (hu : sameBut l (s.changeRec i n) u)
    (hl : Part.records ∉ l) :
    u.rec? i = some { n with rev := satAdd 4294967295 s.book.rev 1 } ∧ u.recHandle i = s.recHandle i ∧
    sameOtherRecords i s u := by
  have hpool := pool_of_sameBut hu hl
  refine ⟨?_, ?_, fun j hj => ?_⟩
  · unfold State.rec?
    rw [hpool]
    exact (rec?_changeRec s i i n).trans (if_pos rfl)
  · unfold State.recHandle
    rw [hpool]
    exact recHandle_changeRec s i i n
  · rw [hpool]
    exact changeRec_sameOtherRecords s i n j hj

theorem withOrder_of_named {s : State} {h : Handle} {o : Order} (go : Order → State × Reply)
    (hn : Pool.named? s.plan.orders h = some o) : s.withOrder h o.rev go = go o := by
  unfold State.withOrder
  rw [hn]
  exact if_neg (not_not.mpr rfl)

theorem refuse_admission (s : State) (e : AdmissionFailure) : refuse s e.code e.payload = (s, match e with
    | .orderPoolFull => Reply.refusalWith .full (.full .orderPool)
    | .tooSoon => Reply.refusal .tooSoon
    | .kitchenFull k g => Reply.refusalWith .kitchenFull (.kitchenFull k g)
    | .range => Reply.refusal .range) := by
  cases e <;> rfl

/-! ### CATER_ORDER -/

/-- A CATER_ORDER for a booking (R158). -/
theorem runCaterOrder_of_named {s : State} {p : Port} {h : Handle} {r : Rec} {q : CaterRequest}
    (hc : s.changeCheck p .cater = none) (hi : h.index ≤ 2047) (hq : s.requestOut q = false)
    (hn : Pool.named? s.book.pool h = some r) (hk : r.kind = .booking) : runCaterOrder p h r.rev q s =
      match r.order with
      | some o => refuse s .state (.orderHandle o)
      | none => match s.admission true r.room r.startMinute q with
        | .error e => refuse s e.code e.payload
        | .ok m => match Pool.lowestFree s.plan.orders Config.orderCap with
          | none => refuse s .full (.full .orderPool)
          | some j =>
            accept (s.attachOrder p h r j q m)
              (.ordered (Pool.handle s.plan.orders j) s.advanceRev.advanceRev.book.rev s.advanceRev.book.rev
                m.kitchen m.covers m.cutoff m.dispatch m.delivery) m.clamped := by
  unfold runCaterOrder
  rw [hc, bookIndexOut_of_le hi, hq]
  exact withRecord_of_named _ hn hk

/-- The booking's change, its notice, its order and its room's display (R157, R158). -/
theorem attachOrder_spec {s : State} {p : Port} {h : Handle} {r : Rec} (hn : Pool.named? s.book.pool h = some r) (j : Nat)
    (q : CaterRequest) (m : Admission) :
    (s.attachOrder p h r j q m).order? j = some { newOrder p h q m with rev := satAdd 4294967295 s.book.rev 2 } ∧
    Pool.handle (s.attachOrder p h r j q m).plan.orders j = Pool.handle s.plan.orders j ∧
    sameOtherOrders j s (s.attachOrder p h r j q m) ∧ loadAdded s (s.attachOrder p h r j q m) (newOrder p h q m) ∧
    (s.attachOrder p h r j q m).rec? h.index = some { r with
      order := some (Pool.handle s.plan.orders j), rev := satAdd 4294967295 s.book.rev 1 } ∧
    (s.attachOrder p h r j q m).recHandle h.index = h ∧ sameOtherRecords h.index s (s.attachOrder p h r j q m) ∧
    (s.attachOrder p h r j q m).book.rev = satAdd 4294967295 s.book.rev 2 ∧
    displayFollows s (s.attachOrder p h r j q m) r.room ∧
    (s.attachOrder p h r j q m).ports = s.portsAfterChange (satAdd 4294967295 s.book.rev 1) h r.owner (.port p)
      .caterOrder [] ∧
    sameBut ([.records, .revision, .orders, .load, .displayRevs, .displays] ++ noticeParts) s
      (s.attachOrder p h r j q m) := by
  obtain ⟨hhandle, -, -⟩ := Pool.handle_of_named? hn
  obtain ⟨n, hnrec⟩ : ∃ n : Rec, n = { r with order := some (Pool.handle s.plan.orders j) } := ⟨_, rfl⟩
  obtain ⟨t, ht⟩ : ∃ t, t = (s.changeRec h.index n).raiseChanged h r.owner (.port p) .caterOrder [] := ⟨_, rfl⟩
  have hattach : s.attachOrder p h r j q m = (t.createOrder j p h q m).recompute r.room := by
    rw [ht, hnrec]
    rfl
  have hchange := changeRec_sameBut s h.index n
  have hraise : sameBut noticeParts (s.changeRec h.index n) t := by rw [ht]; exact raiseChanged_sameBut _ _ _ _ _ _
  have hst : sameBut ([.records, .revision] ++ noticeParts) s t :=
    sameBut_trans (sameBut_mono (by decide) hchange) (sameBut_mono (by decide) hraise)
  have hrevt : t.book.rev = satAdd 4294967295 s.book.rev 1 := rev_of_sameBut hraise (by decide)
  have hportst : t.ports = s.portsAfterChange (satAdd 4294967295 s.book.rev 1) h r.owner (.port p) .caterOrder [] := by
    rw [ht]
    exact raiseChanged_ports (s := s) (t := s.changeRec h.index n) rfl rfl rfl rfl _ _ _ _ _
  have hcreate := createOrder_sameBut t j p h q m
  have hrecompute := recompute_sameBut (t.createOrder j p h q m) r.room
  have hrev2 : satAdd 4294967295 t.book.rev 1 = satAdd 4294967295 s.book.rev 2 := by rw [hrevt, satAdd_satAdd]
  have horders := orders_of_sameBut hst (by decide)
  obtain ⟨hchanged, hsame, hload⟩ := createOrder_spec t j p h q m
  obtain ⟨horder, hothers, hrev⟩ := hchanged.after hrecompute (by decide)
  have hafter : sameBut ([.orders, .revision, .load, .displayRevs, .displays] ++ noticeParts) (s.changeRec h.index n)
      ((t.createOrder j p h q m).recompute r.room) := sameBut_trans (sameBut_mono (by decide) hraise)
    (sameBut_trans (sameBut_mono (by decide) hcreate) (sameBut_mono (by decide) hrecompute))
  obtain ⟨hrec, hrecHandle, hrecOthers⟩ := changeRec_after hafter (by decide)
  have hbefore : sameBut ([.records, .revision, .orders, .load] ++ noticeParts) s (t.createOrder j p h q m) :=
    sameBut_trans (sameBut_mono (by decide) hst) (sameBut_mono (by decide) hcreate)
  rw [hattach]
  refine ⟨by rw [horder, hrev2], ?_, fun i hi => (hothers i hi).trans (by rw [horders]), fun k g hg => ?_,
    by rw [hrec, hnrec], hrecHandle.trans hhandle, hrecOthers, hrev.trans hrev2,
    displayFollows_recompute (State.shownAlike_of_sameBut hbefore r.room (by decide)), ?_,
    sameBut_trans (sameBut_mono (by decide) hbefore) (sameBut_mono (by decide) hrecompute)⟩
  · rw [orders_of_sameBut hrecompute (by decide), hsame, horders]
  · rw [loadEntry_of_sameBut hrecompute (by decide), hload k g hg, loadEntry_of_sameBut hst (by decide)]
  · exact (recompute_ports _ _).trans ((addFold_ports _ _ _).trans hportst)

theorem caterOrder_settled (p : Port) (tag : Byte) (h : Handle) (r : Rec) (q : CaterRequest) (s : State)
    (hready : s.ready p (.caterOrder h r.rev q)) (hi : h.index ≤ 2047) (hq : s.requestOut q = false)
    (hn : Pool.named? s.book.pool h = some r) (hk : r.kind = .booking) :
    (∀ k, r.order = some k → exec (.caterOrder p tag h r.rev q) s =
      .next ((s.taking p tag (.caterOrder h r.rev q)).placed p tag (Reply.refusalWith .state (.orderHandle k)))) ∧
    (∀ e, r.order = none → s.admission true r.room r.startMinute q = .error e →
      exec (.caterOrder p tag h r.rev q) s =
        .next ((s.taking p tag (.caterOrder h r.rev q)).placed p tag
          (refuse (s.taking p tag (.caterOrder h r.rev q)) e.code e.payload).2)) ∧
    (∀ m j, r.order = none → s.admission true r.room r.startMinute q = .ok m → isLowestFree s.plan.orders 512 j →
      exec (.caterOrder p tag h r.rev q) s = .next (((s.taking p tag (.caterOrder h r.rev q)).attachOrder p h r j q
        m).placed p tag { code := .ok, clamped := m.clamped
                          payload := .ordered (Pool.handle s.plan.orders j) (satAdd 4294967295 s.book.rev 2)
                            (satAdd 4294967295 s.book.rev 1) m.kitchen m.covers m.cutoff m.dispatch m.delivery })) := by
  have hrun := runCaterOrder_of_named (s := s.taking p tag (.caterOrder h r.rev q)) (changeCheck_of_ready hready rfl rfl)
    hi hq hn hk
  refine ⟨fun k hk => ?_, fun e ho ha => ?_, fun m j ho ha hj => ?_⟩
  · rw [hk] at hrun
    exact exec_of_run rfl hready.1 hrun
  · have ha' : (s.taking p tag (.caterOrder h r.rev q)).admission true r.room r.startMinute q = .error e :=
      (admission_taking _ _ _ _ _ _ _ _).trans ha
    rw [ho] at hrun
    dsimp only at hrun
    rw [ha'] at hrun
    exact exec_of_run rfl hready.1 hrun
  · have ha' : (s.taking p tag (.caterOrder h r.rev q)).admission true r.room r.startMinute q = .ok m :=
      (admission_taking _ _ _ _ _ _ _ _).trans ha
    have hlow : Pool.lowestFree (s.taking p tag (.caterOrder h r.rev q)).plan.orders Config.orderCap = some j :=
      (Pool.lowestFree_iff _ _ _).mpr hj
    have hrev2 : (s.taking p tag (.caterOrder h r.rev q)).advanceRev.advanceRev.book.rev = satAdd 4294967295 s.book.rev 2 :=
      satAdd_satAdd _ _ _ _
    rw [ho] at hrun
    dsimp only at hrun
    rw [ha'] at hrun
    dsimp only at hrun
    rw [hlow] at hrun
    dsimp only at hrun
    rw [hrev2] at hrun
    exact exec_of_run rfl hready.1 hrun

/-! ### HOLD with catering -/

theorem placeHold_refused {s : State} {p : Port} {a : HoldArgs} {q : CaterRequest} {e : AdmissionFailure} (i : Nat)
    (hcater : a.cater = some q) (ha : s.admission true a.room (slotMinute a.plane (startSlot a.start)) q = .error e) :
    placeHold p a i s = refuse s e.code e.payload := by
  unfold placeHold
  rw [hcater]
  dsimp only
  rw [ha]

theorem placeHold_ordered {s : State} {p : Port} {a : HoldArgs} {q : CaterRequest} {m : Admission} {j : Nat} (i : Nat)
    (hcater : a.cater = some q) (ha : s.admission true a.room (slotMinute a.plane (startSlot a.start)) q = .ok m)
    (hj : Pool.lowestFree s.plan.orders Config.orderCap = some j) :
    placeHold p a i s = accept (((s.changeRec i (heldRec s p a (some (Pool.handle s.plan.orders j)))).createOrder j p
        (s.recHandle i) q m).roomChanged a.room)
      (heldPayload s p i a (some (Pool.handle s.plan.orders j, satAdd 4294967295 (satAdd 4294967295 s.book.rev 1) 1))
        (if m.clamped then some m.covers else none))
      (decide (60 < a.holdMinutes) || m.clamped) := by
  have hrev : ((s.changeRec i (heldRec s p a (some (Pool.handle s.plan.orders j)))).createOrder j p (s.recHandle i) q
      m).book.rev = satAdd 4294967295 (satAdd 4294967295 s.book.rev 1) 1 := (createOrder_spec _ _ _ _ _ _).1.rev
  rw [← hrev]
  unfold placeHold
  rw [hcater]
  dsimp only
  rw [ha]
  dsimp only
  rw [hj]

/-- The booking a HOLD creates with its order, and the room that follows (R44, R45, R157). -/
theorem heldOrder_spec (s : State) (i j : Nat) (n : Rec) (p : Port) (b : Handle) (q : CaterRequest) (m : Admission)
    (room : Nat) {u : State} (hu : u = ((s.changeRec i n).createOrder j p b q m).roomChanged room) :
    u.order? j = some { newOrder p b q m with rev := satAdd 4294967295 s.book.rev 2 } ∧ sameOtherOrders j s u ∧
    loadAdded s u (newOrder p b q m) ∧ u.rec? i = some { n with rev := satAdd 4294967295 s.book.rev 1 } ∧
    u.recHandle i = s.recHandle i ∧ sameOtherRecords i s u ∧ u.book.rev = satAdd 4294967295 s.book.rev 2 ∧
    roomFollows s u room ∧ sameBut ([.records, .revision, .orders, .load] ++ displayParts) s u := by
  have hchange := changeRec_sameBut s i n
  have hcreate := createOrder_sameBut (s.changeRec i n) j p b q m
  have hroom := roomChanged_sameBut ((s.changeRec i n).createOrder j p b q m) room
  obtain ⟨hchanged, -, hload⟩ := createOrder_spec (s.changeRec i n) j p b q m
  obtain ⟨horder, hothers, hrev⟩ := hchanged.after hroom (by decide)
  have hrev2 : satAdd 4294967295 (s.changeRec i n).book.rev 1 = satAdd 4294967295 s.book.rev 2 := satAdd_satAdd _ _ _ _
  obtain ⟨hrec, hhandle, hrecOthers⟩ := changeRec_after (sameBut_trans
    (sameBut_mono (m := [.orders, .revision, .load] ++ displayParts) (by decide) hcreate)
    (sameBut_mono (by decide) hroom)) (by decide)
  have hbefore : sameBut [.records, .revision, .orders, .load] s ((s.changeRec i n).createOrder j p b q m) :=
    sameBut_trans (sameBut_mono (by decide) hchange) (sameBut_mono (by decide) hcreate)
  rw [hu]
  refine ⟨by rw [horder, hrev2], hothers, fun k g hg => ?_, hrec, hhandle, hrecOthers, hrev.trans hrev2,
    roomFollows_roomChanged room hbefore (by decide),
    sameBut_trans (sameBut_mono (by decide) hbefore) (sameBut_mono (by decide) hroom)⟩
  rw [loadEntry_of_sameBut hroom (by decide), hload k g hg, loadEntry_of_sameBut hchange (by decide)]

/-! ### CATER_CHANGE -/

theorem withoutShares_setPort (s : State) (p : Port) (a : AgentPort) (o : Order) :
    (s.setPort p a).withoutShares o = (s.withoutShares o).setPort p a := by
  unfold State.withoutShares
  generalize o.shares = l
  induction l generalizing s with
  | nil => rfl
  | cons w l ih =>
    have hsub : State.subShare o.kitchen (s.setPort p a) w = (State.subShare o.kitchen s w).setPort p a := by
      unfold State.subShare
      split <;> rfl
    rw [List.foldl_cons, List.foldl_cons, hsub]
    exact ih (State.subShare o.kitchen s w)

/-- The test of a re-admission does not look at the ports (R147). -/
theorem readmission_taking (s : State) (p : Port) (tag : Byte) (cmd : Command) (o : Order) (room : Nat) (start : Int)
    (q : CaterRequest) : (s.taking p tag cmd).readmission o room start q =
      (s.withoutShares o).admission false room start q := by
  unfold State.readmission State.taking
  rw [withoutShares_setPort]
  exact admission_setPort _ _ _ _ _ _ _

theorem runCaterChange_of_named {s : State} {p : Port} {h : Handle} {o : Order} {a : CaterChangeArgs}
    (hc : s.changeCheck p .cater = none) (hi : h.index ≤ 511) (ha : s.caterChangeOut a = false)
    (hn : Pool.named? s.plan.orders h = some o) : runCaterChange p h o.rev a s =
      if o.state ≠ .accepted then refuse s .state
      else match s.orderPlace o with
        | none => refuse s .state
        | some r => match s.readmission o r.room r.startMinute (changedRequest o a) with
          | .error e => refuse s e.code e.payload
          | .ok m =>
            accept ((s.applyReadmission h.index o (changedRequest o a) m).orderRoomChanged o.booking)
              (changedPayload s o (readmittedOrder o (changedRequest o a) m)) m.clamped := by
  have hout : orderIndexOut h = false := decide_eq_false (by omega)
  unfold runCaterChange
  rw [hc, hout, ha]
  exact withOrder_of_named _ hn

/-- A passing re-admission that changes an item (R147, R150). -/
theorem applyReadmission_spec {s : State} {j : Nat} {o : Order} {q : CaterRequest} {m : Admission}
    (hne : admittedOrder o q m ≠ o) :
    OrderChanged s (s.applyReadmission j o q m) j (admittedOrder o q m) ∧
    Pool.handle (s.applyReadmission j o q m).plan.orders j = Pool.handle s.plan.orders j ∧
    (∀ k g, g < Config.windowCount → ((s.applyReadmission j o q m).loadEntry k g).load =
      (s.loadEntry k g).load - o.shareIn k g + (admittedOrder o q m).shareIn k g) ∧
    sameBut ([.orders, .revision, .load] ++ noticeParts) s (s.applyReadmission j o q m) := by
  have happly : s.applyReadmission j o q m = ((s.moveLoad o.kitchen o.shares m.kitchen
      (sharesOf m.load m.lead m.last)).changeOrder j (admittedOrder o q m)).announceAllOver s.overBefore := if_neg hne
  obtain ⟨t, ht⟩ : ∃ t, t = s.moveLoad o.kitchen o.shares m.kitchen (sharesOf m.load m.lead m.last) := ⟨_, rfl⟩
  have hmove : sameBut [.load] s t := by rw [ht]; exact moveLoad_sameBut _ _ _ _ _
  have hchange := changeOrder_sameBut t j (admittedOrder o q m)
  have hover := announceAllOver_sameBut (t.changeOrder j (admittedOrder o q m)) s.overBefore
  rw [happly, ← ht]
  have hord := orders_of_sameBut hmove (by decide)
  have hrev := rev_of_sameBut hmove (by decide)
  obtain ⟨h1, h2, h3⟩ := (orderChanged_changeOrder t j (admittedOrder o q m)).after hover (by decide)
  rw [hrev] at h1 h3
  refine ⟨⟨h1, fun i hi => (h2 i hi).trans (by rw [hord]), h3⟩, ?_, fun k g hg => ?_, ?_⟩
  · rw [orders_of_sameBut hover (by decide), orderHandle_changeOrder, hord]
  · have hload := load_moveLoad s o m.kitchen (sharesOf m.load m.lead m.last) (k := k) hg
    rw [loadEntry_of_sameBut hover (by decide), loadEntry_of_sameBut hchange (by decide), ht, hload]
    rfl
  · exact sameBut_trans (sameBut_mono (by decide) hmove) (sameBut_trans (sameBut_mono (by decide) hchange)
      (sameBut_mono (by decide) hover))

theorem orderPlace_of_named {s : State} {o : Order} {b : Handle} {r : Rec} (hb : o.booking = some b)
    (hn : Pool.named? s.book.pool b = some r) : s.orderPlace o = some r := by
  unfold State.orderPlace
  rw [hb]
  exact hn

/-- An order changed, and the display of its booking's room computed again (R123, R156). -/
theorem orderRoomChanged_spec {l : List Part} {s t : State} {j : Nat} {n : Order} {b : Handle} {r : Rec}
    {k : Option Handle} (h : OrderChanged s t j n) (hst : sameBut l s t) (hl : ∀ x ∈ [Part.records, .displayRevs,
      .displays, .rooms, .clock, .locations, .chains], x ∉ l)
    (hk : k = some b) (hn : Pool.named? s.book.pool b = some r) :
    t.orderRoomChanged k = t.recompute r.room ∧ OrderChanged s (t.orderRoomChanged k) j n ∧
    sameBut (l ++ [.displayRevs, .displays]) s (t.orderRoomChanged k) := by
  have hpool := pool_of_sameBut hst (hl _ (by decide))
  have heq := orderRoomChanged_of_named (t := t) hk (by rw [hpool]; exact hn)
  have hre := recompute_sameBut t r.room
  rw [heq]
  exact ⟨rfl, h.after hre (by decide), sameBut_trans (sameBut_mono (List.subset_append_left _ _) hst)
    (sameBut_mono (List.subset_append_right _ _) hre)⟩

/-! ### CATER_CANCEL and CATER_DELIVERED -/

theorem runCaterCancel_of_named {s : State} {p : Port} {h : Handle} {o : Order} (hc : s.changeCheck p .cater = none)
    (hi : h.index ≤ 511) (hn : Pool.named? s.plan.orders h = some o) : runCaterCancel p h o.rev s =
      match o.state with
      | .accepted => s.cancelAccepted p h o
      | .preparing | .dispatched =>
        accept ((s.forfeitOrder h.index o false .caterCancel (.port p)).orderRoomChanged o.booking)
          (.cancelled s.advanceRev.book.rev none)
      | .delivered | .forfeit => refuse s .state := by
  have hout : orderIndexOut h = false := decide_eq_false (by omega)
  unfold runCaterCancel
  rw [hc, hout]
  refine (withOrder_of_named _ hn).trans ?_
  cases o.state <;> rfl

theorem runCaterDelivered_of_named {s : State} {p : Port} {h : Handle} {o : Order} (hc : s.changeCheck p .cater = none)
    (hi : h.index ≤ 511) (hn : Pool.named? s.plan.orders h = some o) : runCaterDelivered p h o.rev s =
      if o.state = .preparing ∨ o.state = .dispatched then
        accept ((s.deliverOrder h.index o).orderRoomChanged o.booking) (.revision s.advanceRev.book.rev)
      else refuse s .state := by
  have hout : orderIndexOut h = false := decide_eq_false (by omega)
  unfold runCaterDelivered
  rw [hc, hout]
  refine (withOrder_of_named _ hn).trans ?_
  cases o.state <;> rfl

/-- A withdrawal by CATER_CANCEL, with the booking's link cleared in a change of its own (R156, R160). -/
theorem cancelWithdraw_spec {s : State} {p : Port} {h b : Handle} {o : Order} {r : Rec}
    (hh : Pool.named? s.plan.orders h = some o) (hb : o.booking = some b) (hn : Pool.named? s.book.pool b = some r)
    {u : State} (hu : u = (s.withdrawOrder h.index o false).clearCancelledLink p o.booking) :
    Pool.entry u.plan.orders h.index = ⟨h.gen + 1, none⟩ ∧ sameOtherOrders h.index s u ∧
    u.book.ring.getLast? = some ⟨h, .order, .withdrawn, satAdd 4294967295 s.book.rev 1⟩ ∧
    (∀ k g, g < 768 → (u.loadEntry k g).load = (s.loadEntry k g).load - o.shareIn k g) ∧
    u.rec? b.index = some { r with order := none, rev := satAdd 4294967295 s.book.rev 2 } ∧
    sameOtherRecords b.index s u ∧ u.book.rev = satAdd 4294967295 s.book.rev 2 ∧ displayFollows s u r.room ∧
    sameBut (orderParts ++ [.records, .displayRevs, .displays]) s u := by
  obtain ⟨hhandle, hgen, -⟩ := Pool.handle_of_named? hh
  obtain ⟨t, ht⟩ : ∃ t, t = s.withdrawOrder h.index o false := ⟨_, rfl⟩
  obtain ⟨w1, w2, w3, w4, w5⟩ := withdrawOrder_spec s h.index o false
  have hw := withdrawOrder_sameBut s h.index o false
  rw [← ht] at w1 w2 w3 w4 w5 hw
  rw [hgen] at w1
  rw [hhandle] at w4
  have hpool := pool_of_sameBut hw (by decide)
  obtain ⟨v, hv⟩ : ∃ v, v = (t.changeRec b.index { r with order := none }).raiseChanged b r.owner (.port p) .caterCancel
    [] := ⟨_, rfl⟩
  have hlink : u = v.recompute r.room := by
    have hbind : o.booking.bind (fun h => (Pool.named? t.book.pool h).map (fun b => (h, b))) = some (b, r) := by
      rw [hb, Option.bind_some, hpool, hn]
      rfl
    rw [hu, ← ht, hv]
    unfold State.clearCancelledLink
    rw [hbind]
  have hchange := changeRec_sameBut t b.index { r with order := none }
  have hraise : sameBut noticeParts (t.changeRec b.index { r with order := none }) v := by
    rw [hv]
    exact raiseChanged_sameBut _ _ _ _ _ _
  have hre := recompute_sameBut v r.room
  have hafter := sameBut_trans (sameBut_mono (m := noticeParts ++ [.displayRevs, .displays]) (by decide) hraise)
    (sameBut_mono (by decide) hre)
  have htu := sameBut_trans (sameBut_mono (m := [.records, .revision, .displayRevs, .displays] ++ noticeParts)
    (by decide) hchange) (sameBut_mono (by decide) hafter)
  have hbefore : sameBut (orderParts ++ [.records]) s v := sameBut_trans (sameBut_mono (by decide) hw)
    (sameBut_trans (sameBut_mono (by decide) hchange) (sameBut_mono (by decide) hraise))
  have hrev2 : satAdd 4294967295 t.book.rev 1 = satAdd 4294967295 s.book.rev 2 := by rw [w3, satAdd_satAdd]
  obtain ⟨hrec, -, hothers⟩ := changeRec_after hafter (by decide)
  have horders := orders_of_sameBut htu (by decide)
  rw [hlink]
  refine ⟨by rw [horders]; exact w1, fun i hi => by rw [horders]; exact w2 i hi, ?_, fun k g hg => ?_, ?_,
    fun i hi => (hothers i hi).trans (by rw [hpool]), ?_,
    displayFollows_recompute (State.shownAlike_of_sameBut hbefore r.room (by decide)),
    sameBut_trans (sameBut_mono (by decide) hbefore) (sameBut_mono (by decide) hre)⟩
  · exact (congrArg List.getLast? (htu .ring (by decide)).1).trans w4
  · rw [loadEntry_of_sameBut htu (by decide)]
    exact w5 k g hg
  · rw [hrec, hrev2]
  · exact (rev_of_sameBut hafter (by decide)).trans hrev2

/-- R45, R157: a HOLD with catering in a free padded interval. -/
theorem runHold_of_catered {s : State} {p : Port} {tag : Byte} {a : HoldArgs} {q : CaterRequest} {i : Nat}
    (hc : s.changeCheck p .sched = none) (hroom : a.room ≤ 159) (hplane : a.plane ≤ 7) (hstart : a.start ≤ 1439)
    (hstop : a.stop ≤ 1440) (hlt : a.start / 5 < (a.stop + 4) / 5) (hlen : (a.stop + 4) / 5 - a.start / 5 ≤ 144)
    (h1 : 1 ≤ a.attendees) (h400 : a.attendees ≤ 400) (h255 : a.holdMinutes ≤ 255) (hcater : a.cater = some q)
    (hq : s.requestOut q = false) (hd : (a.plane : Int) * 1440 + 5 * ((a.start / 5 : Nat) : Int) + q.offset ≤ 11519)
    (ho : (s.room a.room).isOpen = true) (hp : ¬ (a.plane = 0 ∧ a.start / 5 < s.currentSlot))
    (hs : a.attendees ≤ (s.room a.room).seats)
    (hfree : s.freeRun a.room a.plane (a.start / 5 - (s.room a.room).setup)
      (min ((a.stop + 4) / 5 + (s.room a.room).clear) 288) none)
    (hi : isLowestFree s.book.pool 2048 i) : runHold p tag a s = placeHold p a i s := by
  have hout : s.holdOut a = false := holdOut_of_ranges hroom hplane hstart hstop hlt hlen h1 h400 h255 (fun q' hq' => by
    rw [hcater] at hq'
    rw [← Option.some.inj hq']
    exact ⟨hq, hd⟩)
  have hconflict : s.holdConflict a = none := State.firstConflict_eq_none.mpr hfree
  have hlow : Pool.lowestFree s.book.pool Config.bookCap = some i := (Pool.lowestFree_iff _ _ _).mpr hi
  rw [runHold_of_placeable hc hout ho hp hs, hconflict]
  dsimp only
  rw [hlow]

/-- R159: a CATER_CHANGE of an ACCEPTED order. -/
theorem caterChange_settled (p : Port) (tag : Byte) (h : Handle) (o : Order) (b : Handle) (r : Rec) (a : CaterChangeArgs)
    (q : CaterRequest) (s : State) (hready : s.ready p (.caterChange h o.rev a)) (hi : h.index ≤ 511)
    (ha : s.caterChangeOut a = false) (hn : Pool.named? s.plan.orders h = some o) (hb : o.booking = some b)
    (hr : Pool.named? s.book.pool b = some r)
    (hq : q = { kitchen := a.kitchen.getD (.kitchen o.kitchen), cls := a.cls.getD o.cls
                covers := a.covers.getD o.covers, offset := a.offset.getD o.offset }) :
    (o.state ≠ .accepted → exec (.caterChange p tag h o.rev a) s =
      .next ((s.taking p tag (.caterChange h o.rev a)).placed p tag (Reply.refusal .state))) ∧
    (∀ k g, o.state = .accepted →
      (s.withoutShares o).admission false r.room r.startMinute q = .error (.kitchenFull k g) →
      exec (.caterChange p tag h o.rev a) s = .next ((s.taking p tag (.caterChange h o.rev a)).placed p tag
        (Reply.refusalWith .kitchenFull (.kitchenFull k g)))) ∧
    (∀ m, o.state = .accepted → (s.withoutShares o).admission false r.room r.startMinute q = .ok m →
      admittedOrder o q m ≠ o →
      ∃ u, exec (.caterChange p tag h o.rev a) s = .next (u.placed p tag
          { code := .ok, clamped := m.clamped
            payload := .changed (satAdd 4294967295 s.book.rev 1) m.kitchen m.covers m.cutoff m.dispatch
              m.delivery }) ∧
        u.order? h.index = some { admittedOrder o q m with rev := satAdd 4294967295 s.book.rev 1 } ∧
        Pool.handle u.plan.orders h.index = h ∧ sameOtherOrders h.index s u ∧
        (∀ k g, g < 768 → (u.loadEntry k g).load =
          (s.loadEntry k g).load - o.shareIn k g + (admittedOrder o q m).shareIn k g) ∧
        u.book.rev = satAdd 4294967295 s.book.rev 1 ∧ displayFollows s u r.room ∧
        sameBut ([.orders, .revision, .load, .displayRevs, .displays] ++ noticeParts)
          (s.taking p tag (.caterChange h o.rev a)) u) := by
  obtain ⟨hhandle, -, -⟩ := Pool.handle_of_named? hn
  have hplace := orderPlace_of_named (s := s.taking p tag (.caterChange h o.rev a)) hb hr
  have hrun := runCaterChange_of_named (s := s.taking p tag (.caterChange h o.rev a)) (changeCheck_of_ready hready rfl rfl)
    hi ha hn
  have hreq : changedRequest o a = q := hq.symm
  rw [hplace, hreq] at hrun
  refine ⟨fun hs => exec_of_run rfl hready.1 (hrun.trans (if_pos hs)), fun k g hs hfull => ?_, fun m hs hok hne => ?_⟩
  · rw [if_neg (not_not.mpr hs)] at hrun
    dsimp only at hrun
    rw [(readmission_taking _ _ _ _ _ _ _ _).trans hfull] at hrun
    exact exec_of_run rfl hready.1 hrun
  · rw [if_neg (not_not.mpr hs)] at hrun
    dsimp only at hrun
    rw [(readmission_taking _ _ _ _ _ _ _ _).trans hok] at hrun
    dsimp only at hrun
    have hpayload : changedPayload (s.taking p tag (.caterChange h o.rev a)) o (readmittedOrder o q m) =
        .changed (satAdd 4294967295 s.book.rev 1) m.kitchen m.covers m.cutoff m.dispatch m.delivery := if_neg hne
    rw [hpayload] at hrun
    obtain ⟨hchanged, hsame, hload, hframe⟩ := applyReadmission_spec (s := s.taking p tag (.caterChange h o.rev a))
      (j := h.index) hne
    obtain ⟨heq, ⟨h1, h2, h3⟩, hframe'⟩ := orderRoomChanged_spec hchanged hframe (by decide) hb hr
    have hre := recompute_sameBut ((s.taking p tag (.caterChange h o.rev a)).applyReadmission h.index o q m) r.room
    rw [heq] at h1 h2 h3 hframe' hrun
    refine ⟨_, exec_of_run rfl hready.1 hrun, h1, ?_, h2, fun k g hg => ?_, h3, ?_, sameBut_mono (by decide) hframe'⟩
    · rw [orders_of_sameBut hre (by decide), hsame]
      exact hhandle
    · rw [loadEntry_of_sameBut hre (by decide)]
      exact hload k g hg
    · exact displayFollows_recompute (s := s.taking p tag (.caterChange h o.rev a))
        (State.shownAlike_of_sameBut hframe r.room (by decide))

theorem deliverOrder_changed (s : State) (j : Nat) (o : Order) :
    OrderChanged s (s.deliverOrder j o) j { o with state := .delivered, deadline := none } :=
  orderChanged_changeOrder _ _ _

/-- Settles O49. -/
theorem orderCommands : Obligations.OrderCommands := by
  unfold Obligations.OrderCommands
  refine ⟨?order, ?hold, fun p tag h o b r a q s hready hi ha hn hb hr hq =>
    caterChange_settled p tag h o b r a q s hready hi ha hn hb hr hq, ?cancel, ?delivered⟩
  case order =>
    intro p tag h r q s hready hi hq hn hk
    obtain ⟨hlinked, hfails, hordered⟩ := caterOrder_settled p tag h r q s hready hi hq hn hk
    refine ⟨hlinked, fun e ho ha => ?_, fun m j o ho ha hj hdef => ?_⟩
    · refine (hfails e ho ha).trans ?_
      cases e <;> rfl
    · subst hdef
      obtain ⟨h1, h2, h3, h4, h5, h6, h7, h8, h9, h10, h11⟩ := attachOrder_spec
        (s := s.taking p tag (.caterOrder h r.rev q)) (p := p) hn j q m
      exact ⟨_, hordered m j ho ha hj, h1, h2, h3, h4, h5, h6, h7, h8, h9, h10, h11⟩
  case hold =>
    rintro p tag a q s _ _ i hready hroom hplane hstart hstop rfl rfl hlt hlen h1 h400 h255 hcater hq hd ho hp hs hfree hi
    have hrun := runHold_of_catered (s := s.taking p tag (.hold a)) (tag := tag) (changeCheck_of_ready hready rfl rfl)
      hroom hplane hstart hstop hlt hlen h1 h400 h255 hcater hq hd ho hp hs hfree hi
    refine ⟨fun e ha => ?_, fun m j o ha hj hdef => ?_⟩
    · rw [placeHold_refused i hcater ((admission_taking _ _ _ _ _ _ _ _).trans ha), refuse_admission] at hrun
      exact exec_of_run rfl hready.1 hrun
    · subst hdef
      rw [placeHold_ordered i hcater ((admission_taking _ _ _ _ _ _ _ _).trans ha) ((Pool.lowestFree_iff _ _ _).mpr hj)]
        at hrun
      obtain ⟨h1, h2, h3, h4, h5, h6, h7, h8, h9⟩ := heldOrder_spec (s.taking p tag (.hold a)) i j
        (heldRec (s.taking p tag (.hold a)) p a (some (Pool.handle s.plan.orders j))) p (s.recHandle i) q m a.room rfl
      refine ⟨_, _, exec_of_run rfl hready.1 hrun, h1, h2, h3, ⟨_, h4, rfl, rfl, rfl, rfl, rfl, rfl, rfl, ?_⟩, h5, h6, h7,
        h8, h9⟩
      rw [satAdd_satAdd]
      rfl
  case cancel =>
    intro p tag h o b r s hready hi hn hb hr
    obtain ⟨hhandle, -, -⟩ := Pool.handle_of_named? hn
    have hrun := runCaterCancel_of_named (s := s.taking p tag (.caterCancel h o.rev)) (p := p)
      (changeCheck_of_ready hready rfl rfl) hi hn
    refine ⟨fun hs => ?_, fun hs => ?_, fun hs => ?_⟩
    · have hplace := orderPlace_of_named (s := s.taking p tag (.caterCancel h o.rev)) hb hr
      rw [hs] at hrun
      dsimp only at hrun
      unfold State.cancelAccepted at hrun
      rw [hplace] at hrun
      have hrev2 : (s.taking p tag (.caterCancel h o.rev)).advanceRev.advanceRev.book.rev =
          satAdd 4294967295 s.book.rev 2 := satAdd_satAdd _ _ _ _
      rw [Option.map_some, hrev2] at hrun
      exact ⟨_, exec_of_run rfl hready.1 hrun, cancelWithdraw_spec (s := s.taking p tag (.caterCancel h o.rev)) hn hb hr rfl⟩
    · have hrun' : runCaterCancel p h o.rev (s.taking p tag (.caterCancel h o.rev)) =
          accept (((s.taking p tag (.caterCancel h o.rev)).forfeitOrder h.index o false .caterCancel
            (.port p)).orderRoomChanged o.booking) (.cancelled (satAdd 4294967295 s.book.rev 1) none) := by
        rcases hs with hs | hs <;> (rw [hs] at hrun; exact hrun)
      obtain ⟨f1, f2, f3, f4⟩ := forfeitOrder_spec (s.taking p tag (.caterCancel h o.rev)) h.index o false .caterCancel
        (.port p)
      have hframe : sameBut ([.orders, .revision] ++ noticeParts) (s.taking p tag (.caterCancel h o.rev))
          ((s.taking p tag (.caterCancel h o.rev)).forfeitOrder h.index o false .caterCancel (.port p)) :=
        sameBut_trans (sameBut_mono (by decide) (changeOrder_sameBut _ _ _)) (sameBut_mono (by decide) (raise_sameBut _ _))
      have hchanged : OrderChanged (s.taking p tag (.caterCancel h o.rev))
          ((s.taking p tag (.caterCancel h o.rev)).forfeitOrder h.index o false .caterCancel (.port p)) h.index
          { o with state := .forfeit, deadline := none } := ⟨f1, f2, f3⟩
      obtain ⟨heq, ⟨h1, h2, h3⟩, hframe'⟩ := orderRoomChanged_spec hchanged hframe (by decide) hb hr
      rw [heq] at h1 h2 h3 hframe' hrun'
      refine ⟨_, exec_of_run rfl hready.1 hrun', h1, h2, h3, ?_, ?_, sameBut_mono (by decide) hframe'⟩
      · exact displayFollows_recompute (s := s.taking p tag (.caterCancel h o.rev))
          (State.shownAlike_of_sameBut hframe r.room (by decide))
      · rw [recompute_ports, f4, hb]
        exact congrArg (fun k => (s.taking p tag (.caterCancel h o.rev)).portsAfter (satAdd 4294967295 s.book.rev 1)
          { kind := .caterForfeit, subject := .order k, owner := some o.placing, hi := .cause .caterCancel
            lo := .actor (.port p), data := [.booking (some b)] }) hhandle
    · have hrun' : runCaterCancel p h o.rev (s.taking p tag (.caterCancel h o.rev)) =
          refuse (s.taking p tag (.caterCancel h o.rev)) .state := by
        rcases hs with hs | hs <;> (rw [hs] at hrun; exact hrun)
      exact exec_of_run rfl hready.1 hrun'
  case delivered =>
    intro p tag h o b r s hready hi hn hb hr
    have hrun := runCaterDelivered_of_named (s := s.taking p tag (.caterDelivered h o.rev)) (p := p)
      (changeCheck_of_ready hready rfl rfl) hi hn
    refine ⟨fun hs => ?_, fun hp hd => exec_of_run rfl hready.1 (hrun.trans (if_neg fun hs => hs.elim hp hd))⟩
    rw [if_pos hs] at hrun
    have hframe : sameBut [.orders, .revision] (s.taking p tag (.caterDelivered h o.rev))
        ((s.taking p tag (.caterDelivered h o.rev)).deliverOrder h.index o) := deliverOrder_sameBut _ _ _
    obtain ⟨heq, ⟨h1, h2, h3⟩, hframe'⟩ := orderRoomChanged_spec
      (deliverOrder_changed (s.taking p tag (.caterDelivered h o.rev)) h.index o) hframe (by decide) hb hr
    rw [heq] at h1 h2 h3 hframe' hrun
    refine ⟨_, exec_of_run rfl hready.1 hrun, h1, h2, h3, ?_, sameBut_mono (by decide) hframe'⟩
    exact displayFollows_recompute (s := s.taking p tag (.caterDelivered h o.rev))
      (State.shownAlike_of_sameBut hframe r.room (by decide))

end Sys2Proof.Machine
end

section
/-! SUPPORT. A minute advance that owes nothing and finds no sensor check-in (O23). -/

namespace Sys2Proof.Machine

/-! ### What falls due -/

/-- Nothing has fallen due: no deadline, expiry or display deadline is marked (R13). -/
theorem notDue_of_outstanding {s : State} (h : s.outstanding = []) :
    (∀ i r, s.rec? i = some r → r.deadline.due = false) ∧
    (∀ j o d, s.order? j = some o → o.deadline = some d → d.due = false) ∧
    (∀ w e, s.waitEntry? w = some e → e.due = false) ∧
    ∀ room d, (s.display room).deadline = some d → d.due = false := by
  unfold State.outstanding at h
  simp only [List.append_eq_nil_iff, List.map_eq_nil_iff, List.filter_eq_nil_iff] at h
  obtain ⟨⟨⟨⟨hrecs, horders⟩, hentries⟩, -⟩, hdisplays⟩ := h
  refine ⟨fun i r hr => ?_, fun j o d ho hd => ?_, fun w e he => ?_, fun room d hd => ?_⟩
  · exact Bool.eq_false_iff.mpr (hrecs _ (State.mem_liveRecs_of_rec? hr))
  · have hno := horders _ (Pool.mem_live_of_item? ho)
    rw [hd] at hno
    exact Bool.eq_false_iff.mpr hno
  · exact Bool.eq_false_iff.mpr (hentries _ (Pool.mem_live_of_item? he))
  · have hmem : (room, s.display room) ∈ s.link.displays := Table.mem_of_read (fun hc => by
      have hcold : s.display room = Display.cold := hc
      rw [hcold] at hd
      cases hd)
    have hno := hdisplays _ hmem
    rw [hd] at hno
    exact Bool.eq_false_iff.mpr hno

theorem Rec.markDue_of_not_due {r : Rec} (h : r.deadline.due = false) (now : Int) : r.markDue now =
    { r with deadline := { r.deadline with due := decide (r.deadline.minute ≤ now) } } := by
  unfold Rec.markDue
  by_cases hle : r.deadline.minute ≤ now
  · rw [if_pos hle, decide_eq_true hle]
  · rw [if_neg hle, decide_eq_false hle, ← h]

theorem Order.markDue_of_not_due {o : Order} (h : ∀ d, o.deadline = some d → d.due = false) (now : Int) :
    o.markDue now = { o with deadline := o.deadline.map (fun d => { d with due := decide (d.minute ≤ now) }) } := by
  unfold Order.markDue
  cases hd : o.deadline with
  | none => rfl
  | some d =>
    have hdue := h d hd
    rw [Option.map_some, Option.map_some]
    by_cases hle : d.minute ≤ now
    · rw [if_pos hle, decide_eq_true hle]
    · rw [if_neg hle, decide_eq_false hle, ← hdue]

theorem WaitEntry.markDue_of_not_due {e : WaitEntry} (h : e.due = false) (now : Int) :
    e.markDue now = { e with due := decide (e.expiry ≤ now) } := by
  unfold WaitEntry.markDue
  by_cases hle : e.expiry ≤ now
  · rw [if_pos hle, decide_eq_true hle]
  · rw [if_neg hle, decide_eq_false hle, ← h]

theorem Display.markDue_of_not_due {v : Display} (h : ∀ d, v.deadline = some d → d.due = false) (now : Int) :
    v.markDue now = { v with deadline := v.deadline.map (fun d => { d with due := decide (d.minute ≤ now) }) } := by
  unfold Display.markDue
  cases hd : v.deadline with
  | none => rfl
  | some d =>
    have hdue := h d hd
    rw [Option.map_some, Option.map_some]
    by_cases hle : d.minute ≤ now
    · rw [if_pos hle, decide_eq_true hle]
    · rw [if_neg hle, decide_eq_false hle, ← hdue]

/-- What a minute advance marks, entry by entry (R13). -/
theorem markAllDue_spec (s : State) :
    (∀ i, s.markAllDue.rec? i = (s.rec? i).map (Rec.markDue s.now)) ∧
    (∀ j, s.markAllDue.order? j = (s.order? j).map (Order.markDue s.now)) ∧
    (∀ w, s.markAllDue.waitEntry? w = (s.waitEntry? w).map (WaitEntry.markDue s.now)) ∧
    ∀ room, s.markAllDue.display room = (s.display room).markDue s.now := by
  refine ⟨fun i => Pool.item?_mapLive _ _ _, fun j => Pool.item?_mapLive _ _ _, fun w => Pool.item?_mapLive _ _ _,
    fun room => ?_⟩
  have hlook : Table.look? s.markAllDue.link.displays room =
      (Table.look? s.link.displays room).map (Display.markDue s.now) := Table.look?_map _ _ _
  unfold State.display Table.read
  rw [hlook]
  cases Table.look? s.link.displays room <;> rfl

/-! ### The vacancy timers -/

theorem vacancyTick_eq (s : State) (room : Nat) : s.vacancyTick room =
    if s.vacancySubject room = (s.vacancy room).subject then
      match (s.vacancy room).subject with
      | none => s
      | some h => s.setVacancy room ⟨some h, s.vacancyMinutes room⟩
    else s.setVacancy room ⟨s.vacancySubject room, 0⟩ := rfl

/-- The timer of a room whose subject stays (R93). -/
theorem vacancyTick_same {s : State} {room : Nat} {h : Handle} (hs : (s.vacancy room).subject = some h)
    (ht : ((s.vacancyTick room).vacancy room).subject = some h) :
    ((s.vacancyTick room).vacancy room).minutes = s.vacancyMinutes room := by
  rw [vacancyTick_eq] at ht ⊢
  by_cases hsubject : s.vacancySubject room = (s.vacancy room).subject
  · rw [if_pos hsubject, hs]
    dsimp only
    rw [vacancy_setVacancy, if_pos rfl]
  · rw [if_neg hsubject, vacancy_setVacancy, if_pos rfl] at ht
    exact absurd (Eq.trans ht hs.symm) hsubject

theorem vacancyTick_other (s : State) {room q : Nat} (hq : q ≠ room) : (s.vacancyTick room).vacancy q = s.vacancy q := by
  rw [vacancyTick_eq]
  split
  · split
    · rfl
    · rw [vacancy_setVacancy, if_neg hq]
  · rw [vacancy_setVacancy, if_neg hq]

theorem options_of_settings {r q : Room} (h : r.settings = q.settings) : r.options = q.options := by
  change r.settings.options = q.settings.options
  rw [h]

theorem vacancyMinutes_congr {s t : State} {room : Nat} (h : sameBut [.vacancy] s t)
    (hv : t.vacancy room = s.vacancy room) : t.vacancyMinutes room = s.vacancyMinutes room := by
  have hoptions : (t.room room).options = (s.room room).options :=
    options_of_settings (settings_of_sameBut h (by decide) room)
  unfold State.vacancyMinutes
  rw [hoptions, State.linkedPosition?_of_sameBut h (by decide) (by decide), hv]

/-- The timers of some rooms run, each once (R93). -/
theorem vacancyTicks_spec (l : List Nat) (hl : l.Nodup) (s : State) :
    (∀ q, q ∉ l → (l.foldl State.vacancyTick s).vacancy q = s.vacancy q) ∧
    ∀ room h, room ∈ l → (s.vacancy room).subject = some h →
      ((l.foldl State.vacancyTick s).vacancy room).subject = some h →
      ((l.foldl State.vacancyTick s).vacancy room).minutes = s.vacancyMinutes room := by
  induction l generalizing s with
  | nil => exact ⟨fun _ _ => rfl, fun _ _ h => absurd h List.not_mem_nil⟩
  | cons r l ih =>
    obtain ⟨hnot, hnodup⟩ := List.nodup_cons.mp hl
    obtain ⟨hother, hown⟩ := ih hnodup (s.vacancyTick r)
    rw [List.foldl_cons]
    refine ⟨fun q hq => ?_, fun room h hroom hs ht => ?_⟩
    · rw [List.mem_cons, not_or] at hq
      rw [hother q hq.2, vacancyTick_other s hq.1]
    · by_cases hr : room = r
      · subst hr
        rw [hother room hnot] at ht ⊢
        exact vacancyTick_same hs ht
      · have hv := vacancyTick_other s hr
        rw [← vacancyMinutes_congr (vacancyTick_sameBut s r) hv]
        exact hown room h ((List.mem_cons.mp hroom).resolve_left hr) (by rw [hv]; exact hs) ht

/-! ### A minute advance without sensor check-in -/

theorem sensorTestAtAdvance_of_off {s : State} {room : Nat} (h : (s.room room).options.sensorCheckin = false) :
    s.sensorTestAtAdvance room = s := by
  refine if_neg ?_
  unfold State.sensorReady
  rw [h, Bool.and_false, Bool.false_and, Bool.false_and]
  decide

/-- Where no room has sensor check-in, a minute advance marks what falls due and runs the vacancy timers (R13, R80). -/
theorem advanceEffects_of_off {s : State} (h : ∀ r, (s.room r).options.sensorCheckin = false) :
    s.advanceEffects = roomNumbers.foldl State.vacancyTick s.markAllDue := by
  have hticks : sameBut [.vacancy] s.markAllDue (roomNumbers.foldl State.vacancyTick s.markAllDue) :=
    sameBut_foldl vacancyTick_sameBut roomNumbers _
  have hoff : ∀ r, ((roomNumbers.foldl State.vacancyTick s.markAllDue).room r).options.sensorCheckin = false := by
    intro r
    have hoptions : ((roomNumbers.foldl State.vacancyTick s.markAllDue).room r).options = (s.room r).options :=
      (options_of_settings (settings_of_sameBut hticks (by decide) r)).trans
        (options_of_settings (settings_of_sameBut (markAllDue_sameBut s) (by decide) r))
    rw [hoptions]
    exact h r
  have hfold : ∀ (l : List Nat) (t : State), (∀ r, (t.room r).options.sensorCheckin = false) →
      l.foldl State.sensorTestAtAdvance t = t := by
    intro l
    induction l with
    | nil => exact fun _ _ => rfl
    | cons r l ih =>
      intro t ht
      rw [List.foldl_cons, sensorTestAtAdvance_of_off (ht r)]
      exact ih t ht
  exact hfold roomNumbers _ hoff

/-- What such an advance leaves, from a state in which nothing was marked (R13, R93). -/
theorem advanceEffects_spec {s : State} (hoff : ∀ r, (s.room r).options.sensorCheckin = false)
    (hrecs : ∀ i r, s.rec? i = some r → r.deadline.due = false)
    (horders : ∀ j o d, s.order? j = some o → o.deadline = some d → d.due = false)
    (hentries : ∀ w e, s.waitEntry? w = some e → e.due = false) :
    (∀ i r, s.rec? i = some r → s.advanceEffects.rec? i = some { r with
      deadline := { r.deadline with due := decide (r.deadline.minute ≤ s.now) } }) ∧
    (∀ j o, s.order? j = some o → s.advanceEffects.order? j = some { o with
      deadline := o.deadline.map (fun d => { d with due := decide (d.minute ≤ s.now) }) }) ∧
    (∀ w e, s.waitEntry? w = some e → s.advanceEffects.waitEntry? w = some { e with
      due := decide (e.expiry ≤ s.now) }) ∧
    (∀ room, s.advanceEffects.display room = (s.display room).markDue s.now) ∧
    (∀ room h, room < 160 → (s.vacancy room).subject = some h → (s.advanceEffects.vacancy room).subject = some h →
      (s.advanceEffects.vacancy room).minutes = s.vacancyMinutes room) ∧
    sameBut [.records, .orders, .waitlist, .displays, .vacancy] s s.advanceEffects := by
  obtain ⟨hrec, horder, hentry, hdisplay⟩ := markAllDue_spec s
  have hmark := markAllDue_sameBut s
  have hticks : sameBut [.vacancy] s.markAllDue s.advanceEffects := by
    rw [advanceEffects_of_off hoff]
    exact sameBut_foldl vacancyTick_sameBut roomNumbers _
  have hwait : s.advanceEffects.wait = s.markAllDue.wait := hticks .waitlist (by decide)
  have hshown : s.advanceEffects.link.displays = s.markAllDue.link.displays := hticks .displays (by decide)
  refine ⟨fun i r hr => ?_, fun j o ho => ?_, fun w e he => ?_, fun room => ?_, fun room h hroom hs ht => ?_,
    sameBut_trans (sameBut_mono (by decide) hmark) (sameBut_mono (by decide) hticks)⟩
  · rw [rec?_of_sameBut hticks (by decide), hrec, hr, Option.map_some, Rec.markDue_of_not_due (hrecs i r hr)]
  · rw [order?_of_sameBut hticks (by decide), horder, ho, Option.map_some,
      Order.markDue_of_not_due fun d => horders j o d ho]
  · have hmarked := hentry w
    unfold State.waitEntry? at hmarked ⊢
    rw [hwait, hmarked]
    have he' : Pool.item? s.wait.pool w = some e := he
    rw [he', Option.map_some, WaitEntry.markDue_of_not_due (hentries w e he)]
  · have hmarked := hdisplay room
    unfold State.display at hmarked ⊢
    rw [hshown]
    exact hmarked
  · have hvacancy : s.markAllDue.vacancy room = s.vacancy room := vacancy_of_sameBut hmark (by decide) room
    have hminutes : s.markAllDue.vacancyMinutes room = s.vacancyMinutes room := by
      have hoptions : (s.markAllDue.room room).options = (s.room room).options :=
        options_of_settings (settings_of_sameBut hmark (by decide) room)
      unfold State.vacancyMinutes
      rw [hoptions, State.linkedPosition?_of_sameBut hmark (by decide) (by decide), hvacancy]
    rw [advanceEffects_of_off hoff] at ht ⊢
    rw [← hminutes]
    exact (vacancyTicks_spec roomNumbers List.nodup_range s.markAllDue).2 room h (List.mem_range.mpr hroom)
      (by rw [hvacancy]; exact hs) ht

/-! ### The subject of a vacancy timer -/

/-- A room's ARRIVED booking that covers the current slot on plane 0 (R92). -/
theorem mem_covering_iff (s : State) (room : Nat) (e : Nat × Rec) :
    (e.2.room = room && e.2.plane = 0 && e.2.kind = .booking && e.2.state = .arrived && e.2.covers s.currentSlot) = true ↔
    e.2.room = room ∧ e.2.kind = .booking ∧ e.2.state = .arrived ∧ e.2.plane = 0 ∧ e.2.start ≤ s.currentSlot ∧
      s.currentSlot < e.2.stop := by
  unfold Rec.covers
  simp only [Bool.and_eq_true, decide_eq_true_iff]
  tauto

theorem coveringArrived_of_only {s : State} {room : Nat} {e : Nat × Rec} {subject : Nat × Rec → Prop}
    (hdef : ∀ e, subject e ↔ e ∈ s.liveRecs ∧ e.2.room = room ∧ e.2.kind = .booking ∧ e.2.state = .arrived ∧
      e.2.plane = 0 ∧ e.2.start ≤ s.currentSlot ∧ s.currentSlot < e.2.stop)
    (he : subject e) (honly : ∀ f, subject f → f = e) : s.coveringArrived room = some e := by
  obtain ⟨hmem, hcover⟩ := (hdef e).mp he
  unfold State.coveringArrived
  cases hf : s.liveRecs.find? (fun e => e.2.room = room && e.2.plane = 0 && e.2.kind = .booking &&
      e.2.state = .arrived && e.2.covers s.currentSlot) with
  | none => exact absurd ((mem_covering_iff s room e).mpr hcover) (List.find?_eq_none.mp hf e hmem)
  | some f =>
    have hfound : subject f := (hdef f).mpr ⟨List.mem_of_find?_eq_some hf,
      (mem_covering_iff s room f).mp (List.find?_some hf :)⟩
    rw [honly f hfound]

theorem coveringArrived_of_none {s : State} {room : Nat} {subject : Nat × Rec → Prop}
    (hdef : ∀ e, subject e ↔ e ∈ s.liveRecs ∧ e.2.room = room ∧ e.2.kind = .booking ∧ e.2.state = .arrived ∧
      e.2.plane = 0 ∧ e.2.start ≤ s.currentSlot ∧ s.currentSlot < e.2.stop)
    (hno : ∀ e, ¬ subject e) : s.coveringArrived room = none := by
  unfold State.coveringArrived
  exact List.find?_eq_none.mpr fun e he hcover => hno e ((hdef e).mpr ⟨he, (mem_covering_iff s room e).mp hcover⟩)

/-- A subject that no longer covers the slot stays at its end minute only (R92). -/
theorem subjectKept_some_iff (s : State) (room : Nat) (h : Handle) : s.subjectKept room (some h) =
    match Pool.named? s.book.pool h with
    | none => none
    | some r => if r.room = room ∧ r.plane = 0 ∧ r.state = .arrived ∧ r.stop = s.currentSlot then some h else none := by
  unfold State.subjectKept
  dsimp only
  cases Pool.named? s.book.pool h with
  | none => rfl
  | some r =>
    refine if_congr ?_ rfl rfl
    simp only [Bool.and_eq_true, decide_eq_true_iff, and_assoc]

/-- A minute on, from a minute of the day (R13, R14). -/
theorem now_bumpMinute (s : State) : s.bumpMinute.now = (s.clock.minute : Int) + 1 := by
  unfold State.now State.nowMinute State.bumpMinute Config.dayMinutes
  dsimp only
  by_cases h : s.clock.minute + 1 = 1440
  · rw [if_pos (beq_iff_eq.mpr h)]
    omega
  · rw [if_neg (by simpa using h)]
    rfl

theorem bumpMinute_sameBut (s : State) : sameBut [.clock] s s.bumpMinute := by
  intro q hq
  cases q with
  | clock => exact absurd (by decide) hq
  | _ => first | exact rfl | exact fun _ => rfl | exact ⟨rfl, rfl⟩ | exact fun _ => ⟨rfl, rfl, rfl, rfl⟩

/-- Settles O23. -/
theorem minuteAdvanceMarksDeadlines : Obligations.MinuteAdvanceMarksDeadlines := by
  unfold Obligations.MinuteAdvanceMarksDeadlines
  refine ⟨fun s room subject hdef => ⟨fun e he honly => ?_, fun hno hs => ?_, fun h hno hs => ⟨fun r hn hroom hplane hstate
    hstop => ?_, fun hall => ?_⟩⟩, fun s room q => ?_, fun s hset _ hold hout _ hoff => ?_⟩
  · rw [State.vacancySubject_eq, coveringArrived_of_only hdef he honly]
  · rw [State.vacancySubject_eq, coveringArrived_of_none hdef hno, hs]
    rfl
  · rw [State.vacancySubject_eq, coveringArrived_of_none hdef hno, hs]
    dsimp only
    rw [subjectKept_some_iff, hn]
    exact if_pos ⟨hroom, hplane, hstate, hstop⟩
  · rw [State.vacancySubject_eq, coveringArrived_of_none hdef hno, hs]
    dsimp only
    rw [subjectKept_some_iff]
    cases hn : Pool.named? s.book.pool h with
    | none => rfl
    | some r => exact if_neg (hall r hn)
  · unfold State.linkedPosition?
    cases s.location room with
    | none => simp
    | some l =>
      dsimp only
      rw [Option.ite_none_right_eq_some]
      constructor
      · rintro ⟨hl, heq⟩
        obtain rfl := Option.some.inj heq
        exact ⟨l, rfl, rfl, hl⟩
      · rintro ⟨l', hl', rfl, hp⟩
        obtain rfl := Option.some.inj hl'
        exact ⟨hp, rfl⟩
  · obtain ⟨hrecs, horders, hentries, hdisplays⟩ := notDue_of_outstanding hout
    have hadvance : s.advanceMinute = s.bumpMinute.advanceEffects := by
      unfold State.advanceMinute
      rw [if_pos hset, settle_of_nothing hout hold]
    obtain ⟨h1, h2, h3, h4, h5, h6⟩ := advanceEffects_spec (s := s.bumpMinute) hoff hrecs horders hentries
    rw [now_bumpMinute] at h1 h2 h3 h4
    refine ⟨_, congrArg Host.Outcome.next hadvance, ?_, h1, h2, h3, fun room => ?_, fun room h hroom hs ht => ?_,
      sameBut_trans (sameBut_mono (by decide) (bumpMinute_sameBut s)) (sameBut_mono (by decide) h6)⟩
    · have hbeq : (s.clock.minute + 1 == 1440) = decide (s.clock.minute = 1439) := by
        rw [Bool.eq_iff_iff, beq_iff_eq, decide_eq_true_iff]
        omega
      rw [clock_of_sameBut h6 (by decide), ← hbeq]
      rfl
    · rw [h4 room]
      exact Display.markDue_of_not_due (hdisplays room) _
    · rw [h5 room h hroom hs ht]
      have hlinked : s.bumpMinute.linkedPosition? room = s.linkedPosition? room := rfl
      unfold State.vacancyMinutes
      rw [hlinked]
      have hopt : (s.bumpMinute.room room).options = (s.room room).options := rfl
      rw [hopt]
      cases (s.room room).options.autoEnd with
      | false => rfl
      | true =>
        rw [if_neg (by decide), if_neg (by decide)]
        cases s.linkedPosition? room with
        | none => rfl
        | some q =>
          dsimp only
          cases q.debounced with
          | none => rfl
          | some v => cases v <;> rfl

end Sys2Proof.Machine
end

section
/-! SUPPORT. The day rollover: what follows the book's own part of it, and a rollover that finds nothing on plane 0
(O24, O25). -/

namespace Sys2Proof.Machine

/-! ### Pools whose live records are all replaced -/

theorem Pool.entry_mapLive {α : Type} (p : Pool α) (f : α → α) (i : Nat) :
    Pool.entry (Pool.mapLive p f) i = ⟨(Pool.entry p i).gen, (Pool.entry p i).item.map f⟩ := by
  have hlook : Table.look? (Pool.mapLive p f) i =
      (Table.look? p i).map (fun e => (⟨e.gen, e.item.map f⟩ : PoolEntry α)) :=
    Table.look?_map (fun e : PoolEntry α => (⟨e.gen, e.item.map f⟩ : PoolEntry α)) p i
  unfold Pool.entry Table.read
  rw [hlook]
  cases Table.look? p i <;> rfl

/-! ### The chronic decision -/

theorem chronicState_setChronic (s : State) (room q : Nat) (v : ChronicState) :
    (s.setChronic room v).chronicState q = if q = room then v else s.chronicState q := Table.read_write _ _ _ _ _

theorem decideChronic_spec (s : State) (room q : Nat) : (s.decideChronic room).chronicState q =
    if q = room then (s.chronicState room).decide (s.room room).threshold else s.chronicState q := by
  unfold State.decideChronic
  dsimp only
  split
  · exact chronicState_setChronic _ _ _ _
  · rw [chronicState_of_sameBut (raise_sameBut _ _) (by decide)]
    exact chronicState_setChronic _ _ _ _

theorem threshold_of_settings {r q : Room} (h : r.settings = q.settings) : r.threshold = q.threshold := by
  change r.settings.threshold = q.settings.threshold
  rw [h]

theorem decideChronics_spec (l : List Nat) (hl : l.Nodup) (s : State) (q : Nat) :
    (l.foldl State.decideChronic s).chronicState q =
      if q ∈ l then (s.chronicState q).decide (s.room q).threshold else s.chronicState q := by
  induction l generalizing s with
  | nil => rfl
  | cons r l ih =>
    obtain ⟨hnot, hnodup⟩ := List.nodup_cons.mp hl
    have hthreshold := threshold_of_settings (settings_of_sameBut (decideChronic_sameBut s r) (by decide) q)
    rw [List.foldl_cons, ih hnodup, decideChronic_spec, hthreshold]
    by_cases hq : q = r
    · subst hq
      rw [if_neg hnot, if_pos rfl, if_pos List.mem_cons_self]
    · rw [if_neg hq]
      exact ite_congr (propext ⟨List.mem_cons_of_mem r, fun h => (List.mem_cons.mp h).resolve_left hq⟩) (fun _ => rfl)
        (fun _ => rfl)

theorem ChronicState.decide_eq (c : ChronicState) (threshold : Nat) : c.decide threshold =
    if threshold ≤ c.dayNoShows then ⟨0, min (c.streak + 1) 3, Decidable.decide (3 ≤ c.streak + 1) || c.chronic⟩
    else if c.dayNoShows = 0 then ⟨0, 0, false⟩ else ⟨0, 0, c.chronic⟩ := by
  have hmin : (min (c.streak + 1) 3 = 3) = (3 ≤ c.streak + 1) := propext (by omega)
  have hflag : (if min (c.streak + 1) 3 = 3 then true else c.chronic) =
      (Decidable.decide (3 ≤ c.streak + 1) || c.chronic) := by
    simp only [hmin]
    by_cases h : 3 ≤ c.streak + 1
    · rw [if_pos h, decide_eq_true h, Bool.true_or]
    · rw [if_neg h, decide_eq_false h, Bool.false_or]
  unfold ChronicState.decide
  rw [hflag]

/-- The monitor's part of a rollover (R171, R173, R174). -/
theorem monitorRollover_spec (s : State) :
    (s.monitor.autoSnapshot = true →
      s.monitorRollover.monitor.bank = { rooms := s.monitor.rooms, kitchens := s.monitor.kitchens
                                         seq := s.monitor.bank.seq + 1, kind := .auto, day := s.clock.day
                                         minute := s.clock.minute } ∧
      s.monitorRollover.monitor.rooms = [] ∧ s.monitorRollover.monitor.kitchens = []) ∧
    (s.monitor.autoSnapshot = false → s.monitorRollover.monitor.bank = s.monitor.bank ∧
      s.monitorRollover.monitor.rooms = s.monitor.rooms ∧ s.monitorRollover.monitor.kitchens = s.monitor.kitchens) ∧
    ∀ room, room < 160 → s.monitorRollover.chronicState room =
      (s.chronicState room).decide (s.room room).threshold := by
  obtain ⟨t, ht⟩ : ∃ t, t = if s.monitor.autoSnapshot then s.takeSnapshot .auto else s.raiseDayRolled .none := ⟨_, rfl⟩
  have hst : sameBut ([.roomUsage, .kitchenUsage, .bank] ++ noticeParts) s t := by
    rw [ht]
    exact snapshotAtRollover_sameBut s
  have heq : s.monitorRollover = roomNumbers.foldl State.decideChronic t := by rw [ht]; rfl
  have hfold : sameBut ([.chronic] ++ noticeParts) t (roomNumbers.foldl State.decideChronic t) :=
    sameBut_foldl decideChronic_sameBut roomNumbers t
  have hbank : s.monitorRollover.monitor.bank = t.monitor.bank := by rw [heq]; exact hfold .bank (by decide)
  have hrooms : s.monitorRollover.monitor.rooms = t.monitor.rooms := by rw [heq]; exact hfold .roomUsage (by decide)
  have hkitchens : s.monitorRollover.monitor.kitchens = t.monitor.kitchens := by
    rw [heq]
    exact hfold .kitchenUsage (by decide)
  refine ⟨fun ha => ?_, fun ha => ?_, fun room hroom => ?_⟩
  · have hmonitor : t.monitor = s.monitor.closePeriod .auto s.clock.day s.clock.minute := by
      rw [ht, if_pos ha]
      exact (takeSnapshot_spec s .auto).1
    rw [hbank, hrooms, hkitchens, hmonitor]
    exact ⟨rfl, rfl, rfl⟩
  · have hraise : sameBut noticeParts s t := by
      rw [ht, if_neg (by rw [ha]; decide)]
      exact raise_sameBut _ _
    rw [hbank, hrooms, hkitchens]
    exact ⟨hraise .bank (by decide), hraise .roomUsage (by decide), hraise .kitchenUsage (by decide)⟩
  · have hmem : room ∈ roomNumbers := List.mem_range.mpr hroom
    rw [heq, decideChronics_spec roomNumbers List.nodup_range, if_pos hmem,
      chronicState_of_sameBut hst (by decide), threshold_of_settings (settings_of_sameBut hst (by decide) room)]

/-! ### What follows the book's and the orders' part of a rollover -/

/-- The rest of a rollover: the new numbering, KITCHEN_OVER, the displays, the monitor, and minute 0 (R14). -/
def State.newDay (f : State) (was : Nat → List Int) : State :=
  ((f.renumber.announceAllOver was).recomputeAll).monitorRollover

/-- The parts the rest of a rollover may change. -/
def newDayParts : List Part := [.clock, .records, .waitlist, .orders, .load, .displays, .displayRevs] ++ monitorParts

theorem newDay_sameBut_renumber (f : State) (was : Nat → List Int) :
    sameBut ([.displayRevs, .displays] ++ monitorParts) f.renumber (f.newDay was) :=
  sameBut_trans (sameBut_mono (by decide) (announceAllOver_sameBut f.renumber was))
    (sameBut_trans (sameBut_mono (by decide) (recomputeAll_sameBut _)) (sameBut_mono (by decide)
      (monitorRollover_sameBut _)))

theorem newDay_sameBut (f : State) (was : Nat → List Int) : sameBut newDayParts f (f.newDay was) :=
  sameBut_trans (sameBut_mono (by decide) (renumber_sameBut f)) (sameBut_mono (by decide) (newDay_sameBut_renumber f was))

theorem newDay_records (f : State) (was : Nat → List Int) :
    (∀ i, (f.newDay was).rec? i = (f.rec? i).map Rec.renumber) ∧
    (∀ j, (f.newDay was).order? j = (f.order? j).map Order.renumber) ∧
    (∀ w, (f.newDay was).waitEntry? w = (f.waitEntry? w).map WaitEntry.renumber) := by
  have hnew := newDay_sameBut_renumber f was
  have hwait : (f.newDay was).wait = f.renumber.wait := hnew .waitlist (by decide)
  refine ⟨fun i => ?_, fun j => ?_, fun w => ?_⟩
  · rw [rec?_of_sameBut hnew (by decide)]
    exact Pool.item?_mapLive _ _ _
  · rw [order?_of_sameBut hnew (by decide)]
    exact Pool.item?_mapLive _ _ _
  · unfold State.waitEntry?
    rw [hwait]
    exact Pool.item?_mapLive _ _ _

/-- The clock of the new day (R14). -/
theorem newDay_clock (f : State) (was : Nat → List Int) : (f.newDay was).clock = { f.clock with oldDay := false } :=
  clock_of_sameBut (newDay_sameBut_renumber f was) (by decide)

/-- The records, orders and entries of a new day as minute 0 leaves them (R13, R14, R38, R74, R152). -/
theorem newDay_advance {f : State} (was : Nat → List Int) (h0 : f.clock.minute = 0)
    (hoff : ∀ r, (f.room r).options.sensorCheckin = false)
    (hrecs : ∀ i r, f.rec? i = some r → r.deadline.due = false)
    (horders : ∀ j o d, f.order? j = some o → o.deadline = some d → d.due = false)
    (hentries : ∀ w e, f.waitEntry? w = some e → e.due = false) :
    (∀ i r, f.rec? i = some r → (f.newDay was).advanceEffects.rec? i = some { r with
      plane := r.plane - 1
      deadline := { r.deadline with minute := r.deadline.minute - 1440, due := decide (r.deadline.minute ≤ 1440) } }) ∧
    (∀ j o, f.order? j = some o → (f.newDay was).advanceEffects.order? j = some { o with
      last := o.last - 96, cutoff := o.cutoff - 1440, dispatch := o.dispatch - 1440, delivery := o.delivery - 1440
      deadline := o.deadline.map (fun d => { d with minute := d.minute - 1440, due := decide (d.minute ≤ 1440) }) }) ∧
    (∀ w e, f.waitEntry? w = some e → (f.newDay was).advanceEffects.waitEntry? w = some { e with
      plane := e.plane - 1, expiry := e.expiry - 1440, due := decide (e.expiry ≤ 1440) }) ∧
    sameBut [.records, .orders, .waitlist, .displays, .vacancy] (f.newDay was) (f.newDay was).advanceEffects := by
  obtain ⟨hrec, horder, hentry⟩ := newDay_records f was
  have hnow : (f.newDay was).now = 0 := by
    unfold State.now State.nowMinute
    rw [newDay_clock]
    dsimp only
    rw [if_neg (by decide), h0]
    rfl
  have hle : ∀ m : Int, decide (m - 1440 ≤ 0) = decide (m ≤ 1440) := fun m => decide_eq_decide.mpr (by omega)
  obtain ⟨h1, h2, h3, -, -, h6⟩ := advanceEffects_spec (s := f.newDay was)
    (fun r => by
      rw [options_of_settings (settings_of_sameBut (newDay_sameBut f was) (by decide) r)]
      exact hoff r)
    (fun i r hr => by
      rw [hrec] at hr
      obtain ⟨q, hq, rfl⟩ := Option.map_eq_some_iff.mp hr
      exact hrecs i q hq)
    (fun j o d ho hd => by
      rw [horder] at ho
      obtain ⟨q, hq, rfl⟩ := Option.map_eq_some_iff.mp ho
      obtain ⟨e, he, rfl⟩ := Option.map_eq_some_iff.mp hd
      exact horders j q e hq he)
    (fun w e he => by
      rw [hentry] at he
      obtain ⟨q, hq, rfl⟩ := Option.map_eq_some_iff.mp he
      exact hentries w q hq)
  rw [hnow] at h1 h2 h3
  refine ⟨fun i r hr => ?_, fun j o ho => ?_, fun w e he => ?_, h6⟩
  · have hi := h1 i r.renumber (by rw [hrec, hr]; rfl)
    rw [hi, ← hle]
    rfl
  · have hj := h2 j o.renumber (by rw [horder, ho]; rfl)
    rw [hj]
    simp only [← hle]
    unfold Order.renumber
    rw [Option.map_map]
    rfl
  · have hw := h3 w e.renumber (by rw [hentry, he]; rfl)
    rw [hw, ← hle]
    rfl

/-- The rest of a new day (R14, R152, R171, R173, R174). -/
theorem newDay_rest (f : State) (was : Nat → List Int) {y : State}
    (hy : sameBut [.records, .orders, .waitlist, .displays, .vacancy] (f.newDay was) y) :
    y.clock = { f.clock with oldDay := false } ∧
    (∀ k g, g < 768 → y.loadEntry k g = if g < 672 then f.loadEntry k (g + 96) else ⟨0, false⟩) ∧
    (f.monitor.autoSnapshot = true →
      y.monitor.bank = { rooms := f.monitor.rooms, kitchens := f.monitor.kitchens, seq := f.monitor.bank.seq + 1
                         kind := .auto, day := f.clock.day, minute := f.clock.minute } ∧
      y.monitor.rooms = [] ∧ y.monitor.kitchens = []) ∧
    (f.monitor.autoSnapshot = false → y.monitor.bank = f.monitor.bank ∧ y.monitor.rooms = f.monitor.rooms ∧
      y.monitor.kitchens = f.monitor.kitchens) ∧
    (∀ room, room < 160 → y.chronicState room = (f.chronicState room).decide (f.room room).threshold) ∧
    y.book.rev = f.book.rev ∧ y.book.ring = f.book.ring := by
  have hrenumber := renumber_sameBut f
  obtain ⟨w, hw⟩ : ∃ w, w = (f.renumber.announceAllOver was).recomputeAll := ⟨_, rfl⟩
  have hbefore : sameBut ([.displayRevs, .displays] ++ noticeParts) f.renumber w := by
    rw [hw]
    exact sameBut_trans (sameBut_mono (by decide) (announceAllOver_sameBut f.renumber was))
      (sameBut_mono (by decide) (recomputeAll_sameBut _))
  have hnew : f.newDay was = w.monitorRollover := by rw [hw]; rfl
  have hfw : sameBut ([.clock, .records, .waitlist, .orders, .load, .displays, .displayRevs] ++ noticeParts) f w :=
    sameBut_trans (sameBut_mono (by decide) hrenumber) (sameBut_mono (by decide) hbefore)
  have hclock : w.clock = { f.clock with oldDay := false } := clock_of_sameBut hbefore (by decide)
  obtain ⟨hauto, hnone, hchronic⟩ := monitorRollover_spec w
  rw [← hnew] at hauto hnone hchronic
  have hsnapshot : w.monitor.autoSnapshot = f.monitor.autoSnapshot := hfw .autoSnapshot (by decide)
  have hbank : w.monitor.bank = f.monitor.bank := hfw .bank (by decide)
  have hrooms : w.monitor.rooms = f.monitor.rooms := hfw .roomUsage (by decide)
  have hkitchens : w.monitor.kitchens = f.monitor.kitchens := hfw .kitchenUsage (by decide)
  rw [hsnapshot, hbank, hrooms, hkitchens, hclock] at hauto
  rw [hsnapshot, hbank, hrooms, hkitchens] at hnone
  have hybank : y.monitor.bank = (f.newDay was).monitor.bank := hy .bank (by decide)
  have hyrooms : y.monitor.rooms = (f.newDay was).monitor.rooms := hy .roomUsage (by decide)
  have hykitchens : y.monitor.kitchens = (f.newDay was).monitor.kitchens := hy .kitchenUsage (by decide)
  refine ⟨(clock_of_sameBut hy (by decide)).trans (newDay_clock f was), fun k g hg => ?_, fun ha => ?_, fun ha => ?_,
    fun room hroom => ?_, ?_, ?_⟩
  · rw [loadEntry_of_sameBut hy (by decide), loadEntry_of_sameBut (newDay_sameBut_renumber f was) (by decide),
      loadEntry_renumber f k hg]
    refine if_congr ?_ rfl rfl
    unfold Config.windowCount
    omega
  · rw [hybank, hyrooms, hykitchens]
    exact hauto ha
  · rw [hybank, hyrooms, hykitchens]
    exact hnone ha
  · rw [chronicState_of_sameBut hy (by decide), hchronic room hroom, chronicState_of_sameBut hfw (by decide),
      threshold_of_settings (settings_of_sameBut hfw (by decide) room)]
  · exact (rev_of_sameBut hy (by decide)).trans (rev_of_sameBut (newDay_sameBut f was) (by decide))
  · exact (hy .ring (by decide)).1.trans (newDay_sameBut f was .ring (by decide)).1

/-! ### A rollover that finds nothing on plane 0 -/

theorem raiseRollover_sameBut (s : State) : sameBut [.clock] s s.raiseRollover := by
  intro q hq
  cases q with
  | clock => exact absurd (by decide) hq
  | _ => first | exact rfl | exact fun _ => rfl | exact ⟨rfl, rfl⟩ | exact fun _ => ⟨rfl, rfl, rfl, rfl⟩

theorem dayList_eq_nil {s : State} (ht : s.tablesOk) (h : ∀ i r, s.rec? i = some r → 1 ≤ r.plane) (room : Nat) :
    s.dayList room 0 = [] := by
  refine List.eq_nil_iff_forall_not_mem.mpr fun e he => ?_
  obtain ⟨hlive, -, hplane⟩ := State.mem_dayList.mp he
  have := h e.1 e.2 (State.rec?_of_mem_liveRecs ht hlive)
  omega

theorem entriesOfToday_eq_nil {s : State} (ht : s.tablesOk) (h : ∀ i r, s.rec? i = some r → 1 ≤ r.plane) :
    s.entriesOfToday = [] ∧ s.roomsOfToday = [] := by
  unfold State.entriesOfToday State.roomsOfToday
  simp only [dayList_eq_nil ht h]
  exact ⟨List.flatMap_eq_nil_iff.mpr fun _ _ => rfl, List.filter_eq_nil_iff.mpr fun _ _ => by decide⟩

theorem bookRollover_of_empty {s : State} (h : s.entriesOfToday = []) (hr : s.roomsOfToday = []) :
    s.bookRollover = s := by
  unfold State.bookRollover
  rw [h, hr]
  rfl

/-- A rollover with nothing owed and nothing on plane 0: only its served orders are freed before the new day (R14). -/
theorem exec_dayRollover_of_empty {s : State} (hold : s.clock.oldDay = true) (hout : s.outstanding = [])
    (ht : s.tablesOk) (h : ∀ i r, s.rec? i = some r → 1 ≤ r.plane) : exec .dayRollover s =
      .next ((s.servedOrders.foldl State.freeServed s.raiseRollover).newDay s.overLowered).advanceEffects := by
  obtain ⟨hentries, hrooms⟩ := entriesOfToday_eq_nil ht h
  have hbook : s.raiseRollover.bookRollover = s.raiseRollover := bookRollover_of_empty hentries hrooms
  have hchanges : s.rolloverChanges = (s.servedOrders.foldl State.freeServed s.raiseRollover).newDay s.overLowered := by
    unfold State.rolloverChanges
    dsimp only
    rw [hbook]
    rfl
  have hrollover : s.rollover = s.rolloverChanges.advanceEffects := by
    unfold State.rollover
    dsimp only
    rw [hentries]
    rfl
  refine congrArg Host.Outcome.next ?_
  rw [if_pos hold, drain_of_nothing hout, hrollover, hchanges]

/-- Settles O24. -/
theorem rolloverRenumbers : Obligations.RolloverRenumbers := by
  unfold Obligations.RolloverRenumbers
  refine ⟨fun s hold => congrArg Host.Outcome.next (if_neg (by rw [hold]; decide)),
    fun s hold hout ht hoff hplanes hserved => ?_⟩
  have hexec := exec_dayRollover_of_empty hold hout ht hplanes
  rw [hserved, List.foldl_nil] at hexec
  obtain ⟨hrecs, horders, hentries, -⟩ := notDue_of_outstanding hout
  obtain ⟨h1, h2, h3, h4⟩ := newDay_advance (f := s.raiseRollover) s.overLowered rfl hoff hrecs horders hentries
  obtain ⟨hclock, hload, hauto, hnone, hchronic, -, -⟩ := newDay_rest s.raiseRollover s.overLowered h4
  refine ⟨_, hexec, hclock, h1, h2, h3, fun k g _ hg => hload k g hg, fun ha => ?_, fun ha => ?_, fun room hroom => ?_, ?_⟩
  · obtain ⟨hbank, hrooms, hkitchens⟩ := hauto ha
    exact ⟨hbank, hrooms, hkitchens⟩
  · obtain ⟨hbank, hrooms, hkitchens⟩ := hnone ha
    exact ⟨hbank, hrooms, hkitchens⟩
  · rw [hchronic room hroom]
    exact ChronicState.decide_eq _ _
  · exact sameBut_trans (sameBut_mono (by decide) (raiseRollover_sameBut s)) (sameBut_trans
      (sameBut_mono (by decide) (newDay_sameBut s.raiseRollover s.overLowered)) (sameBut_mono (by decide) h4))

end Sys2Proof.Machine
end

section
/-! SUPPORT. A day rollover with nothing to finish leaves the book revision as it stands. -/

namespace Sys2Proof.Machine

/-- A cold device at midnight whose revision has passed its 32 bits: no step leads to it, and nothing rules it out. -/
def State.pastRevision : State :=
  { State.reset with
    clock := { State.reset.clock with oldDay := true }
    book := { Book.cold with rev := 4294967296 } }

theorem pastRevision_rec? (i : Nat) : State.pastRevision.rec? i = none := rfl

theorem pastRevision_tablesOk : State.pastRevision.tablesOk :=
  tablesOk_cold ⟨true, false, false⟩ ⟨true, true, false⟩ ⟨true, false, true⟩

theorem pastRevision_entriesOfToday : State.pastRevision.entriesOfToday = [] :=
  (entriesOfToday_eq_nil pastRevision_tablesOk fun i r hr => by
    rw [pastRevision_rec? i] at hr
    cases hr).1

theorem exec_dayRollover_pastRevision {t : State} (h : exec .dayRollover State.pastRevision = .next t) :
    t.book.rev = 4294967296 := by
  have hexec := exec_dayRollover_of_empty (s := State.pastRevision) rfl (by decide) pastRevision_tablesOk
    fun i r hr => by
      rw [pastRevision_rec? i] at hr
      cases hr
  have hserved : State.pastRevision.servedOrders = [] := by decide
  rw [hserved, List.foldl_nil, h] at hexec
  injection hexec with ht
  obtain ⟨-, -, -, h4⟩ := newDay_advance (f := State.pastRevision.raiseRollover) State.pastRevision.overLowered rfl
    (fun _ => rfl)
    (fun i r hr => by cases hr)
    (fun j o d ho _ => by cases ho)
    (fun w e he => by cases he)
  obtain ⟨-, -, -, -, -, hrev, -⟩ := newDay_rest State.pastRevision.raiseRollover State.pastRevision.overLowered h4
  rw [ht]
  exact hrev

/-- Refutes O25: its premises allow a book revision above 32 bits. With nothing on plane 0 a rollover leaves such a
revision as it is, and the statement's sum, saturated at 32 bits, lowers it. -/
theorem not_rolloverFinishesAndFrees : ¬ Obligations.RolloverFinishesAndFrees := by
  unfold Obligations.RolloverFinishesAndFrees
  intro h
  obtain ⟨t, hexec, hrev, -⟩ := h.1 State.pastRevision rfl (by decide) pastRevision_tablesOk (fun _ => rfl) rfl
    (fun _ => rfl)
    (fun i r hr => by
      rw [pastRevision_rec? i] at hr
      cases hr)
    (by rw [pastRevision_entriesOfToday]; decide)
  rw [exec_dayRollover_pastRevision hexec, pastRevision_entriesOfToday] at hrev
  exact absurd hrev (by decide)

end Sys2Proof.Machine
end

section
/-! SUPPORT. The span of a walk-up (R90): its steps in terms of the day's free runs. -/

namespace Sys2Proof.Machine

/-- An end slot keeps a walk-up clear of the record that follows (R90 step 4). -/
def walkupFits (clear : Nat) (next : Option (Nat × Rec)) (e : Nat) : Prop :=
  ∀ f, next = some f → min (e + clear) 288 ≤ f.2.padStart

/-- What steps 2 and 3 of R90 ask of the records that have begun, padding counted. -/
def walkupClear (slot setup : Nat) (day : List (Nat × Rec)) : Prop :=
  ∀ x, x ∈ day → x.2.padStart ≤ slot → x.2.padEnd ≤ slot - setup

/-- Of four numbers taken downwards from the top the first that passes a test is the greatest that does. -/
theorem find?_downFrom_eq_some_iff (f : Nat → Bool) (top stop : Nat) :
    ([0, 1, 2, 3].map (fun k => top - k)).find? f = some stop ↔
      top - 3 ≤ stop ∧ stop ≤ top ∧ f stop = true ∧ ∀ e, stop < e → e ≤ top → f e = false := by
  simp only [List.map_cons, List.map_nil]
  constructor
  · intro h
    obtain ⟨hstop, before, after, hsplit, hbefore⟩ := List.find?_eq_some_iff_append.mp h
    have hmem := List.mem_of_find?_eq_some h
    simp only [List.mem_cons, List.not_mem_nil, or_false] at hmem
    refine ⟨by omega, by omega, hstop, fun e hlt hle => ?_⟩
    have hdesc : [top - 0, top - 1, top - 2, top - 3].Pairwise (fun a b => b ≤ a) := by
      simp only [List.pairwise_cons, List.mem_cons, List.not_mem_nil, or_false, List.Pairwise.nil, and_true,
        forall_eq_or_imp, forall_eq, IsEmpty.forall_iff, implies_true]
      omega
    have he : e ∈ [top - 0, top - 1, top - 2, top - 3] := by
      simp only [List.mem_cons, List.not_mem_nil, or_false]
      omega
    rw [hsplit] at he hdesc
    obtain ⟨-, htail, -⟩ := List.pairwise_append.mp hdesc
    rcases List.mem_append.mp he with he | he
    · simpa using hbefore e he
    · rcases List.mem_cons.mp he with rfl | he
      · omega
      · have := (List.pairwise_cons.mp htail).1 e he
        omega
  · rintro ⟨hlow, hle, hstop, hmax⟩
    have hno : ∀ k, stop < top - k → ¬ f (top - k) = true := fun k hk => by
      rw [hmax (top - k) hk (Nat.sub_le _ _)]
      decide
    by_cases h0 : top - 0 = stop
    · rw [List.find?_cons_of_pos (by rw [h0]; exact hstop), h0]
    rw [List.find?_cons_of_neg (hno 0 (by omega))]
    by_cases h1 : top - 1 = stop
    · rw [List.find?_cons_of_pos (by rw [h1]; exact hstop), h1]
    rw [List.find?_cons_of_neg (hno 1 (by omega))]
    by_cases h2 : top - 2 = stop
    · rw [List.find?_cons_of_pos (by rw [h2]; exact hstop), h2]
    have h3 : top - 3 = stop := by omega
    rw [List.find?_cons_of_neg (hno 2 (by omega)), List.find?_cons_of_pos (by rw [h3]; exact hstop), h3]

/-- Step 4 of R90 takes the greatest end slot that fits, of at least three slots and at most six. -/
theorem walkupStop_eq_some_iff (clear slot : Nat) (next : Option (Nat × Rec)) (stop : Nat) :
    walkupStop clear slot next = some stop ↔ slot + 3 ≤ stop ∧ stop ≤ min (slot + 6) 288 ∧ walkupFits clear next stop ∧
      ∀ e, stop < e → e ≤ min (slot + 6) 288 → ¬ walkupFits clear next e := by
  unfold walkupStop
  rw [find?_downFrom_eq_some_iff]
  have hfits : ∀ e, walkupFits clear next e ↔ (match next with
      | none => true
      | some f => decide (min (e + clear) 288 ≤ f.2.padStart)) = true := by
    intro e
    unfold walkupFits
    cases next <;> simp
  simp only [Bool.and_eq_true, decide_eq_true_eq, Bool.and_eq_false_iff, decide_eq_false_iff_not, hfits,
    Bool.not_eq_true]
  constructor
  · rintro ⟨-, hle, ⟨h3, hfit⟩, hmax⟩
    exact ⟨h3, hle, hfit, fun e hlt htop => (hmax e hlt htop).resolve_left (by omega)⟩
  · rintro ⟨h3, hle, hfit, hmax⟩
    exact ⟨by omega, hle, ⟨h3, hfit⟩, fun e hlt htop => .inr (hmax e hlt htop)⟩

/-- The steps of R90, the tests of 2 and 3 as one condition on the records that have begun. -/
theorem State.walkupSpan_eq_some_iff (s : State) (room stop : Nat) : s.walkupSpan room = some stop ↔
    (s.room room).options.walkupAllowed = true ∧ (s.room room).isOpen = true ∧
    walkupClear s.currentSlot (s.room room).setup (s.dayList room 0) ∧
    walkupStop (s.room room).clear s.currentSlot
      ((s.dayList room 0).find? (fun e => decide (s.currentSlot < e.2.padStart))) = some stop := by
  have hclear : walkupClear s.currentSlot (s.room room).setup (s.dayList room 0) ↔
      ¬ ((s.dayList room 0).any (fun e => decide (e.2.padStart ≤ s.currentSlot) && decide (s.currentSlot < e.2.padEnd))
        = true) ∧
      ¬ (((s.dayList room 0).filter (fun e => decide (e.2.padStart ≤ s.currentSlot))).any
        (fun e => decide (s.currentSlot - (s.room room).setup < e.2.padEnd)) = true) := by
    unfold walkupClear
    simp only [List.any_eq_true, List.mem_filter, Bool.and_eq_true, decide_eq_true_iff, not_exists, not_and, not_lt]
    constructor
    · intro h
      exact ⟨fun x hx hle => (h x hx hle).trans (Nat.sub_le _ _), fun x hx => h x hx.1 hx.2⟩
    · rintro ⟨-, h⟩ x hx hle
      exact h x ⟨hx, hle⟩
  unfold State.walkupSpan
  dsimp only
  rw [Option.ite_none_left_eq_some, Option.ite_none_left_eq_some, Option.ite_none_left_eq_some, hclear]
  simp only [Bool.or_eq_true, Bool.not_eq_true', not_or, Bool.not_eq_false, and_assoc]

/-- On records in order of padded start, the run from before a slot up to an end is free just where what has begun
leaves the setup free and the first that follows leaves the end free (R24, R90). -/
theorem State.freeRun_iff_walkup {s : State} {room : Nat} (hl : ∀ e, e ∈ s.liveRecs → e.2.start < e.2.stop ∧ e.2.stop ≤ 288)
    {e : Nat} (hlo : s.currentSlot < e) (hhi : e ≤ 288) :
    s.freeRun room 0 (s.currentSlot - (s.room room).setup) (min (e + (s.room room).clear) 288) none ↔
      walkupClear s.currentSlot (s.room room).setup (s.dayList room 0) ∧
      walkupFits (s.room room).clear
        ((s.dayList room 0).find? (fun e => decide (s.currentSlot < e.2.padStart))) e := by
  have hend : ∀ x : Nat × Rec, x ∈ s.liveRecs → x.2.padStart < x.2.padEnd := by
    intro x hx
    have := hl x hx
    unfold Rec.padStart Rec.padEnd
    omega
  unfold walkupClear walkupFits State.freeRun
  constructor
  · intro h
    refine ⟨fun x hx hle => ?_, fun f hf => ?_⟩
    · obtain ⟨hx, hroom, hplane⟩ := State.mem_dayList.mp hx
      have := h x hx hroom hplane (by simp)
      omega
    · obtain ⟨hx, hroom, hplane⟩ := State.mem_dayList.mp (List.mem_of_find?_eq_some hf)
      have hafter : s.currentSlot < f.2.padStart := of_decide_eq_true (List.find?_some hf :)
      have := h f hx hroom hplane (by simp)
      have := hend f hx
      omega
  · rintro ⟨hclear, hfits⟩ x hx hroom hplane -
    have hmem := State.mem_dayList.mpr ⟨hx, hroom, hplane⟩
    by_cases hle : x.2.padStart ≤ s.currentSlot
    · have := hclear x hmem hle
      omega
    · cases hf : (s.dayList room 0).find? (fun e => decide (s.currentSlot < e.2.padStart)) with
      | none => exact absurd (decide_eq_true (Nat.not_le.mp hle)) (List.find?_eq_none.mp hf x hmem)
      | some f =>
        have hbound := hfits f hf
        obtain ⟨-, before, after, hsplit, hbefore⟩ := List.find?_eq_some_iff_append.mp hf
        have hsorted := State.dayList_padSorted s room 0
        have hfx : f.2.padStart ≤ x.2.padStart := by
          unfold padSorted at hsorted
          rw [hsplit] at hmem hsorted
          obtain ⟨-, htail, -⟩ := List.pairwise_append.mp hsorted
          rcases List.mem_append.mp hmem with hm | hm
          · have hno := hbefore x hm
            rw [decide_eq_true (Nat.not_le.mp hle)] at hno
            cases hno
          · rcases List.mem_cons.mp hm with rfl | hm
            · exact Nat.le_refl _
            · exact (List.pairwise_cons.mp htail).1 x hm
        omega

/-- The span of a walk-up as R90 gives it: the room admits walk-ups and is open, and the end is the greatest of three to
six slots on that leaves the run with its padding free. -/
theorem State.walkupSpan_iff {s : State} {room : Nat}
    (hl : ∀ e, e ∈ s.liveRecs → e.2.start < e.2.stop ∧ e.2.stop ≤ 288) (stop : Nat) :
    s.walkupSpan room = some stop ↔
      (s.room room).options.walkupAllowed = true ∧ (s.room room).isOpen = true ∧ s.currentSlot + 3 ≤ stop ∧
      stop ≤ min (s.currentSlot + 6) 288 ∧
      s.freeRun room 0 (s.currentSlot - (s.room room).setup) (min (stop + (s.room room).clear) 288) none ∧
      ∀ e, stop < e → e ≤ min (s.currentSlot + 6) 288 →
        ¬ s.freeRun room 0 (s.currentSlot - (s.room room).setup) (min (e + (s.room room).clear) 288) none := by
  rw [State.walkupSpan_eq_some_iff, walkupStop_eq_some_iff]
  constructor
  · rintro ⟨hw, ho, hclear, h3, hle, hfits, hmax⟩
    refine ⟨hw, ho, h3, hle, (State.freeRun_iff_walkup hl (by omega) (by omega)).mpr ⟨hclear, hfits⟩,
      fun e hlt htop hfree => ?_⟩
    exact hmax e hlt htop ((State.freeRun_iff_walkup hl (by omega) (by omega)).mp hfree).2
  · rintro ⟨hw, ho, h3, hle, hfree, hmax⟩
    obtain ⟨hclear, hfits⟩ := (State.freeRun_iff_walkup hl (by omega) (by omega)).mp hfree
    exact ⟨hw, ho, hclear, h3, hle, hfits, fun e hlt htop hfit =>
      hmax e hlt htop ((State.freeRun_iff_walkup hl (by omega) (by omega)).mpr ⟨hclear, hfit⟩)⟩

end Sys2Proof.Machine
end

section
/-! SUPPORT. The acts at the room door (O41): the sensor test at a minute advance and the five keys. -/

namespace Sys2Proof.Machine

/-! ### Windows and covering bookings -/

theorem State.windowOpen_iff (s : State) (r : Rec) : s.windowOpen r = true ↔
    r.kind = .booking ∧ r.state = .confirmed ∧ r.startMinute - 10 ≤ s.now := by
  unfold State.windowOpen Rec.openingMinute
  simp only [Bool.and_eq_true, decide_eq_true_eq, and_assoc]

theorem State.mem_openWindows {s : State} {room : Nat} {e : Nat × Rec} :
    e ∈ s.liveRecs.filter (fun e => e.2.room = room && s.windowOpen e.2) ↔
      e ∈ s.liveRecs ∧ e.2.room = room ∧ s.windowOpen e.2 = true := by
  simp only [List.mem_filter, Bool.and_eq_true, decide_eq_true_eq]

theorem State.coveringArrived_covers {s : State} {room : Nat} {e : Nat × Rec} (h : s.coveringArrived room = some e) :
    e ∈ s.liveRecs ∧ e.2.room = room ∧ e.2.kind = .booking ∧ e.2.state = .arrived ∧ e.2.plane = 0 ∧
      e.2.start ≤ s.currentSlot ∧ s.currentSlot < e.2.stop :=
  ⟨List.mem_of_find?_eq_some h, (mem_covering_iff s room e).mp (List.find?_some h :)⟩

theorem State.coveringArrived_none_covers {s : State} {room : Nat} (h : s.coveringArrived room = none) {e : Nat × Rec}
    (he : e ∈ s.liveRecs) : ¬ (e.2.room = room ∧ e.2.kind = .booking ∧ e.2.state = .arrived ∧ e.2.plane = 0 ∧
      e.2.start ≤ s.currentSlot ∧ s.currentSlot < e.2.stop) := fun hcover =>
  List.find?_eq_none.mp h e he ((mem_covering_iff s room e).mpr hcover)

/-- The open window with the least start minute is the one a check-in takes (R78). -/
theorem State.checkInTarget_of_first {s : State} {room i : Nat} {r : Rec} (hm : (i, r) ∈ s.liveRecs) (hr : r.room = room)
    (ho : s.windowOpen r = true) (hfirst : ∀ j q, (j, q) ∈ s.liveRecs → q.room = room → s.windowOpen q = true →
      (j = i ∧ q = r) ∨ r.startMinute < q.startMinute) : s.checkInTarget room = some (i, r) := by
  have hmem := State.mem_openWindows.mpr ⟨hm, hr, ho⟩
  unfold State.checkInTarget
  cases he : earliest (s.liveRecs.filter (fun e => e.2.room = room && s.windowOpen e.2)) with
  | none =>
    rw [earliest_eq_none.mp he] at hmem
    cases hmem
  | some e =>
    have hle := earliest_le he (i, r) hmem
    obtain ⟨hlive, hroom, hopen⟩ := State.mem_openWindows.mp (earliest_mem he)
    rcases hfirst e.1 e.2 hlive hroom hopen with ⟨h1, h2⟩ | hlt
    · rw [← h1, ← h2]
    · exact absurd hle (Int.not_le.mpr hlt)

theorem State.checkInTarget_eq_none {s : State} {room : Nat}
    (h : ∀ j q, (j, q) ∈ s.liveRecs → q.room = room → s.windowOpen q = false) : s.checkInTarget room = none := by
  refine earliest_eq_none.mpr (List.eq_nil_iff_forall_not_mem.mpr fun e he => ?_)
  obtain ⟨hlive, hroom, hopen⟩ := State.mem_openWindows.mp he
  rw [h e.1 e.2 hlive hroom] at hopen
  cases hopen

/-! ### Keys -/

theorem press_extend_of_covering {s : State} {room i : Nat} {r : Rec} (h : s.coveringArrived room = some (i, r)) :
    s.press room .extend = if s.extensionFit i r = 0 ∨ 8 ≤ r.extensions then s
      else s.extendRec i r (s.extensionFit i r) .panel := by
  change s.extendKey room = _
  unfold State.extendKey
  rw [h]

theorem press_endNow_of_covering {s : State} {room i : Nat} {r : Rec} (h : s.coveringArrived room = some (i, r)) :
    s.press room .endNow = s.earlyEnd i r .key .endNow := by
  change s.endNowKey room = _
  unfold State.endNowKey
  rw [h]

theorem press_bookNow_of_span {s : State} {room stop i : Nat} (h : s.walkupSpan room = some stop)
    (hi : Pool.lowestFree s.book.pool Config.bookCap = some i) :
    s.press room .bookNow = ((s.changeRec i (walkupRec room (s.room room) s.currentSlot stop)).raise
      { kind := .walkup, subject := .booking (s.recHandle i) }).roomChanged room := by
  change s.bookNow room = _
  unfold State.bookNow
  rw [h]
  dsimp only
  rw [hi]

theorem press_bookNow_eq_self {s : State} {room : Nat}
    (h : s.walkupSpan room = none ∨ Pool.lowestFree s.book.pool Config.bookCap = none) : s.press room .bookNow = s := by
  change s.bookNow room = _
  unfold State.bookNow
  rcases h with h | h
  · rw [h]
  · split
    · rfl
    · rw [h]

/-! ### The delivery target -/

/-- The bookings among which a DELIVERED press finds its target (R129). -/
def State.orderedToday (s : State) (room : Nat) : List (Nat × Rec) :=
  (s.recsOf room).filter (fun e => e.2.kind = .booking && e.2.plane = 0 && e.2.order.isSome)

theorem State.mem_orderedToday {s : State} {room : Nat} {e : Nat × Rec} : e ∈ s.orderedToday room ↔
    e ∈ s.liveRecs ∧ e.2.room = room ∧ e.2.kind = .booking ∧ e.2.plane = 0 ∧ e.2.order ≠ none := by
  unfold State.orderedToday
  rw [List.mem_filter, State.mem_recsOf]
  simp only [Bool.and_eq_true, decide_eq_true_eq, Option.isSome_iff_ne_none, and_assoc, ne_eq]

theorem State.deliveryTarget_eq (s : State) (room : Nat) : s.deliveryTarget room =
    match (s.orderedToday room).find? (fun e => e.2.covers s.currentSlot) with
    | some e => some e.2
    | none => (firstAfter s.currentSlot (s.orderedToday room)).map Prod.snd := rfl

theorem firstAfter_mem {slot : Nat} {l : List (Nat × Rec)} {e : Nat × Rec} (h : firstAfter slot l = some e) :
    e ∈ l ∧ slot < e.2.start := by
  induction l with
  | nil => cases h
  | cons x l ih =>
    unfold firstAfter at h
    split at h
    next =>
      obtain ⟨hlt, heq⟩ := Option.ite_none_right_eq_some.mp h
      cases heq
      exact ⟨List.mem_cons_self, hlt⟩
    next f hf =>
      rw [hf] at ih
      split at h
      next hx =>
        cases h
        rw [Bool.and_eq_true, decide_eq_true_eq] at hx
        exact ⟨List.mem_cons_self, hx.1⟩
      next =>
        cases h
        exact ⟨List.mem_cons_of_mem _ (ih rfl).1, (ih rfl).2⟩

theorem firstAfter_le {slot : Nat} {l : List (Nat × Rec)} {e : Nat × Rec} (he : e ∈ l) (hlt : slot < e.2.start) :
    ∃ f, firstAfter slot l = some f ∧ f.2.start ≤ e.2.start := by
  induction l with
  | nil => cases he
  | cons x l ih =>
    unfold firstAfter
    rcases List.mem_cons.mp he with rfl | he
    · split
      next => exact ⟨_, if_pos hlt, Nat.le_refl _⟩
      next f _ =>
        by_cases hle : e.2.start ≤ f.2.start
        · exact ⟨_, if_pos (by rw [decide_eq_true hlt, decide_eq_true hle]; rfl), Nat.le_refl _⟩
        · exact ⟨_, if_neg (by rw [decide_eq_false hle, Bool.and_false]; decide), Nat.le_of_lt (Nat.not_le.mp hle)⟩
    · obtain ⟨f, hf, hle⟩ := ih he
      rw [hf]
      dsimp only
      split
      next hx =>
        rw [Bool.and_eq_true, decide_eq_true_eq, decide_eq_true_eq] at hx
        exact ⟨_, rfl, hx.2.trans hle⟩
      next => exact ⟨_, rfl, hle⟩

/-- The one linked booking that covers the slot is the delivery target (R129). -/
theorem State.deliveryTarget_of_covering {s : State} {room : Nat} {e : Nat × Rec} (he : e ∈ s.orderedToday room)
    (hc : e.2.start ≤ s.currentSlot ∧ s.currentSlot < e.2.stop)
    (honly : ∀ f, f ∈ s.orderedToday room → f.2.start ≤ s.currentSlot → s.currentSlot < f.2.stop → f = e) :
    s.deliveryTarget room = some e.2 := by
  rw [State.deliveryTarget_eq]
  cases hf : (s.orderedToday room).find? (fun e => e.2.covers s.currentSlot) with
  | none => exact absurd ((Rec.covers_iff _ _).mpr hc) (List.find?_eq_none.mp hf e he)
  | some f =>
    obtain ⟨h1, h2⟩ := (Rec.covers_iff _ _).mp (List.find?_some hf :)
    rw [honly f (List.mem_of_find?_eq_some hf) h1 h2]

/-- Where none covers the slot, the linked booking with the lowest start slot after it is the target (R129). -/
theorem State.deliveryTarget_of_next {s : State} {room : Nat} {e : Nat × Rec} (he : e ∈ s.orderedToday room)
    (hlt : s.currentSlot < e.2.start)
    (hno : ∀ f, f ∈ s.orderedToday room → ¬ (f.2.start ≤ s.currentSlot ∧ s.currentSlot < f.2.stop))
    (hfirst : ∀ f, f ∈ s.orderedToday room → s.currentSlot < f.2.start → f = e ∨ e.2.start < f.2.start) :
    s.deliveryTarget room = some e.2 := by
  have hnone : (s.orderedToday room).find? (fun e => e.2.covers s.currentSlot) = none :=
    List.find?_eq_none.mpr fun f hf hcover => hno f hf ((Rec.covers_iff _ _).mp hcover)
  obtain ⟨f, hf, hle⟩ := firstAfter_le he hlt
  obtain ⟨hmem, hafter⟩ := firstAfter_mem hf
  rw [State.deliveryTarget_eq, hnone, hf, (hfirst f hmem hafter).resolve_right (by omega)]
  rfl

theorem State.deliveryTarget_eq_none {s : State} {room : Nat}
    (h : ∀ f, f ∈ s.orderedToday room → f.2.start ≤ s.currentSlot ∧ f.2.stop ≤ s.currentSlot) :
    s.deliveryTarget room = none := by
  have hnone : (s.orderedToday room).find? (fun e => e.2.covers s.currentSlot) = none :=
    List.find?_eq_none.mpr fun f hf hcover => by
      have := (Rec.covers_iff _ _).mp hcover
      have := h f hf
      omega
  rw [State.deliveryTarget_eq, hnone]
  cases hf : firstAfter s.currentSlot (s.orderedToday room) with
  | none => rfl
  | some f =>
    obtain ⟨hmem, hafter⟩ := firstAfter_mem hf
    have := h f hmem
    omega

/-- A DELIVERED press at a room whose target has an order (R129, R161). -/
theorem press_delivered_of_target {s : State} {room : Nat} {r : Rec} {h : Handle} {o : Order}
    (ht : s.deliveryTarget room = some r) (ho : r.order = some h) (hn : Pool.named? s.plan.orders h = some o) :
    s.press room .delivered = if o.state = .preparing ∨ o.state = .dispatched
      then (s.deliverOrder h.index o).recompute room else s := by
  change s.deliveredKey room = _
  unfold State.deliveredKey
  rw [ht, Option.bind_some, ho]
  dsimp only
  simp only [hn]
  cases o.state <;> rfl

theorem press_delivered_of_none {s : State} {room : Nat} (ht : s.deliveryTarget room = none) :
    s.press room .delivered = s := by
  change s.deliveredKey room = _
  unfold State.deliveredKey
  rw [ht, Option.bind_none]

/-! ### The sensor test at a minute advance -/

/-- Where one room has sensor check-in, a minute advance tests that room alone (R80). -/
theorem foldl_sensorTestAtAdvance {room : Nat} (l : List Nat) (hl : l.Nodup) (s : State)
    (hoff : ∀ r, r ≠ room → (s.room r).options.sensorCheckin = false) :
    l.foldl State.sensorTestAtAdvance s = if room ∈ l then s.sensorTestAtAdvance room else s := by
  have hrest : ∀ (l : List Nat) (t : State), room ∉ l → (∀ r, r ≠ room → (t.room r).options.sensorCheckin = false) →
      l.foldl State.sensorTestAtAdvance t = t := by
    intro l
    induction l with
    | nil => exact fun _ _ _ => rfl
    | cons r l ih =>
      intro t hnot ht
      rw [List.mem_cons, not_or] at hnot
      rw [List.foldl_cons, sensorTestAtAdvance_of_off (ht r (Ne.symm hnot.1))]
      exact ih t hnot.2 ht
  induction l with
  | nil => rfl
  | cons r l ih =>
    obtain ⟨hnot, hnodup⟩ := List.nodup_cons.mp hl
    rw [List.foldl_cons]
    by_cases hr : r = room
    · subst hr
      rw [if_pos List.mem_cons_self]
      refine hrest l _ hnot fun q hq => ?_
      rw [options_of_settings (settings_of_sameBut (sensorTestAtAdvance_sameBut s r) (by decide) q)]
      exact hoff q hq
    · rw [sensorTestAtAdvance_of_off (hoff r hr), ih hnodup]
      exact if_congr (by rw [List.mem_cons]; exact (or_iff_right (Ne.symm hr)).symm) rfl rfl

/-- The sensor test of a ready room checks in its one open booking that is not due (R80). -/
theorem sensorTestAtAdvance_of_only {s : State} {room i : Nat} {r : Rec} (hready : s.sensorReady room = true)
    (hm : (i, r) ∈ s.liveRecs) (hr : r.room = room) (ho : s.windowOpen r = true) (hdue : r.deadline.due = false)
    (honly : ∀ e, e ∈ s.liveRecs → e.2.room = room → e = (i, r)) :
    s.sensorTestAtAdvance room = s.checkIn i r .panel .sensor := by
  have hall : ∀ e, e ∈ s.liveRecs.filter (fun e => e.2.room = room && s.windowOpen e.2) → e = (i, r) := fun e he =>
    honly e (State.mem_openWindows.mp he).1 (State.mem_openWindows.mp he).2.1
  have hfirst : s.checkInFirst (i, r) = true := by
    unfold State.checkInFirst
    rw [if_neg (by rw [hdue]; decide)]
  have hnodue : (s.liveRecs.filter (fun e => e.2.room = room && s.windowOpen e.2)).any (fun e => e.2.deadline.due) =
      false := List.any_eq_false.mpr fun e he => by rw [hall e he, hdue]; decide
  have hnoarrival : (s.liveRecs.filter (fun e => e.2.room = room && s.windowOpen e.2)).any s.arrivesFirst = false :=
    List.any_eq_false.mpr fun e he => by
      rw [hall e he]
      unfold State.arrivesFirst
      rw [hfirst, Bool.not_true, Bool.and_false, Bool.false_and, Bool.false_and]
      decide
  have htarget : earliest ((s.liveRecs.filter (fun e => e.2.room = room && s.windowOpen e.2)).filter s.checkInFirst) =
      some (i, r) := by
    have hmem := List.mem_filter.mpr ⟨State.mem_openWindows.mpr ⟨hm, hr, ho⟩, hfirst⟩
    cases he : earliest ((s.liveRecs.filter (fun e => e.2.room = room && s.windowOpen e.2)).filter s.checkInFirst) with
    | none =>
      rw [earliest_eq_none.mp he] at hmem
      cases hmem
    | some e => rw [hall e (List.mem_filter.mp (earliest_mem he)).1]
  unfold State.sensorTestAtAdvance
  rw [if_pos hready]
  dsimp only
  rw [hnodue, hnoarrival, htarget]
  rfl

end Sys2Proof.Machine
end

section
/-! SUPPORT. The acts at the room door (O41), settled: each clause from the rules of the key or test it is about. -/

namespace Sys2Proof.Machine

/-! ### The sensor test at a minute advance -/

/-- The state in which a minute advance makes its sensor tests: marked, and the vacancy timers run (R13, R93). -/
def State.timersRun (s : State) : State := roomNumbers.foldl State.vacancyTick s.markAllDue

theorem timersRun_sameBut (s : State) :
    sameBut [.records, .orders, .waitlist, .displays, .vacancy] s s.timersRun :=
  sameBut_trans (sameBut_mono (by decide) (markAllDue_sameBut s))
    (sameBut_mono (by decide) (sameBut_foldl vacancyTick_sameBut roomNumbers _))

theorem rec?_timersRun (s : State) (i : Nat) : s.timersRun.rec? i = (s.rec? i).map (Rec.markDue s.now) :=
  (rec?_of_sameBut (sameBut_foldl vacancyTick_sameBut roomNumbers s.markAllDue) (by decide) i).trans
    ((markAllDue_spec s).1 i)

theorem timersRun_tablesOk {s : State} (h : s.tablesOk) : s.timersRun.tablesOk :=
  Does.tablesOk (i := .minuteAdvance) (Act.markAllDue.does.trans (Does.foldl does_vacancyTick _ _)) h

/-- A minute advance with one room under sensor check-in, whose one record is an open booking not yet due (R80). -/
theorem advanceEffects_of_oneSensor {s : State} {room i : Nat} {r : Rec} {q : Position} (ht : s.tablesOk)
    (hserving : s.serving = true) (hroom : room < 160)
    (hsensor : ∀ k, (s.room k).options.sensorCheckin = decide (k = room)) (hq : s.linkedPosition? room = some q)
    (hocc : q.debounced = some .occupied) (hr : s.rec? i = some r) (hrr : r.room = room) (hstate : r.state = .confirmed)
    (honly : ∀ j b, s.rec? j = some b → b.room = room → j = i) (hopen : s.windowOpen r = true)
    (hdue : r.deadline.due = false) (hnot : s.now < r.deadline.minute) :
    s.advanceEffects = s.timersRun.checkIn i r .panel .sensor ∧ s.timersRun.rec? i = some r := by
  have hsame := timersRun_sameBut s
  have hsettings := settings_of_sameBut hsame (by decide)
  have hclock : s.timersRun.clock = s.clock := clock_of_sameBut hsame (by decide)
  have hnow : s.timersRun.now = s.now := by unfold State.now State.nowMinute; rw [hclock]
  have hri : s.timersRun.rec? i = some r := by
    rw [rec?_timersRun, hr, Option.map_some, Rec.markDue_of_not_due hdue, decide_eq_false (Int.not_le.mpr hnot), ← hdue]
  have hone : ∀ e, e ∈ s.timersRun.liveRecs → e.2.room = room → e = (i, r) := by
    intro e he hroome
    have hre := State.rec?_of_mem_liveRecs (timersRun_tablesOk ht) he
    have hrs := hre
    rw [rec?_timersRun] at hrs
    obtain ⟨b, hb, hbe⟩ := Option.map_eq_some_iff.mp hrs
    have hbroom : b.room = room := by
      rw [← hroome, ← hbe]
      unfold Rec.markDue
      split <;> rfl
    have hi : e.1 = i := honly e.1 b hb hbroom
    rw [hi, hri] at hre
    exact Prod.ext hi (Option.some.inj hre).symm
  have hready : s.timersRun.sensorReady room = true := by
    have hmode : s.timersRun.serving = s.serving := by
      unfold State.serving
      rw [show s.timersRun.site.mode = s.site.mode from hsame .mode (by decide)]
    have hcover : s.timersRun.coveringArrived room = none := by
      cases hc : s.timersRun.coveringArrived room with
      | none => rfl
      | some e =>
        obtain ⟨hlive, hroome, -, harrived, -⟩ := State.coveringArrived_covers hc
        rw [hone e hlive hroome, hstate] at harrived
        cases harrived
    unfold State.sensorReady
    rw [hmode, hserving, options_of_settings (hsettings room), hsensor, State.linkedPosition?_of_sameBut hsame (by decide)
      (by decide), hq, hcover]
    simp [hocc]
  refine ⟨?_, hri⟩
  have hfold := foldl_sensorTestAtAdvance (room := room) roomNumbers List.nodup_range s.timersRun fun k hk => by
    rw [options_of_settings (hsettings k), hsensor]
    exact decide_eq_false hk
  rw [if_pos (show room ∈ roomNumbers from List.mem_range.mpr hroom)] at hfold
  refine hfold.trans (sensorTestAtAdvance_of_only hready (State.mem_liveRecs_of_rec? hri) hrr ?_ hdue hone)
  rw [State.windowOpen_iff] at hopen ⊢
  rw [hnow]
  exact hopen

/-- Such a minute advance as an instruction (R13, R80). -/
theorem exec_minuteAdvance_of_oneSensor {s : State} {room i : Nat} {r : Rec} {q : Position} (hset : s.clock.set = true)
    (hlt : s.clock.minute < 1439) (hold : s.clock.oldDay = false) (hout : s.outstanding = []) (ht : s.tablesOk)
    (hserving : s.serving = true) (hroom : room < 160)
    (hsensor : ∀ k, (s.room k).options.sensorCheckin = decide (k = room)) (hq : s.linkedPosition? room = some q)
    (hocc : q.debounced = some .occupied) (hr : s.rec? i = some r) (hrr : r.room = room) (hkind : r.kind = .booking)
    (hstate : r.state = .confirmed) (honly : ∀ j b, s.rec? j = some b → b.room = room → j = i)
    (hopen : r.openingMinute ≤ (s.clock.minute : Int) + 1) (hnot : (s.clock.minute : Int) + 1 < r.deadline.minute) :
    ∃ t, exec .minuteAdvance s = .next t ∧ t.clock = { s.clock with minute := s.clock.minute + 1 } ∧
      t.rec? i = some { r with
        state := .arrived
        arrival := some (if (s.clock.minute : Int) + 1 < r.startMinute then r.start
          else (s.clock.minute + 1 - r.plane * 1440) / 5)
        flags := { r.flags with unverified := false }
        deadline := ⟨.endAt, r.endMinute, false⟩, rev := satAdd 4294967295 s.book.rev 1 } ∧
      t.book.rev = satAdd 4294967295 s.book.rev 1 ∧
      sameBut ([.clock, .records, .revision, .orders, .waitlist, .displays, .displayRevs, .vacancy] ++ noticeParts) s t := by
  have hadvance : s.advanceMinute = s.bumpMinute.advanceEffects := by
    unfold State.advanceMinute
    rw [if_pos hset, settle_of_nothing hout hold]
  have hbump : s.bumpMinute.clock = { s.clock with minute := s.clock.minute + 1 } := by
    change ({ s.clock with minute := s.clock.minute + 1, oldDay := s.clock.minute + 1 == Config.dayMinutes } : Clock) = _
    rw [beq_false_of_ne (by unfold Config.dayMinutes; omega), ← hold]
  have hwindow : s.bumpMinute.windowOpen r = true :=
    (State.windowOpen_iff _ _).mpr ⟨hkind, hstate, by rw [now_bumpMinute]; exact hopen⟩
  obtain ⟨heffects, -⟩ := advanceEffects_of_oneSensor (s := s.bumpMinute) ht hserving hroom hsensor hq hocc hr hrr hstate
    honly hwindow ((notDue_of_outstanding hout).1 i r hr) (by rw [now_bumpMinute]; exact hnot)
  have hsame := timersRun_sameBut s.bumpMinute
  have hclock : s.bumpMinute.timersRun.clock = { s.clock with minute := s.clock.minute + 1 } :=
    (clock_of_sameBut hsame (by decide)).trans hbump
  have hminute : s.bumpMinute.timersRun.nowMinute = s.clock.minute + 1 := by
    unfold State.nowMinute
    rw [hclock]
    exact if_neg (by rw [hold]; decide)
  have harrival : s.bumpMinute.timersRun.arrivalSlot r = if (s.clock.minute : Int) + 1 < r.startMinute then r.start
      else (s.clock.minute + 1 - r.plane * 1440) / 5 := by
    unfold State.arrivalSlot State.now
    rw [hminute, Nat.cast_succ]
  have hrev : s.bumpMinute.timersRun.book.rev = s.book.rev :=
    (rev_of_sameBut hsame (by decide) : s.bumpMinute.timersRun.book.rev = s.bumpMinute.book.rev)
  obtain ⟨hchanged, -, hframe⟩ := checkIn_spec s.bumpMinute.timersRun i r .panel .sensor
  have hrecord := hchanged.record
  unfold State.checkedIn at hrecord
  rw [harrival, hrev] at hrecord
  rw [← hrev]
  refine ⟨_, congrArg Host.Outcome.next (hadvance.trans heffects), (clock_of_sameBut hframe (by decide)).trans hclock, ?_,
    hchanged.rev, sameBut_trans (sameBut_mono (by decide) (bumpMinute_sameBut s))
      (sameBut_trans (sameBut_mono (by decide) hsame) (sameBut_mono (by decide) hframe))⟩
  rw [hrev]
  exact hrecord

/-! ### A walk-up -/

/-- What a walk-up leaves (R91). -/
theorem bookNow_spec (s : State) (room stop i : Nat) {u : State}
    (hu : u = ((s.changeRec i (walkupRec room (s.room room) s.currentSlot stop)).raise
      { kind := .walkup, subject := .booking (s.recHandle i) }).roomChanged room) :
    RecordChanged s u i (walkupRec room (s.room room) s.currentSlot stop) room ∧
    u.ports = s.portsAfter (satAdd 4294967295 s.book.rev 1)
      { kind := .walkup, subject := .booking (s.recHandle i) } ∧
    sameBut checkInParts s u := by
  subst hu
  obtain ⟨h1, h2, h3⟩ := recordChanged_roomChanged (s := s) (i := i)
    (n := walkupRec room (s.room room) s.currentSlot stop) room
    (raise_sameBut (s.changeRec i (walkupRec room (s.room room) s.currentSlot stop))
      { kind := .walkup, subject := .booking (s.recHandle i) }) (List.Subset.refl _)
  exact ⟨h1, h2.trans (ports_raise (s := s) (t := s.changeRec i (walkupRec room (s.room room) s.currentSlot stop))
    rfl rfl rfl rfl _), sameBut_mono (by decide) h3⟩

/-! ### A delivery -/

/-- What a delivery by key leaves (R161). -/
theorem deliverOrder_recompute_spec (s : State) (j room : Nat) (o : Order) :
    OrderChanged s ((s.deliverOrder j o).recompute room) j { o with state := .delivered, deadline := none } ∧
    displayFollows s ((s.deliverOrder j o).recompute room) room ∧
    sameOtherRooms room s ((s.deliverOrder j o).recompute room) ∧
    sameBut [.orders, .revision, .displayRevs, .displays] s ((s.deliverOrder j o).recompute room) := by
  have h1 := deliverOrder_sameBut s j o
  have h2 := recompute_sameBut (s.deliverOrder j o) room
  exact ⟨(deliverOrder_changed s j o).after h2 (by decide),
    displayFollows_recompute (State.shownAlike_of_sameBut h1 room (by decide)),
    sameOtherRooms_trans (sameOtherRooms_of_sameBut room h1 (by decide) (by decide) (by decide))
      (recompute_sameOtherRooms _ room),
    sameBut_trans (sameBut_mono (by decide) h1) (sameBut_mono (by decide) h2)⟩

/-- Settles O41. -/
theorem doorActs : Obligations.DoorActs := by
  unfold Obligations.DoorActs
  refine ⟨State.windowOpen_iff, fun s room covering hdef => ⟨fun e he => (hdef e).mpr (State.coveringArrived_covers he),
    fun hnone e he => ?_⟩, ?sensor, ?checkIn, ?noWindow, ?noCover, ?endNow, ?bookNow, ?noWalkup, ?span, ?extend,
    ?delivered, ?noTarget⟩
  · obtain ⟨hlive, hcover⟩ := (hdef e).mp he
    exact State.coveringArrived_none_covers hnone hlive hcover
  case sensor =>
    intro s room i r q hset hlt hold hout ht hserving hroom hsensor hq hocc hr hrr hkind hstate honly hopen hnot
    exact exec_minuteAdvance_of_oneSensor hset hlt hold hout ht hserving hroom hsensor hq hocc hr hrr hkind hstate honly
      hopen hnot
  case checkIn =>
    intro s room i r hm hr ho hfirst
    obtain ⟨h1, h2, h3⟩ := checkIn_spec s i r .panel .checkIn
    have hpress : s.press room .checkIn = s.checkIn i r .panel .checkIn := by
      change s.checkInKey room = _
      unfold State.checkInKey
      rw [State.checkInTarget_of_first hm hr ho hfirst]
    subst hr
    exact ⟨_, hpress, rfl, h1.record, h1.handle, h1.others, h1.rev, h1.room, h2, h3⟩
  case noWindow =>
    rintro s room _ hno rfl
    change s.checkInKey room = _
    unfold State.checkInKey
    rw [State.checkInTarget_eq_none hno]
  case noCover =>
    rintro s room _ hnone (rfl | rfl)
    · change s.endNowKey room = _
      unfold State.endNowKey
      rw [hnone]
    · change s.extendKey room = _
      unfold State.extendKey
      rw [hnone]
  case endNow =>
    intro s room i r n hc ho _ hn
    obtain ⟨-, hr, -⟩ := State.coveringArrived_covers hc
    subst hn
    subst hr
    obtain ⟨h1, h2, -, h4⟩ := finish_spec (s := s) (i := i) (r := s.shortened r) (fin := .ended) (a := .panel)
      (notifyEarlyEnd_sameBut .key .endNow) false ho
    exact ⟨_, press_endNow_of_covering hc, h1, h2, h4⟩
  case bookNow =>
    intro s room stop i hspan hi
    obtain ⟨h1, h2, h3⟩ := bookNow_spec s room stop i rfl
    refine ⟨_, press_bookNow_of_span hspan ((Pool.lowestFree_iff _ _ _).mpr hi), h1.record.trans ?_, h1.others, h1.rev,
      h1.room, h2, h3⟩
    have hminute : slotMinute 0 stop = 5 * (stop : Int) := by
      unfold slotMinute
      omega
    unfold walkupRec
    rw [hminute]
  case noWalkup =>
    intro s room h
    exact press_bookNow_eq_self (h.imp id (Pool.lowestFree_eq_none (cap := Config.bookCap)).mpr)
  case span => exact fun s room stop hl => State.walkupSpan_iff hl stop
  case extend =>
    intro s room i r fit hc hfit
    obtain ⟨-, hr, -⟩ := State.coveringArrived_covers hc
    have hfit' : ∀ k, fit k ↔ fitAllows r (s.following i r) k = true := fun k =>
      (hfit k).trans (fitAllows_iff r _ k).symm
    refine ⟨fun h => (press_extend_of_covering hc).trans (if_pos ?_), fun k h8 h1 h3 hk hmax => ?_⟩
    · exact h.symm.imp (fun hno => State.extensionFit_eq_zero hfit' hno.1 hno.2.1 hno.2.2) id
    · have hpress := press_extend_of_covering hc
      rw [State.extensionFit_of_greatest hfit' h1 h3 hk hmax, if_neg (by omega)] at hpress
      obtain ⟨g1, g2, g3⟩ := extendRec_spec s i r k .panel
      subst hr
      exact ⟨_, hpress, g1.record, g1.handle, g1.others, g1.rev, g1.room, g2, g3⟩
  case delivered =>
    intro s room i r h o linked hdef hlinked ho hn htarget
    have hmem : ∀ e, e ∈ s.orderedToday room ↔ linked e := fun e => State.mem_orderedToday.trans (hdef e).symm
    have ht : s.deliveryTarget room = some r := by
      rcases htarget with ⟨hlo, hhi, honly⟩ | ⟨hlt, hno, hfirst⟩
      · exact State.deliveryTarget_of_covering ((hmem _).mpr hlinked) ⟨hlo, hhi⟩ fun f hf =>
          honly f ((hmem f).mp hf)
      · exact State.deliveryTarget_of_next ((hmem _).mpr hlinked) hlt (fun f hf => hno f ((hmem f).mp hf))
          fun f hf => hfirst f ((hmem f).mp hf)
    have hpress := press_delivered_of_target ht ho hn
    refine ⟨fun hs => ?_, fun h1 h2 => hpress.trans (if_neg (not_or.mpr ⟨h1, h2⟩))⟩
    obtain ⟨g1, g2, g3, g4⟩ := deliverOrder_recompute_spec s h.index room o
    exact ⟨_, hpress.trans (if_pos hs), g1.order, g1.others, g1.rev, g2, g3, g4⟩
  case noTarget =>
    intro s room h
    refine press_delivered_of_none (State.deliveryTarget_eq_none fun f hf => ?_)
    obtain ⟨hlive, hroom, hkind, hplane, ho⟩ := State.mem_orderedToday.mp hf
    exact h f.1 f.2 hlive hroom hkind hplane ho

end Sys2Proof.Machine
end

section
/-! SUPPORT. A move carried out (R50, R51, R165): the booking's change, its order's part, and the two rooms that follow. -/

namespace Sys2Proof.Machine

/-! ### Two rooms follow -/

/-- The displays and timers of two rooms follow a change (R92, R123). -/
structure BothFollow (s u : State) (a b : Nat) : Prop where
  oldDisplay : displayFollows s u a
  newDisplay : displayFollows s u b
  oldTimer : timerFollows s u a
  newTimer : timerFollows s u b

/-- The rooms a booking leaves and enters, or its one room, brought up to date (R51). -/
def State.bothChanged (v : State) (a b : Nat) : State :=
  if b = a then v.roomChanged a else (v.roomChanged a).roomChanged b

theorem bothChanged_sameBut (v : State) (a b : Nat) : sameBut displayParts v (v.bothChanged a b) := by
  unfold State.bothChanged
  split
  · exact roomChanged_sameBut v a
  · exact sameBut_trans (roomChanged_sameBut v a) (roomChanged_sameBut _ b)

theorem bothChanged_ports (v : State) (a b : Nat) : (v.bothChanged a b).ports = v.ports := by
  unfold State.bothChanged
  split
  · exact roomChanged_ports v a
  · exact (roomChanged_ports _ b).trans (roomChanged_ports v a)

theorem bothFollow_bothChanged {l : List Part} {s v : State} (a b : Nat) (h : sameBut l s v)
    (hl : ∀ x ∈ displayParts, x ∉ l) : BothFollow s (v.bothChanged a b) a b := by
  obtain ⟨hda, hta, hoa⟩ := roomFollows_roomChanged a h hl
  unfold State.bothChanged
  by_cases hab : b = a
  · subst hab
    rw [if_pos rfl]
    exact ⟨hda, hda, hta, hta⟩
  · rw [if_neg hab]
    obtain ⟨hdb, ⟨hsubject, hminutes⟩, hob⟩ := roomFollows_roomChanged b (sameBut_refl [] (v.roomChanged a))
      fun _ _ => List.not_mem_nil
    have hsame := roomChanged_sameBut (v.roomChanged a) b
    refine ⟨hda.after (State.seenAlike_of_sameBut hsame a (by decide))
      (State.shownAlike_of_otherRooms hob (Ne.symm hab)), hdb.from (State.shownAlike_of_otherRooms hoa hab),
      hta.after (pool_of_sameBut hsame (by decide)) (clock_of_sameBut hsame (by decide)) (hob a (Ne.symm hab)).2.2,
      hsubject, ?_⟩
    rw [← (hoa b hab).2.2]
    exact hminutes

/-! ### The booking's change -/

/-- The booking's own change in a move, with its notice (R50, R55). -/
def State.relocated (s : State) (p : Port) (h : Handle) (owner : Owner) (m : Rec) : State :=
  (s.changeRec h.index m).raiseChanged h owner (.port p) .move []

theorem carryMove_eq (s : State) (p : Port) (h : Handle) (r n : Rec) (plan : OrderPlan) :
    s.carryMove p h r n plan =
      (((s.relocated p h r.owner (s.movedRec r n plan)).applyPlan p plan).bothChanged r.room n.room).promotionScan := rfl

theorem relocated_sameBut (s : State) (p : Port) (h : Handle) (owner : Owner) (m : Rec) :
    sameBut ([.records, .revision] ++ noticeParts) s (s.relocated p h owner m) :=
  sameBut_trans (sameBut_mono (by decide) (changeRec_sameBut s h.index m))
    (sameBut_mono (by decide) (raiseChanged_sameBut _ _ _ _ _ _))

theorem rev_relocated (s : State) (p : Port) (h : Handle) (owner : Owner) (m : Rec) :
    (s.relocated p h owner m).book.rev = satAdd 4294967295 s.book.rev 1 :=
  rev_of_sameBut (raiseChanged_sameBut (s.changeRec h.index m) h owner (.port p) .move []) (by decide)

theorem relocated_ports (s : State) (p : Port) (h : Handle) (owner : Owner) (m : Rec) :
    (s.relocated p h owner m).ports =
      s.portsAfterChange (satAdd 4294967295 s.book.rev 1) h owner (.port p) .move [] :=
  raiseChanged_ports (s := s) (t := s.changeRec h.index m) rfl rfl rfl rfl _ _ _ _ _

theorem finishStep_relocated (s : State) (p : Port) (h : Handle) (owner : Owner) (m : Rec) :
    FinishStep s (s.relocated p h owner m) :=
  ⟨orders_of_sameBut (relocated_sameBut s p h owner m) (by decide), relocated_sameBut s p h owner m .load (by decide), by
    rw [rev_relocated, satAdd_satAdd]⟩

/-- What a moved booking leaves: its record, the other records, and the rooms that follow. -/
structure Relocated (s u : State) (h : Handle) (m : Rec) (a b : Nat) : Prop where
  record : u.rec? h.index = some { m with rev := satAdd 4294967295 s.book.rev 1 }
  handle : u.recHandle h.index = h
  others : sameOtherRecords h.index s u
  follow : BothFollow s u a b

/-- A moved booking with whatever its order does after it, which leaves records and rooms alone. -/
theorem relocated_spec {s v : State} {p : Port} {h : Handle} {r m : Rec} {owner : Owner} (a b : Nat)
    (hn : Pool.named? s.book.pool h = some r) (hv : sameBut orderParts (s.relocated p h owner m) v) :
    Relocated s (v.bothChanged a b) h m a b := by
  have hboth := bothChanged_sameBut v a b
  have hafter : sameBut (orderParts ++ displayParts) (s.changeRec h.index m) (v.bothChanged a b) :=
    sameBut_trans (sameBut_mono (by decide) (raiseChanged_sameBut (s.changeRec h.index m) h owner (.port p) .move []))
      (sameBut_trans (sameBut_mono (by decide) hv) (sameBut_mono (by decide) hboth))
  obtain ⟨hrec, hhandle, hothers⟩ := changeRec_after hafter (by decide)
  have hbefore : sameBut (orderParts ++ [.records]) s v :=
    sameBut_trans (sameBut_mono (by decide) (relocated_sameBut s p h owner m)) (sameBut_mono (by decide) hv)
  exact ⟨hrec, hhandle.trans (Pool.handle_of_named? hn).1, hothers, bothFollow_bothChanged a b hbefore (by decide)⟩

/-- A move that leaves the orders alone (R50). -/
theorem relocated_alone {s : State} {p : Port} {h : Handle} {r m : Rec} {owner : Owner} (a b : Nat)
    (hn : Pool.named? s.book.pool h = some r) {u : State} (hu : u = (s.relocated p h owner m).bothChanged a b) :
    Relocated s u h m a b ∧ u.book.rev = satAdd 4294967295 s.book.rev 1 ∧
    u.ports = s.portsAfterChange (satAdd 4294967295 s.book.rev 1) h owner (.port p) .move [] ∧
    sameBut checkInParts s u := by
  subst hu
  have hboth := bothChanged_sameBut (s.relocated p h owner m) a b
  exact ⟨relocated_spec a b hn (sameBut_refl _ _), (rev_of_sameBut hboth (by decide)).trans (rev_relocated _ _ _ _ _),
    (bothChanged_ports _ _ _).trans (relocated_ports _ _ _ _ _),
    sameBut_trans (sameBut_mono (by decide) (relocated_sameBut s p h owner m)) (sameBut_mono (by decide) hboth)⟩

/-! ### The order's part -/

/-- A move that re-admits the ACCEPTED order (R147, R165). -/
theorem relocated_readmit {s : State} {p : Port} {h k : Handle} {r m : Rec} {o : Order} {owner : Owner} (a b : Nat)
    (q : CaterRequest) (ad : Admission) (hn : Pool.named? s.book.pool h = some r)
    (ho : Pool.named? s.plan.orders k = some o) {u : State}
    (hu : u = ((s.relocated p h owner m).applyReadmission k.index o q ad).bothChanged a b) :
    Relocated s u h m a b ∧
    (admittedOrder o q ad = o → u.book.rev = satAdd 4294967295 s.book.rev 1 ∧ sameBut checkInParts s u) ∧
    (admittedOrder o q ad ≠ o →
      u.order? k.index = some { admittedOrder o q ad with rev := satAdd 4294967295 s.book.rev 2 } ∧
      Pool.handle u.plan.orders k.index = k ∧ sameOtherOrders k.index s u ∧
      (∀ w g, g < 768 → (u.loadEntry w g).load =
        (s.loadEntry w g).load - o.shareIn w g + (admittedOrder o q ad).shareIn w g) ∧
      u.book.rev = satAdd 4294967295 s.book.rev 2) ∧
    sameBut (checkInParts ++ [.orders, .load]) s u := by
  have hrel := relocated_sameBut s p h owner m
  by_cases heq : admittedOrder o q ad = o
  · have happly : (s.relocated p h owner m).applyReadmission k.index o q ad = s.relocated p h owner m := if_pos heq
    rw [happly] at hu
    obtain ⟨h1, h2, -, h4⟩ := relocated_alone a b hn hu
    exact ⟨h1, fun _ => ⟨h2, h4⟩, fun hne => absurd heq hne, sameBut_mono (by decide) h4⟩
  · obtain ⟨hchanged, hhandle, hload, hframe⟩ := applyReadmission_spec (s := s.relocated p h owner m) (j := k.index) heq
    have hboth := bothChanged_sameBut ((s.relocated p h owner m).applyReadmission k.index o q ad) a b
    obtain ⟨horder, hothers, hrev⟩ := hchanged.after hboth (by decide)
    have hnext := (finishStep_relocated s p h owner m).next
    have horders := (finishStep_relocated s p h owner m).orders
    subst hu
    refine ⟨relocated_spec a b hn (sameBut_mono (by decide) hframe), fun h => absurd h heq, fun _ => ⟨?_, ?_, ?_,
      fun w g hg => ?_, hrev.trans hnext⟩, sameBut_trans (sameBut_mono (by decide) hrel)
        (sameBut_trans (sameBut_mono (by decide) hframe) (sameBut_mono (by decide) hboth))⟩
    · rw [horder, hnext]
    · rw [orders_of_sameBut hboth (by decide), hhandle, horders]
      exact (Pool.handle_of_named? ho).1
    · exact (finishStep_relocated s p h owner m).others hothers
    · rw [loadEntry_of_sameBut hboth (by decide), hload w g hg, loadEntry_of_sameBut hrel (by decide)]

/-- What DROP_CATERING makes of the order of a moved booking (R51, R165). -/
def dropPlan (j : Nat) (o : Order) : OrderPlan :=
  match o.state with
  | .accepted => .withdraw j o
  | .preparing | .dispatched => .forfeit j o
  | .delivered | .forfeit => .unlink j o

theorem dropPlan_clears (j : Nat) (o : Order) : (dropPlan j o).clearsLink = true ∧ (dropPlan j o).clampedCovers = none := by
  unfold dropPlan
  cases o.state <;> exact ⟨rfl, rfl⟩

theorem applyPlan_dropPlan {s t : State} (p : Port) {k : Handle} {o : Order} (hstep : FinishStep s t)
    (ho : Pool.named? s.plan.orders k = some o) :
    orderFollowed s (t.applyPlan p (dropPlan k.index o)) k o ∧ sameBut orderParts t (t.applyPlan p (dropPlan k.index o)) := by
  unfold dropPlan
  cases hs : o.state with
  | accepted => exact ⟨orderFollowed_withdrawOrder hstep ho hs, withdrawOrder_sameBut t k.index o false⟩
  | preparing => exact ⟨orderFollowed_forfeitOrder hstep (.inl hs) _ _, forfeitOrder_sameBut t k.index o true _ _⟩
  | dispatched => exact ⟨orderFollowed_forfeitOrder hstep (.inr hs) _ _, forfeitOrder_sameBut t k.index o true _ _⟩
  | delivered => exact ⟨orderFollowed_unlinkOrder hstep (.inl hs), unlinkOrder_sameBut t k.index o⟩
  | forfeit => exact ⟨orderFollowed_unlinkOrder hstep (.inr hs), unlinkOrder_sameBut t k.index o⟩

/-- A move with DROP_CATERING (R165). -/
theorem relocated_drop {s : State} {p : Port} {h k : Handle} {r m : Rec} {o : Order} {owner : Owner} (a b : Nat)
    (hn : Pool.named? s.book.pool h = some r) (ho : Pool.named? s.plan.orders k = some o) {u : State}
    (hu : u = ((s.relocated p h owner m).applyPlan p (dropPlan k.index o)).bothChanged a b) :
    Relocated s u h m a b ∧ orderFollowed s u k o ∧
    (o.state = .preparing ∨ o.state = .dispatched →
      u.ports = State.portsAfter
        { s with ports := s.portsAfterChange (satAdd 4294967295 s.book.rev 1) h owner (.port p) .move [] }
        (satAdd 4294967295 s.book.rev 2)
        { kind := .caterForfeit, subject := .order k, owner := some o.placing, hi := .cause .dropCatering
          lo := .actor (.port p), data := [.booking o.booking] }) ∧
    sameBut (checkInParts ++ orderParts) s u := by
  have hstep := finishStep_relocated s p h owner m
  have hrel := relocated_sameBut s p h owner m
  obtain ⟨hfollowed, hframe⟩ := applyPlan_dropPlan p hstep ho
  have hboth := bothChanged_sameBut ((s.relocated p h owner m).applyPlan p (dropPlan k.index o)) a b
  subst hu
  refine ⟨relocated_spec a b hn hframe, hfollowed.sameBut hboth (by decide), fun hs => ?_,
    sameBut_trans (sameBut_mono (by decide) hrel)
      (sameBut_trans (sameBut_mono (by decide) hframe) (sameBut_mono (by decide) hboth))⟩
  have hplan : dropPlan k.index o = .forfeit k.index o := by
    unfold dropPlan
    rcases hs with hs | hs <;> rw [hs]
  have hhandle : Pool.handle (s.relocated p h owner m).plan.orders k.index = k := by
    rw [hstep.orders]
    exact (Pool.handle_of_named? ho).1
  rw [bothChanged_ports, hplan]
  change ((s.relocated p h owner m).forfeitOrder k.index o true .dropCatering (.port p)).ports = _
  unfold State.forfeitOrder
  dsimp only
  rw [hhandle]
  exact ports_raise (s := { s with
      ports := s.portsAfterChange (satAdd 4294967295 s.book.rev 1) h owner (.port p) .move [] })
    (t := (s.relocated p h owner m).changeOrder k.index { o with state := .forfeit, deadline := none, booking := none })
    (hrel .routes (by decide)) (hrel .clock (by decide)) hstep.next (relocated_ports s p h owner m) _

end Sys2Proof.Machine
end

section
/-! SUPPORT. MOVE (O34): its tests in their order, the catering test, and the settling of the statement. -/

namespace Sys2Proof.Machine

/-! ### The checks before the placement -/

theorem moveOut_of_ranges {a : MoveArgs} (hany : a.room ≠ none ∨ a.plane ≠ none ∨ a.times ≠ none)
    (hroom : ∀ k, a.room = some k → k ≤ 159) (hplane : ∀ k, a.plane = some k → k ≤ 7)
    (htimes : ∀ t, a.times = some t →
      t.1 ≤ 1439 ∧ t.2 ≤ 1440 ∧ t.1 / 5 < (t.2 + 4) / 5 ∧ (t.2 + 4) / 5 - t.1 / 5 ≤ 144) : moveOut a = false := by
  have hempty : (a.room.isNone && a.plane.isNone && a.times.isNone) = false := by
    rw [Bool.eq_false_iff]
    intro h
    rw [Bool.and_eq_true, Bool.and_eq_true, Option.isNone_iff_eq_none, Option.isNone_iff_eq_none,
      Option.isNone_iff_eq_none] at h
    obtain ⟨⟨h1, h2⟩, h3⟩ := h
    rcases hany with h | h | h
    · exact h h1
    · exact h h2
    · exact h h3
  have hrooms : a.room.any roomOut = false := by
    cases hr : a.room with
    | none => rfl
    | some k => exact roomOut_eq_false (hroom k hr)
  have hplanes : a.plane.any (fun d => decide (7 < d)) = false := by
    cases hd : a.plane with
    | none => rfl
    | some k => exact decide_eq_false (Nat.not_lt.mpr (hplane k hd))
  have hspans : a.times.any (fun t => spanOut 0 t.1 t.2 || lengthOut (startSlot t.1) (stopSlot t.2) 144) = false := by
    cases ht : a.times with
    | none => rfl
    | some t =>
      obtain ⟨h1, h2, h3, h4⟩ := htimes t ht
      have h3' : ¬ stopSlot t.2 ≤ startSlot t.1 := Nat.not_le.mpr h3
      have h4' : ¬ 144 < stopSlot t.2 - startSlot t.1 := Nat.not_lt.mpr h4
      change (spanOut 0 t.1 t.2 || lengthOut (startSlot t.1) (stopSlot t.2) 144) = false
      unfold spanOut lengthOut
      rw [decide_eq_false h3', decide_eq_false h4', decide_eq_false (Nat.not_lt.mpr h1),
        decide_eq_false (Nat.not_lt.mpr h2)]
      rfl
  unfold moveOut
  rw [hempty, hrooms, hplanes, hspans]
  rfl

theorem Rec.movable_iff (r : Rec) : r.movable = true ↔
    r.state = .held ∨ (r.state = .confirmed ∧ r.flags.unverified = false) := by
  unfold Rec.movable
  simp only [Bool.or_eq_true, Bool.and_eq_true, decide_eq_true_eq, Bool.not_eq_true']

theorem runMove_of_named {s : State} {p : Port} {h : Handle} {r : Rec} {a : MoveArgs}
    (hc : s.changeCheck p .sched = none) (hi : h.index ≤ 2047) (hout : moveOut a = false)
    (hn : Pool.named? s.book.pool h = some r) (hk : r.kind = .booking) :
    runMove p h r.rev a s = if !r.movable then refuse s .state else tryMove p h a s r := by
  unfold runMove
  rw [hc, bookIndexOut_of_le hi, hout]
  exact withRecord_of_named _ hn hk

/-! ### The placement tests, in their order (R49) -/

theorem tryMove_of_closed {s : State} {p : Port} {h : Handle} {a : MoveArgs} {r n : Rec} (hn : s.movedTo r a = n)
    (ho : (s.room n.room).isOpen = false) : tryMove p h a s r = refuse s .state := by
  unfold tryMove
  dsimp only
  rw [hn, ho]
  rfl

/-- A new start that has passed (R49). -/
theorem lateTest_iff (s : State) (r n : Rec) :
    ((!(n.plane == r.plane) || !(n.start == r.start)) && s.startPassed n.plane n.start) = true ↔
      ¬ (n.plane = r.plane ∧ n.start = r.start) ∧ n.plane = 0 ∧ n.start < s.currentSlot := by
  unfold State.startPassed
  rw [Bool.and_eq_true, Bool.or_eq_true, Bool.not_eq_true', Bool.not_eq_true', beq_eq_false_iff_ne, beq_eq_false_iff_ne,
    Bool.and_eq_true, beq_iff_eq, decide_eq_true_eq, not_and_or]

theorem tryMove_of_late {s : State} {p : Port} {h : Handle} {a : MoveArgs} {r n : Rec} (hn : s.movedTo r a = n)
    (ho : (s.room n.room).isOpen = true) (hne : ¬ (n.plane = r.plane ∧ n.start = r.start)) (h0 : n.plane = 0)
    (hlt : n.start < s.currentSlot) : tryMove p h a s r = refuse s .tooLate := by
  have htest := (lateTest_iff s r n).mpr ⟨hne, h0, hlt⟩
  unfold tryMove
  dsimp only
  rw [hn, ho, htest]
  rfl

/-- A destination that is open and whose start has not passed, or is the present one (R49). -/
structure State.Reachable (s : State) (r n : Rec) : Prop where
  isOpen : (s.room n.room).isOpen = true
  start : (n.plane = r.plane ∧ n.start = r.start) ∨ ¬ (n.plane = 0 ∧ n.start < s.currentSlot)

theorem State.Reachable.notLate {s : State} {r n : Rec} (hr : s.Reachable r n) :
    ((!(n.plane == r.plane) || !(n.start == r.start)) && s.startPassed n.plane n.start) = false := by
  rw [Bool.eq_false_iff]
  intro h
  obtain ⟨hne, hpassed⟩ := (lateTest_iff s r n).mp h
  exact hr.start.elim hne fun hnot => hnot hpassed

theorem tryMove_of_full {s : State} {p : Port} {h : Handle} {a : MoveArgs} {r n : Rec} (hn : s.movedTo r a = n)
    (hr : s.Reachable r n) {k : Nat} (hk : r.attendees = some k) (hlt : (s.room n.room).seats < k) :
    tryMove p h a s r = refuse s .capacity := by
  have hfull : r.attendees.any (fun k => decide ((s.room n.room).seats < k)) = true := by
    rw [hk]
    exact decide_eq_true hlt
  unfold tryMove
  dsimp only
  rw [hn, hr.isOpen, hr.notLate, hfull]
  rfl

theorem seats_suffice {s : State} {r n : Rec} (hs : ∀ k, r.attendees = some k → k ≤ (s.room n.room).seats) :
    r.attendees.any (fun k => decide ((s.room n.room).seats < k)) = false := by
  cases hk : r.attendees with
  | none => rfl
  | some k => exact decide_eq_false (Nat.not_lt.mpr (hs k hk))

theorem tryMove_of_conflict {s : State} {p : Port} {h : Handle} {a : MoveArgs} {r n : Rec} (hn : s.movedTo r a = n)
    (hr : s.Reachable r n) (hs : ∀ k, r.attendees = some k → k ≤ (s.room n.room).seats) {i : Nat}
    (hi : s.firstConflict n.room n.plane n.padStart n.padEnd (some h.index) = some i) :
    tryMove p h a s r = refuse s .conflict (.booking (s.recHandle i)) := by
  unfold tryMove
  dsimp only
  rw [hn, hr.isOpen, hr.notLate, seats_suffice hs, hi]
  rfl

/-- Where the destination passes R49's tests, the place and the catering test decide (R51, R165). -/
theorem tryMove_of_free {s : State} {p : Port} {h : Handle} {a : MoveArgs} {r n : Rec} (hn : s.movedTo r a = n)
    (hr : s.Reachable r n) (hs : ∀ k, r.attendees = some k → k ≤ (s.room n.room).seats)
    (hfree : s.freeRun n.room n.plane n.padStart n.padEnd (some h.index)) : tryMove p h a s r =
      if samePlace r n then accept s (movedPayload r.rev r r.deadline none)
      else match s.planMove r n a.dropCatering with
        | .error e => refuse s e.1 e.2
        | .ok plan => accept (s.carryMove p h r n plan)
          (movedPayload s.advanceRev.book.rev n (s.movedDeadline r n) plan.clampedCovers) plan.clampedCovers.isSome := by
  unfold tryMove
  dsimp only
  rw [hn, hr.isOpen, hr.notLate, seats_suffice hs, State.firstConflict_eq_none.mpr hfree] <;> rfl

theorem samePlace_iff (r n : Rec) : samePlace r n = true ↔ n.room = r.room ∧ n.plane = r.plane ∧ n.start = r.start ∧
    n.stop = r.stop ∧ n.padStart = r.padStart ∧ n.padEnd = r.padEnd := by
  unfold samePlace
  simp only [Bool.and_eq_true, decide_eq_true_eq, and_assoc, eq_comm (a := r.room), eq_comm (a := r.plane),
    eq_comm (a := r.start), eq_comm (a := r.stop), eq_comm (a := r.padStart), eq_comm (a := r.padEnd)]

/-! ### The catering test (R51, R165) -/

theorem planMove_of_unordered {s : State} {r n : Rec} {drop : Bool} (h : r.order = none) :
    s.planMove r n drop = .ok .noOrder := by
  unfold State.planMove
  rw [h]

/-- With DROP_CATERING the order's state alone decides. -/
theorem planMove_of_drop {s : State} {r n : Rec} {k : Handle} {o : Order} (h : r.order = some k)
    (ho : Pool.named? s.plan.orders k = some o) : s.planMove r n true = .ok (dropPlan k.index o) := by
  unfold State.planMove dropPlan
  rw [h]
  dsimp only
  simp only [ho]
  cases o.state <;> rfl

theorem planMove_of_accepted {s : State} {r n : Rec} {k : Handle} {o : Order} (h : r.order = some k)
    (ho : Pool.named? s.plan.orders k = some o) (hs : o.state = .accepted) :
    (∀ e, s.readmission o n.room n.startMinute o.request = .error e →
      s.planMove r n false = .error (e.code, e.payload)) ∧
    (∀ m, s.readmission o n.room n.startMinute o.request = .ok m →
      s.planMove r n false = .ok (.readmit k.index o m)) := by
  refine ⟨fun e he => ?_, fun m hm => ?_⟩
  · unfold State.planMove
    rw [h]
    dsimp only
    simp only [ho, hs, he] <;> rfl
  · unfold State.planMove
    rw [h]
    dsimp only
    simp only [ho, hs, hm] <;> rfl

theorem sameMinutesAndBuilding_iff (s : State) (r n : Rec) : s.sameMinutesAndBuilding r n = true ↔
    n.plane = r.plane ∧ n.start = r.start ∧ (s.room n.room).building = (s.room r.room).building := by
  unfold State.sameMinutesAndBuilding
  simp only [Bool.and_eq_true, decide_eq_true_eq, and_assoc, eq_comm (a := r.plane), eq_comm (a := r.start),
    eq_comm (a := (s.room r.room).building)]

/-- An order in preparation locks the booking but within its minutes and building (R165). -/
theorem planMove_of_preparing {s : State} {r n : Rec} {k : Handle} {o : Order} (h : r.order = some k)
    (ho : Pool.named? s.plan.orders k = some o) (hs : o.state = .preparing ∨ o.state = .dispatched) :
    s.planMove r n false = if s.sameMinutesAndBuilding r n then .ok .kept else .error (.caterLocked, .none) := by
  unfold State.planMove
  rw [h]
  dsimp only
  rcases hs with hs | hs <;> simp only [ho, hs] <;> rfl

theorem planMove_of_served {s : State} {r n : Rec} {k : Handle} {o : Order} (h : r.order = some k)
    (ho : Pool.named? s.plan.orders k = some o) (hs : o.state = .delivered ∨ o.state = .forfeit) :
    s.planMove r n false = .ok .kept := by
  unfold State.planMove
  rw [h]
  dsimp only
  rcases hs with hs | hs <;> simp only [ho, hs] <;> rfl

/-! ### The booking a move stores (R50, R165) -/

theorem movedRec_of_linked (s : State) (r n : Rec) {plan : OrderPlan} (h : plan.clearsLink = false) :
    s.movedRec r n plan = { n with deadline := s.movedDeadline r n, order := r.order } := by
  unfold State.movedRec
  rw [h]
  rfl

theorem movedRec_of_cleared (s : State) (r n : Rec) {plan : OrderPlan} (h : plan.clearsLink = true) :
    s.movedRec r n plan = { n with deadline := s.movedDeadline r n, order := none } := by
  unfold State.movedRec
  rw [h]
  rfl

end Sys2Proof.Machine
end

section
/-! SUPPORT. MOVE (O34), settled: the command at a port, outcome by outcome. -/

namespace Sys2Proof.Machine

/-- The command reaches its placement tests (R40, R49). -/
theorem exec_move_of_movable {s : State} {p : Port} {tag : Byte} {h : Handle} {r : Rec} {a : MoveArgs}
    (hready : s.ready p (.move h r.rev a)) (hi : h.index ≤ 2047) (hout : moveOut a = false)
    (hn : Pool.named? s.book.pool h = some r) (hk : r.kind = .booking) (hm : r.movable = true) {u : State} {y : Reply}
    (ht : tryMove p h a (s.taking p tag (.move h r.rev a)) r = (u, y)) :
    exec (.move p tag h r.rev a) s = .next (u.placed p tag y) := by
  have hrun := runMove_of_named (s := s.taking p tag (.move h r.rev a)) (changeCheck_of_ready hready rfl rfl) hi hout hn hk
  rw [hm, ht] at hrun
  exact exec_of_run rfl hready.1 hrun

/-- A move that is carried out, with the plan of its order (R50, R51). -/
theorem exec_move_of_plan {s : State} {p : Port} {tag : Byte} {h : Handle} {r n : Rec} {a : MoveArgs} {d : Deadline}
    (hready : s.ready p (.move h r.rev a)) (hi : h.index ≤ 2047) (hout : moveOut a = false)
    (hn : Pool.named? s.book.pool h = some r) (hk : r.kind = .booking) (hm : r.movable = true)
    (hto : (s.taking p tag (.move h r.rev a)).movedTo r a = n)
    (hd : (s.taking p tag (.move h r.rev a)).movedDeadline r n = d)
    (hreach : (s.taking p tag (.move h r.rev a)).Reachable r n)
    (hseats : ∀ k, r.attendees = some k → k ≤ (s.room n.room).seats)
    (hfree : s.freeRun n.room n.plane n.padStart n.padEnd (some h.index)) (hmoves : samePlace r n = false)
    {plan : OrderPlan} (hplan : (s.taking p tag (.move h r.rev a)).planMove r n a.dropCatering = .ok plan)
    {u : State} (hu : u = (((s.taking p tag (.move h r.rev a)).relocated p h r.owner
      ((s.taking p tag (.move h r.rev a)).movedRec r n plan)).applyPlan p plan).bothChanged r.room n.room) :
    exec (.move p tag h r.rev a) s = .next (u.promotionScan.placed p tag
      { code := .ok, clamped := plan.clampedCovers.isSome
        payload := .moved (satAdd 4294967295 s.book.rev 1) n.room n.plane n.startMinute n.endMinute n.padStart n.padEnd
          d.kind d.minute plan.clampedCovers }) := by
  have htry := tryMove_of_free (p := p) (h := h) hto hreach hseats hfree
  rw [hmoves, hplan, hd] at htry
  dsimp only at htry
  rw [if_neg (by decide), carryMove_eq, ← hu] at htry
  exact exec_move_of_movable hready hi hout hn hk hm htry

theorem clampedCovers_readmit_isSome (j : Nat) (o : Order) (m : Admission) :
    (OrderPlan.readmit j o m).clampedCovers.isSome = m.clamped := by
  change (if m.clamped then some m.covers else none).isSome = m.clamped
  cases m.clamped <;> rfl

/-- Settles O34. -/
theorem moveRelocates : Obligations.MoveRelocates := by
  unfold Obligations.MoveRelocates
  intro p tag h r n a d s hready hi hn hk hany hroom hplane htimes hndef hddef
  have hout := moveOut_of_ranges hany hroom hplane htimes
  have hto : (s.taking p tag (.move h r.rev a)).movedTo r a = n := by
    rw [hndef]
    unfold State.movedTo
    cases a.times <;> rfl
  have hd : (s.taking p tag (.move h r.rev a)).movedDeadline r n = d := hddef.symm
  have hstays : n.order = r.order := by rw [hndef]
  clear hndef hddef
  refine ⟨fun hheld hstate => ?notMovable, fun hm hclosed => ?closed, fun hm hopen hne h0 hlt => ?late,
    fun hm hopen hstart => ⟨fun k hk' hlt => ?full, fun i hseats hconflict => ?conflict⟩,
    fun hm hopen hstart hseats hfree => ⟨fun hsame => ?same, fun hmoves => ⟨fun k o hlink ho hs hdrop hne => ?locked,
      fun hlink => ?unordered, fun k o hlink ho hs hdrop => ?kept, fun k o q hlink ho hs hdrop hq => ?accepted,
      fun k o hlink ho hdrop => ?drop⟩⟩⟩
  case notMovable =>
    have hrun := runMove_of_named (s := s.taking p tag (.move h r.rev a)) (changeCheck_of_ready hready rfl rfl) hi hout
      hn hk
    have hnot : r.movable = false := by
      rw [Bool.eq_false_iff]
      intro hm
      rcases (Rec.movable_iff r).mp hm with hh | ⟨hc, hu⟩
      · exact hheld hh
      · exact hstate.elim (fun h => h hc) fun h => by rw [hu] at h; cases h
    rw [hnot] at hrun
    exact exec_of_run rfl hready.1 hrun
  case closed =>
    exact exec_move_of_movable hready hi hout hn hk ((Rec.movable_iff r).mpr hm) (tryMove_of_closed hto hclosed)
  case late =>
    exact exec_move_of_movable hready hi hout hn hk ((Rec.movable_iff r).mpr hm) (tryMove_of_late hto hopen hne h0 hlt)
  case full =>
    exact exec_move_of_movable hready hi hout hn hk ((Rec.movable_iff r).mpr hm)
      (tryMove_of_full hto ⟨hopen, hstart⟩ hk' hlt)
  case conflict =>
    exact exec_move_of_movable hready hi hout hn hk ((Rec.movable_iff r).mpr hm)
      (tryMove_of_conflict hto ⟨hopen, hstart⟩ hseats hconflict)
  case same =>
    have htry := tryMove_of_free (p := p) (h := h) (s := s.taking p tag (.move h r.rev a)) hto ⟨hopen, hstart⟩ hseats hfree
    rw [(samePlace_iff r n).mpr hsame] at htry
    exact exec_move_of_movable hready hi hout hn hk ((Rec.movable_iff r).mpr hm) htry
  all_goals
    have hmovable := (Rec.movable_iff r).mpr hm
    have hplace : samePlace r n = false := Bool.eq_false_iff.mpr (mt (samePlace_iff r n).mp hmoves)
    have hexec := fun {plan : OrderPlan} {u : State} hplan hu =>
      exec_move_of_plan (tag := tag) hready hi hout hn hk hmovable hto hd ⟨hopen, hstart⟩ hseats hfree hplace (plan := plan) (u := u) hplan hu
    have hrefused := fun (e : Code × Payload)
        (he : (s.taking p tag (.move h r.rev a)).planMove r n a.dropCatering = .error e) => by
      have htry := tryMove_of_free (p := p) (h := h) (s := s.taking p tag (.move h r.rev a)) hto ⟨hopen, hstart⟩ hseats
        hfree
      rw [hplace, he] at htry
      exact exec_move_of_movable (tag := tag) hready hi hout hn hk hmovable htry
  case locked =>
    refine hrefused (.caterLocked, .none) ?_
    rw [hdrop]
    exact (planMove_of_preparing (s := s.taking p tag (.move h r.rev a)) hlink ho hs).trans
      (if_neg (mt (sameMinutesAndBuilding_iff _ _ _).mp hne))
  case unordered =>
    obtain ⟨u, hu⟩ : ∃ u, u = (((s.taking p tag (.move h r.rev a)).relocated p h r.owner
      ((s.taking p tag (.move h r.rev a)).movedRec r n .noOrder)).applyPlan p .noOrder).bothChanged r.room n.room :=
      ⟨_, rfl⟩
    obtain ⟨h1, h2, h3, h4⟩ := relocated_alone (s := s.taking p tag (.move h r.rev a)) (p := p) (owner := r.owner)
      (m := (s.taking p tag (.move h r.rev a)).movedRec r n .noOrder) r.room n.room hn hu
    have hrecord := h1.record
    rw [movedRec_of_linked _ r n rfl, hd, ← hstays] at hrecord
    exact ⟨_, hexec (planMove_of_unordered hlink) hu, hrecord, h1.handle, h1.others, h2, h1.follow.oldDisplay,
      h1.follow.newDisplay, h1.follow.oldTimer, h1.follow.newTimer, h3, h4⟩
  case kept =>
    have hplan : (s.taking p tag (.move h r.rev a)).planMove r n a.dropCatering = .ok .kept := by
      rw [hdrop]
      rcases hs with hs | ⟨hs, hminutes⟩
      · exact planMove_of_served hlink ho hs
      · exact (planMove_of_preparing (s := s.taking p tag (.move h r.rev a)) hlink ho hs).trans
          (if_pos ((sameMinutesAndBuilding_iff _ _ _).mpr hminutes))
    obtain ⟨u, hu⟩ : ∃ u, u = (((s.taking p tag (.move h r.rev a)).relocated p h r.owner
      ((s.taking p tag (.move h r.rev a)).movedRec r n .kept)).applyPlan p .kept).bothChanged r.room n.room :=
      ⟨_, rfl⟩
    obtain ⟨h1, h2, -, h4⟩ := relocated_alone (s := s.taking p tag (.move h r.rev a)) (p := p) (owner := r.owner)
      (m := (s.taking p tag (.move h r.rev a)).movedRec r n .kept) r.room n.room hn hu
    have hrecord := h1.record
    rw [movedRec_of_linked _ r n rfl, hd, hlink] at hrecord
    exact ⟨_, hexec hplan hu, hrecord, h1.handle, h1.others, h2, h1.follow.oldDisplay, h1.follow.newDisplay,
      h1.follow.oldTimer, h1.follow.newTimer, h4⟩
  case accepted =>
    have hrequest : o.request = q := hq.symm
    obtain ⟨herror, hok⟩ := planMove_of_accepted (s := s.taking p tag (.move h r.rev a)) (n := n) hlink ho hs
    rw [hrequest] at herror hok
    refine ⟨fun e he => ?_, fun m hadmit => ?_⟩
    · have hplan := herror e ((readmission_taking _ _ _ _ _ _ _ _).trans he)
      rw [← hdrop] at hplan
      refine (hrefused _ hplan).trans ?_
      cases e <;> rfl
    · have hplan := hok m ((readmission_taking _ _ _ _ _ _ _ _).trans hadmit)
      rw [← hdrop] at hplan
      obtain ⟨u, hu⟩ : ∃ u, u = (((s.taking p tag (.move h r.rev a)).relocated p h r.owner
        ((s.taking p tag (.move h r.rev a)).movedRec r n (.readmit k.index o m))).applyPlan p
          (.readmit k.index o m)).bothChanged r.room n.room :=
        ⟨_, rfl⟩
      obtain ⟨h1, h2, h3, h4⟩ := relocated_readmit (s := s.taking p tag (.move h r.rev a)) (p := p) (owner := r.owner)
        (m := (s.taking p tag (.move h r.rev a)).movedRec r n (.readmit k.index o m)) r.room n.room q m hn ho (u := u)
        (by rw [← hrequest]; exact hu)
      have hrecord := h1.record
      rw [movedRec_of_linked _ r n rfl, hd, hlink] at hrecord
      have hcarried := hexec hplan hu
      rw [clampedCovers_readmit_isSome] at hcarried
      exact ⟨_, hcarried, hrecord, h1.handle, h1.others, h2, h3, h1.follow.oldDisplay, h1.follow.newDisplay,
        h1.follow.oldTimer, h1.follow.newTimer, h4⟩
  case drop =>
    have hplan : (s.taking p tag (.move h r.rev a)).planMove r n a.dropCatering = .ok (dropPlan k.index o) := by
      rw [hdrop]
      exact planMove_of_drop hlink ho
    obtain ⟨hclears, hcovers⟩ := dropPlan_clears k.index o
    obtain ⟨u, hu⟩ : ∃ u, u = (((s.taking p tag (.move h r.rev a)).relocated p h r.owner
      ((s.taking p tag (.move h r.rev a)).movedRec r n (dropPlan k.index o))).applyPlan p
        (dropPlan k.index o)).bothChanged r.room n.room :=
      ⟨_, rfl⟩
    obtain ⟨h1, h2, h3, h4⟩ := relocated_drop (s := s.taking p tag (.move h r.rev a)) (p := p) (owner := r.owner)
      (m := (s.taking p tag (.move h r.rev a)).movedRec r n (dropPlan k.index o)) r.room n.room hn ho hu
    have hrecord := h1.record
    rw [movedRec_of_cleared _ r n hclears, hd] at hrecord
    have hcarried := hexec hplan hu
    rw [hcovers] at hcarried
    exact ⟨_, hcarried, hrecord, h1.handle, h1.others, h2, h1.follow.oldDisplay, h1.follow.newDisplay,
      h1.follow.oldTimer, h1.follow.newTimer, h3, h4⟩

end Sys2Proof.Machine
end
